-- ==== Sys2Proof/Word.lean ====
section
/-! DEFINITION. The word types of the ZW416 (spec 00, section 4.2) and the indexing of the fixed sets of like
units (channels, links, conditions, pins, directory slots, entry slots). -/

namespace Sys2Proof

/-- One byte of a control-link transfer (R166). -/
abbrev Byte := BitVec 8

/-- A signed 16-bit sample or output code, two's complement (R178). -/
abbrev Code := BitVec 16

/-- The 64 data bits of a store line: data bit `p` belongs to sample `p / 16` of the line (R139). -/
abbrev LineData := BitVec 64

/-- One bit for each of the 72 stored bits of a line: 0..63 data, 64..71 check (R139). -/
abbrev LineBits := BitVec 72

/-- Link 0 or Link 1. -/
abbrev LinkId := Fin 2

/-- CH0..CH3. -/
abbrev ChanId := Fin 4

/-- TC0..TC3. -/
abbrev CondId := Fin 4

/-- MK0..MK7. -/
abbrev PinId := Fin 8

/-- A segment id, 0..255 (R2). -/
abbrev SegId := Fin 256

/-- An entry slot's index in a bank, 0..63 (R25). -/
abbrev SlotIx := Fin 64

/-- The unit numbered `i` of a fixed set of like units. -/
def look {α : Type} {n : Nat} (v : Vector α n) (i : Fin n) : α := v[i.val]

/-- The set with the unit numbered `i` replaced. -/
def put {α : Type} {n : Nat} (v : Vector α n) (i : Fin n) (x : α) : Vector α n := v.set i.val x

@[simp] theorem look_put_same {α : Type} {n : Nat} (v : Vector α n) (i : Fin n) (x : α) :
    look (put v i x) i = x := by
  simp [look, put]

@[simp] theorem look_put_ne {α : Type} {n : Nat} (v : Vector α n) {i j : Fin n} (x : α) (h : i ≠ j) :
    look (put v i x) j = look v j := by
  have : i.val ≠ j.val := fun e => h (Fin.ext e)
  simp [look, put, this]

theorem look_put {α : Type} {n : Nat} (v : Vector α n) (i j : Fin n) (x : α) :
    look (put v i x) j = if i = j then x else look v j := by
  by_cases h : i = j
  · subst h; simp
  · simp [h]

@[simp] theorem look_replicate {α : Type} {n : Nat} (x : α) (i : Fin n) :
    look (Vector.replicate n x) i = x := by
  simp [look]

theorem vector_ext_look {α : Type} {n : Nat} {v w : Vector α n} (h : ∀ i, look v i = look w i) : v = w := by
  apply Vector.ext
  intro i hi
  exact h ⟨i, hi⟩

@[simp] theorem put_look {α : Type} {n : Nat} (v : Vector α n) (i : Fin n) : put v i (look v i) = v := by
  apply vector_ext_look
  intro j
  rw [look_put]
  split
  · next h => rw [h]
  · rfl

end Sys2Proof
end

