-- ==== Sys2Proof/Config.lean ====
section
/-! DEFINITION. The part's fixed figures, and the free values: what the spec calls undefined or leaves to the
part without stating it. A free value is an opaque constant without a body, so no proof can see what it is. -/

namespace Sys2Proof

/-- What the check of the 72 stored bits of an unmarked line finds (R139). -/
inductive BitOutcome where
  /-- data and check bits agree -/
  | clean
  /-- the bits differ from a consistent line in the one position named -/
  | single (position : Fin 72)
  /-- no one corrected position explains the bits -/
  | double
  deriving DecidableEq, Repr, Inhabited

namespace Config

/-- Lines of the sample store: 16,384 blocks of 16 lines (spec 00 section 4.2). -/
def storeLines : Nat := 262144

/-- Blocks of the sample store. -/
def storeBlocks : Nat := 16384

/-- The largest payload length of a command frame (R167). -/
def receiveBuffer : Nat := 2056

/-- One sample, in units of 2^-24 sample (spec 00 section 4.2). -/
def oneSample : Nat := 16777216

/-- FREE VALUE (R139): "A line with three or more wrong bits may be classified as clean, as single-bit with any
bit position 0..71, or as double-bit". The class as a function of the data last written and of the wrong bits. -/
opaque manyWrongBits : LineData → LineBits → BitOutcome

/-- FREE VALUE (R1): the data bits of a store line that nothing has written since the `n`-th power-on. -/
opaque undefinedData : Nat → Nat → LineData

/-- FREE VALUE (R1): which stored bits of such a line disagree with a consistent line holding that data. -/
opaque undefinedFaults : Nat → Nat → LineBits

/-- FREE VALUE (R1): the poison mark of such a line. -/
opaque undefinedMark : Nat → Nat → Bool

/-- FREE VALUE (R139): the check bits computed from a line's data bits; "The check-bit equations are not given
in this manual." -/
opaque checkBits : LineData → BitVec 8

end Config

end Sys2Proof
end

