-- ==== Sys2Proof/Syntax.lean ====
section
/-! DEFINITION. The commands of the ZW416: one constructor for each row of spec/opcode_table.json, in the table's
order. A row that the spec answers with a response is the release of one well-framed command frame (R166 to
R169): the link it arrives on, its tag byte, and its payload as it stood on the wire, so that every payload
length and every field encoding of R178 can be sent. A row that is an event carries what its surroundings
decide: the levels sampled at the trigger pins, the bytes of a transfer, the stored bits that have gone wrong. -/

namespace Sys2Proof

inductive Instr where
  /-- RESETn asserted and released; `selected` says of each link whether its chip select is asserted at the
  release of RESETn, so that the transfer it began is one of those R177 ignores in whole. -/
  | powerOnReset (selected : BitVec 2)
  /-- LRSTn of the link asserted (R175). -/
  | linkReset (n : LinkId)
  /-- LRSTn of the link released; `selected` says whether the link's chip select is asserted at that moment, so
  that the transfer it began is ignored in whole (R176). -/
  | linkResetRelease (n : LinkId) (selected : Bool)
  /-- A transfer released whose complete bytes fail the framing checks of R167, or one released with no complete byte
  (R166), which the table gives no row of its own. -/
  | frameError (n : LinkId) (bytes : List Byte)
  /-- A well-framed command frame released at a link that is EXECUTING or HOLDING (R168). -/
  | commandDropped (n : LinkId) (tag code : Byte) (payload : List Byte)
  /-- A command frame whose code names no command (R169 step 1). -/
  | unknownCommand (n : LinkId) (tag code : Byte) (payload : List Byte)
  /-- A 0xD2 transfer of `count` complete bytes in all, the kind byte included (R171, R172). -/
  | responseFetch (n : LinkId) (count : Nat)
  | identify (n : LinkId) (tag : Byte) (payload : List Byte)
  | createSegment (n : LinkId) (tag : Byte) (payload : List Byte)
  | writeSamples (n : LinkId) (tag : Byte) (payload : List Byte)
  | finishSegment (n : LinkId) (tag : Byte) (payload : List Byte)
  | abandonSegment (n : LinkId) (tag : Byte) (payload : List Byte)
  | deleteSegment (n : LinkId) (tag : Byte) (payload : List Byte)
  | readSamples (n : LinkId) (tag : Byte) (payload : List Byte)
  | querySegment (n : LinkId) (tag : Byte) (payload : List Byte)
  | findTag (n : LinkId) (tag : Byte) (payload : List Byte)
  | libraryStatus (n : LinkId) (tag : Byte) (payload : List Byte)
  | writeEntry (n : LinkId) (tag : Byte) (payload : List Byte)
  | clearEntry (n : LinkId) (tag : Byte) (payload : List Byte)
  | setTableEnd (n : LinkId) (tag : Byte) (payload : List Byte)
  | commitTable (n : LinkId) (tag : Byte) (payload : List Byte)
  | cancelCommit (n : LinkId) (tag : Byte) (payload : List Byte)
  | discardStaged (n : LinkId) (tag : Byte) (payload : List Byte)
  | readEntry (n : LinkId) (tag : Byte) (payload : List Byte)
  | tableStatus (n : LinkId) (tag : Byte) (payload : List Byte)
  | start (n : LinkId) (tag : Byte) (payload : List Byte)
  | stop (n : LinkId) (tag : Byte) (payload : List Byte)
  | channelStatus (n : LinkId) (tag : Byte) (payload : List Byte)
  | setScale (n : LinkId) (tag : Byte) (payload : List Byte)
  | setRate (n : LinkId) (tag : Byte) (payload : List Byte)
  | setChannelConfig (n : LinkId) (tag : Byte) (payload : List Byte)
  | channelSettings (n : LinkId) (tag : Byte) (payload : List Byte)
  | setCondition (n : LinkId) (tag : Byte) (payload : List Byte)
  | setConditionEnable (n : LinkId) (tag : Byte) (payload : List Byte)
  | fireCondition (n : LinkId) (tag : Byte) (payload : List Byte)
  | conditionStatus (n : LinkId) (tag : Byte) (payload : List Byte)
  | setMarker (n : LinkId) (tag : Byte) (payload : List Byte)
  | markerStatus (n : LinkId) (tag : Byte) (payload : List Byte)
  | setScrub (n : LinkId) (tag : Byte) (payload : List Byte)
  | errorLogRead (n : LinkId) (tag : Byte) (payload : List Byte)
  | errorLogClear (n : LinkId) (tag : Byte) (payload : List Byte)
  | setClockWindow (n : LinkId) (tag : Byte) (payload : List Byte)
  | clockStatus (n : LinkId) (tag : Byte) (payload : List Byte)
  | readEvents (n : LinkId) (tag : Byte) (payload : List Byte)
  | ackEvents (n : LinkId) (tag : Byte) (payload : List Byte)
  | setEventMask (n : LinkId) (tag : Byte) (payload : List Byte)
  /-- One period of the sample clock; bit `i` of `levels` is the level sampled at TIi (R47, R93, R109). -/
  | outputTick (levels : BitVec 8)
  /-- The output tick at which condition `k` fires (R100). -/
  | conditionFiring (k : CondId) (levels : BitVec 8)
  /-- The output tick at which holdoff remaining of condition `k` reaches 0 (R98). -/
  | holdoffExpiry (k : CondId) (levels : BitVec 8)
  /-- The output tick that is a pass end of channel `ch` (R53). -/
  | passEnd (ch : ChanId) (levels : BitVec 8)
  /-- The output tick at which pulse remaining of pin `pin` reaches 0 (R118). -/
  | markerPulseEnd (pin : PinId) (levels : BitVec 8)
  /-- The gate timer reaches 0 (R158). -/
  | measurementGateEnd
  /-- The scrub timer reaches 0 (R149). -/
  | scrubExpiry
  /-- One grant decision of the store arbiter (R124). -/
  | storeGrant
  /-- The zero-fill write in transfer ends (R10). -/
  | zeroFillWriteEnd
  /-- The merge read or line write of a WRITE_SAMPLES in transfer ends (R14); `upset` holds the stored bits of
  the line that have gone wrong in the store since it was last written or read. -/
  | writeSamplesTransferEnd (upset : LineBits)
  /-- The sample read in transfer ends (R19); `upset` as above. -/
  | readSamplesLineEnd (upset : LineBits)
  /-- The prefetch read in transfer ends (R132); `upset` as above. -/
  | prefetchReadEnd (upset : LineBits)
  /-- The scrub read in transfer ends (R140); `upset` as above. -/
  | scrubReadEnd (upset : LineBits)
  /-- The poison-mark write in transfer ends (R143). -/
  | markWriteEnd
  /-- The correction write-back in transfer ends (R146). -/
  | writeBackEnd
  deriving DecidableEq, Repr

end Sys2Proof
end

