-- ==== Sys2Proof/Decode.lean ====
section
/-! DEFINITION. The reading of frames: the framing checks of a released transfer (R167), the command codes and
the payload lengths their layouts allow (R169, spec 10 section 10.7.2). Spec/opcode_table.json gives no row any
bits, so no table word spells a command. -/

namespace Sys2Proof

/-- The command a table word spells: the table gives no row any bits. -/
def decodeTableWord (_nbits _w : Nat) : Option Instr := none

/-- The payload length field of a command frame, bytes 3 and 4, least significant first (R167). -/
def payloadLengthField (bytes : List Byte) : Nat :=
  (bytes.getD 3 0).toNat + 256 * (bytes.getD 4 0).toNat

/-- The framing checks of R167 on the complete bytes of a released transfer: `true` is a frame error. -/
def frameFails (bytes : List Byte) : Bool :=
  match bytes with
  | [] => false
  | kind :: _ =>
    if kind = 0xC1#8 then
      bytes.length < 5 || Config.receiveBuffer < payloadLengthField bytes
        || bytes.length - 5 ≠ payloadLengthField bytes
    else kind ≠ 0xD2#8

/-- The payload lengths the layout of a command code allows (R169 step 2, spec 10 section 10.7.2); `none` for a
code that names no command. -/
def layoutAllows (code : Byte) (len : Nat) : Option Bool :=
  match code.toNat with
  | 0x01 => some (len == 0)
  | 0x10 => some (len == 4)
  | 0x11 => some (7 ≤ len && (len - 7) % 2 == 0)
  | 0x12 => some (len == 5)
  | 0x13 => some (len == 1)
  | 0x14 => some (len == 1)
  | 0x15 => some (len == 7)
  | 0x16 => some (len == 1)
  | 0x17 => some (len == 4)
  | 0x18 => some (len == 0)
  | 0x20 => some (len == 17)
  | 0x21 => some (len == 2)
  | 0x22 => some (len == 4)
  | 0x23 => some (len == 3)
  | 0x24 => some (len == 1)
  | 0x25 => some (len == 1)
  | 0x26 => some (len == 3)
  | 0x27 => some (len == 1)
  | 0x30 => some (len == 2)
  | 0x31 => some (len == 2)
  | 0x32 => some (len == 2)
  | 0x33 => some (len == 6)
  | 0x34 => some (len == 6)
  | 0x35 => some (len == 6)
  | 0x36 => some (len == 1)
  | 0x40 => some (len == 10)
  | 0x41 => some (len == 2)
  | 0x42 => some (len == 1)
  | 0x43 => some (len == 2)
  | 0x48 => some (len == 4)
  | 0x49 => some (len == 0)
  | 0x50 => some (len == 4)
  | 0x51 => some (len == 0)
  | 0x52 => some (len == 0)
  | 0x58 => some (len == 4)
  | 0x59 => some (len == 0)
  | 0x60 => some (len == 0)
  | 0x61 => some (len == 6)
  | 0x62 => some (len == 6)
  | _ => none

/-- The code names a command of spec 10 section 10.7.2. -/
def namesCommand (code : Byte) : Bool := (layoutAllows code 0).isSome

end Sys2Proof
end

