-- ==== Sys2Proof/Machine/State.lean ====
section
/-! DEFINITION. The state of the ZW416: every piece of state the spec gives each block (spec 00, section 2.1), as
plain data, and the state after a power-on reset. -/

namespace Sys2Proof.Machine

open Sys2Proof

/-! ### The waveform library (chapter 1) -/

/-- A run of consecutive store blocks (R1, R4). -/
structure Extent where
  first : Nat
  count : Nat
  deriving DecidableEq, Repr, Inhabited

/-- A slot's state with the fields present in it (R2, R7): an OPEN slot has one owner, any other has none. -/
inductive SlotBody where
  | free
  | opened (owner : LinkId) (length : Nat) (extent : Extent)
  | ready (length : Nat) (extent : Extent) (tag : BitVec 32)
  deriving DecidableEq, Repr, Inhabited

/-- A directory slot; its id is its number in the directory (R2). -/
structure Slot where
  body : SlotBody
  refCount : Nat
  poisoned : Nat
  filling : Bool
  deriving DecidableEq, Repr, Inhabited

/-- What a line of the store holds (R139): the data last written to it, the stored bits that no longer agree with
that data and its check bits (0..63 data, 64..71 check), and the poison mark. -/
structure StoredLine where
  data : LineData
  faults : LineBits
  mark : Bool
  deriving DecidableEq, Repr, Inhabited

/-! ### Sequence tables (chapter 2) -/

inductive WaitLevel where
  | hold | park
  deriving DecidableEq, Repr, Inhabited

inductive JumpTiming where
  | immediate | atPassEnd
  deriving DecidableEq, Repr, Inhabited

structure Jump where
  cond : CondId
  timing : JumpTiming
  target : SlotIx
  deriving DecidableEq, Repr, Inhabited

/-- An entry (R26); `gate` and `jump` and `step` are `none` for NONE or absent. -/
structure Entry where
  segment : SegId
  repeats : Nat
  gate : Option CondId
  waitLevel : WaitLevel
  jump : Option Jump
  markers : BitVec 4
  step : Option Nat
  deriving DecidableEq, Repr, Inhabited

inductive EndAction where
  | loop (index : SlotIx)
  | stop
  deriving DecidableEq, Repr, Inhabited

/-- A bank (R25): 64 entry slots, the table length and the end action. -/
structure Bank where
  slots : Vector (Option Entry) 64
  count : Nat
  endAction : EndAction
  deriving DecidableEq, Repr

/-- A channel's two banks, the staged bank's editor (R29) and the swap number (R43). -/
structure Tables where
  active : Bank
  staged : Bank
  editor : Option LinkId
  swaps : BitVec 16
  deriving DecidableEq, Repr

/-! ### Channel sequencers and synthesis units (chapters 3 and 4) -/

inductive ChannelMode where
  | idle | waiting | running | halted
  deriving DecidableEq, Repr, Inhabited

inductive StopMode where
  | immediate | atPassEnd | atEntryEnd
  deriving DecidableEq, Repr, Inhabited

inductive CommitPoint where
  | atEntryEnd | atTableEnd
  deriving DecidableEq, Repr, Inhabited

structure Commit where
  point : CommitPoint
  target : SlotIx
  deriving DecidableEq, Repr, Inhabited

/-- A gain in units of 2^-14 and an offset in codes, both two's complement (R71, R178). -/
structure Scale where
  gain : BitVec 16
  offset : BitVec 16
  deriving DecidableEq, Repr, Inhabited

inductive Interpolation where
  | linear | nearest
  deriving DecidableEq, Repr, Inhabited

/-- The channel record of R46 (mode to pendingRate), the synthesis record of R71 (phase to substitutions), the
port path of 24 places, newest first, and the code at the sample port (R47). The phase is the number
`index * 2^24 + fraction` of spec 04, section 4.2. -/
structure Channel where
  mode : ChannelMode
  entry : SlotIx
  passes : Nat
  armed : Option SlotIx
  stop : Option StopMode
  commit : Option Commit
  pendingScale : Option Scale
  pendingRate : Option Nat
  phase : Nat
  defaultStep : Nat
  currentStep : Nat
  scale : Scale
  interpolation : Interpolation
  sumSource : Option ChanId
  park : Code
  haltOnLoss : Bool
  last : Code
  clipEpisode : Bool
  passClipped : Bool
  underrunEpisode : Bool
  clips : Nat
  underruns : Nat
  substitutions : Nat
  path : List Code
  presented : Code
  deriving DecidableEq, Repr

/-! ### Prefetch (chapter 7) -/

/-- A line held in a prefetch FIFO (R128). -/
structure FifoLine where
  place : Nat
  segment : SegId
  line : Nat
  data : LineData
  poisoned : Bool
  deriving DecidableEq, Repr

/-- A place of the predicted play path with where it lies in the table: entry, pass of the entry, line of the
segment (R129). -/
structure PathPos where
  place : Nat
  entry : SlotIx
  pass : Nat
  line : Nat
  deriving DecidableEq, Repr

/-- A prefetch request: the place, the segment and the store line asked for (R131). -/
structure PrefetchRequest where
  pos : PathPos
  segment : SegId
  addr : Nat
  deriving DecidableEq, Repr

/-- A channel's FIFO, oldest place first, the first place of the predicted path not yet requested (`none` past the
path's end), the play position (R133) and the request waiting for its grant. -/
structure Prefetch where
  fifo : List FifoLine
  next : Option PathPos
  play : Nat
  waiting : Option PrefetchRequest
  deriving DecidableEq, Repr

/-! ### Trigger unit (chapter 5) -/

inductive CondMode where
  | depart | arrive
  deriving DecidableEq, Repr, Inhabited

/-- A condition's record (R95). -/
structure Condition where
  enabled : Bool
  mask : BitVec 12
  reference : BitVec 12
  mode : CondMode
  prescaler : Nat
  holdoff : Nat
  previous : Bool
  count : Nat
  holdoffLeft : Nat
  request : Bool
  firings : BitVec 32
  deriving DecidableEq, Repr

/-- The four conditions, the eight places of the pins' delay lines, newest first (R93), the twelve sources as seen
at the last tick taken, and the pass-end pulses emitted at it, to be seen at the next (R94). -/
structure Trigger where
  conds : Vector Condition 4
  delay : List (BitVec 8)
  seen : BitVec 12
  pulses : BitVec 4
  deriving DecidableEq, Repr

/-! ### Marker unit (chapter 6) -/

inductive MarkerSource where
  | static (level : Bool)
  | entryBit (ch : ChanId) (bit : Fin 4)
  | passToggle (ch : ChanId) (initial : Bool)
  | firePulse (k : CondId) (width : Nat)
  | running (ch : ChanId)
  deriving DecidableEq, Repr

/-- A marker pin: source, toggle state, pulse remaining, marker path of 24 places newest first, the level the pin
presents and the level computed at the last tick taken (spec 06 section 6.1, R120). -/
structure MarkerPin where
  source : MarkerSource
  toggle : Bool
  pulse : Nat
  path : List Bool
  presented : Bool
  computed : Bool
  deriving DecidableEq, Repr

/-! ### Store arbiter and integrity unit (chapters 7 and 8) -/

/-- A link-class line transfer (R123). -/
inductive LinkXfer where
  | zeroWrite (addr : Nat)
  | lineWrite (addr : Nat) (data : LineData)
  | mergeRead (addr : Nat)
  | sampleRead (addr : Nat)
  deriving DecidableEq, Repr

/-- A record of the pending-mark list (R142). -/
structure MarkRecord where
  addr : Nat
  segment : SegId
  deriving DecidableEq, Repr

/-- A record of the correction write-back queue (R145). -/
structure WriteBack where
  addr : Nat
  segment : SegId
  data : LineData
  deriving DecidableEq, Repr

/-- The write side's request (R143). -/
inductive WriteRequest where
  | mark (r : MarkRecord)
  | writeBack (r : WriteBack)
  deriving DecidableEq, Repr

/-- The transfer on the store port. `live` is false for a link transfer whose command a link reset has stopped and
for a prefetch read whose path has been flushed since it was requested (R122, R132). -/
inductive Transfer where
  | prefetch (ch : ChanId) (r : PrefetchRequest) (live : Bool)
  | link (n : LinkId) (x : LinkXfer) (live : Bool)
  | scrub (addr : Nat)
  | mark (r : MarkRecord)
  | writeBack (r : WriteBack)
  deriving DecidableEq, Repr

/-- The two requesters of class 4 (R127). -/
inductive Class4 where
  | scrubber | writeSide
  deriving DecidableEq, Repr, Inhabited

/-- The store port and the arbiter's pointers and records (R122, R125, R126, R127, R138). -/
structure Arbiter where
  port : Option Transfer
  urgentPtr : ChanId
  calmPtr : ChanId
  lastLink : LinkId
  lastClass4 : Class4
  deriving DecidableEq, Repr

inductive ErrorClass where
  | correctable | uncorrectable
  deriving DecidableEq, Repr, Inhabited

/-- Who met an error (R152). -/
inductive ErrorSource where
  | prefetch (ch : ChanId)
  | link (n : LinkId)
  | scrub
  deriving DecidableEq, Repr

/-- An error record; the bit position is present for CORRECTABLE only (R152). -/
structure ErrorRecord where
  cls : ErrorClass
  source : ErrorSource
  addr : Nat
  segment : SegId
  bit : Option (Fin 72)
  deriving DecidableEq, Repr

/-- The error log (R152); a pair of the successor set stands at bit class × 7 + source. -/
structure ErrorLog where
  first : Option ErrorRecord
  successors : BitVec 14
  correctable : Nat
  uncorrectable : Nat
  deriving DecidableEq, Repr

/-- The scrubber (R148). -/
structure Scrub where
  interval : Nat
  timer : Nat
  cursor : Nat
  request : Option Nat
  deriving DecidableEq, Repr

/-! ### Sample clock monitor (chapter 9) -/

/-- The monitor (R157). -/
structure Monitor where
  locked : Bool
  goodGates : Nat
  edges : Nat
  gateTimer : Nat
  lastCount : Option Nat
  windowMin : Nat
  windowMax : Nat
  deriving DecidableEq, Repr

/-! ### Control links and notification (chapters 10 and 11) -/

/-- The status codes of R173. -/
inductive Status where
  | ok | taken | pending | unknownCommand | badLength | outOfRange | wrongState | notOwner | noId | noSpace | inUse
  | noSegment | stagedBusy | commitPending | notPending | invalidTable | emptyTable | channelRunning | noClock
  deriving DecidableEq, Repr, Inhabited

/-- A response: tag, status and payload (R165). -/
structure Response where
  tag : Byte
  status : Status
  payload : List Byte
  deriving DecidableEq, Repr

/-- The work of a long command that is left to do (R10, R12, R18). A zero-fill has the store lines `next` to
`stop - 1` left; a write has the segment lines `line` to `last` left and, between a merge read and its write, the
merged line; a read has the segment lines `line` to `last` left and holds the lines delivered so far, in order. -/
inductive LongWork where
  | zeroFill (id : SegId) (next stop : Nat)
  | write (id : SegId) (base offset : Nat) (samples : List Code) (line last : Nat) (merged : Option LineData)
  | read (id : SegId) (base offset count : Nat) (line last : Nat) (got : List (LineData × Bool))
  deriving DecidableEq, Repr

/-- A link's state with what it holds there (R165): in EXECUTING the tag and the command in hand, in HOLDING the
response. -/
inductive LinkPhase where
  | free
  | executing (tag : Byte) (work : LongWork)
  | holding (r : Response)
  deriving DecidableEq, Repr

/-- A control link: its phase, its store request waiting for a grant (R123), flag set and mask set (R179), whether
LRSTn is asserted, whether the transfer now running on the link is one to be ignored (R176, R177), and the bytes
the part drove on SDOn over the last transfer it heard (R166, R171). -/
structure Link where
  phase : LinkPhase
  request : Option LinkXfer
  flags : BitVec 41
  masks : BitVec 41
  inReset : Bool
  ignoring : Bool
  sdo : List Byte
  deriving DecidableEq, Repr

/-- The state of the part, with the queue of the commands that wait. `powerUps` is the model's own: the index of
the free values the undefined store is made of, one for each power-on. -/
structure State where
  pending : List Instr
  powerUps : Nat
  slots : Vector Slot 256
  free : List Extent
  store : List (Nat × StoredLine)
  tables : Vector Tables 4
  channels : Vector Channel 4
  prefetch : Vector Prefetch 4
  trigger : Trigger
  pins : Vector MarkerPin 8
  patterns : Vector (BitVec 4) 4
  arbiter : Arbiter
  marks : List MarkRecord
  writeBacks : List WriteBack
  writeSide : Option WriteRequest
  scrub : Scrub
  log : ErrorLog
  monitor : Monitor
  links : Vector Link 2
  deriving DecidableEq, Repr

/-- The faults. -/
inductive Fault where
  /-- Raised at the end of a store transfer whose line address lies outside the store's 0..262,143. SAFE: no rule
  gives such a transfer an effect, and no state reached from reset holds one. -/
  | lineOutsideStore (addr : Nat)
  deriving DecidableEq, Repr

/-- The refusals. -/
inductive Refusal where
  /-- Raised by an arm of `exec` whose command has no meaning yet. SAFE: the run stops there. No arm raises it. -/
  | notModelled (mnemonic : String)
  deriving DecidableEq, Repr

/-- What executing a command answers. -/
abbrev Result := Host.Outcome State Fault Refusal

/-! ### After a power-on reset -/

/-- A FREE slot (R20, R23). -/
def Slot.empty : Slot := ⟨.free, 0, 0, false⟩

/-- A bank after power-on (R44). -/
def Bank.empty : Bank := ⟨Vector.replicate 64 none, 0, .stop⟩

/-- A channel's tables after power-on (R44). -/
def Tables.reset : Tables := ⟨Bank.empty, Bank.empty, none, 0#16⟩

/-- A channel after power-on (R70, R92). -/
def Channel.reset : Channel where
  mode := .idle
  entry := 0
  passes := 0
  armed := none
  stop := none
  commit := none
  pendingScale := none
  pendingRate := none
  phase := 0
  defaultStep := 16777216
  currentStep := 16777216
  scale := ⟨16384#16, 0#16⟩
  interpolation := .linear
  sumSource := none
  park := 0#16
  haltOnLoss := true
  last := 0#16
  clipEpisode := false
  passClipped := false
  underrunEpisode := false
  clips := 0
  underruns := 0
  substitutions := 0
  path := List.replicate 24 0#16
  presented := 0#16

/-- A channel's prefetcher after power-on: FIFO empty, path empty, play position 0 (R138). -/
def Prefetch.reset : Prefetch := ⟨[], none, 0, none⟩

/-- A condition after power-on (R111). -/
def Condition.reset : Condition := ⟨false, 0#12, 0#12, .depart, 1, 0, true, 0, 0, false, 0#32⟩

/-- The trigger unit after power-on: every delay place and every PE line low (R93, R94, R111). -/
def Trigger.reset : Trigger := ⟨Vector.replicate 4 Condition.reset, List.replicate 8 0#8, 0#12, 0#4⟩

/-- A marker pin after power-on (R121). -/
def MarkerPin.reset : MarkerPin := ⟨.static false, false, 0, List.replicate 24 false, false, false⟩

/-- A link after power-on (R165, R177, R189); its LRSTn released and no transfer to be ignored (log entry 10). -/
def Link.reset : Link := ⟨.free, none, 0#41, BitVec.allOnes 41, false, false, []⟩

/-- The part right after a power-on reset: the values of R23, R44, R70, R92, R111, R121, R138, R156, R157, R165 and
R189. -/
def State.reset : State where
  pending := []
  powerUps := 0
  slots := Vector.replicate 256 Slot.empty
  free := [⟨0, 16384⟩]
  store := []
  tables := Vector.replicate 4 Tables.reset
  channels := Vector.replicate 4 Channel.reset
  prefetch := Vector.replicate 4 Prefetch.reset
  trigger := Trigger.reset
  pins := Vector.replicate 8 MarkerPin.reset
  patterns := Vector.replicate 4 0#4
  arbiter := ⟨none, 0, 0, 1, .scrubber⟩
  marks := []
  writeBacks := []
  writeSide := none
  scrub := ⟨64, 64, 0, none⟩
  log := ⟨none, 0#14, 0, 0⟩
  monitor := ⟨false, 0, 0, 100, none, 1000, 50000⟩
  links := Vector.replicate 2 Link.reset

end Sys2Proof.Machine
end

