-- ==== Sys2Proof/Machine/Flags.lean ====
section
/-! DEFINITION. The 41 event flags, their positions (spec 10 section 10.7.6), their groups (spec 11 section 11.2)
and the judgement of the notification line (R186). -/

namespace Sys2Proof.Machine

open Sys2Proof

/-- The event flags of R180. -/
inductive EventFlag where
  | started (ch : ChanId)
  | ended (ch : ChanId)
  | waitBegan (ch : ChanId)
  | commitTaken (ch : ChanId)
  | underrunBegan (ch : ChanId)
  | clipBegan (ch : ChanId)
  | halted (ch : ChanId)
  | fired (k : CondId)
  | corrected
  | uncorrectable
  | scrubPass
  | lockGained
  | lockLost
  | libraryChanged
  | responseReady
  | commandDropped
  | frameError
  deriving DecidableEq, Repr

/-- A flag's position in the flag set and the mask set (spec 10 section 10.7.6). -/
def flagPos : EventFlag → Nat
  | .started ch => 7 * ch.val
  | .ended ch => 7 * ch.val + 1
  | .waitBegan ch => 7 * ch.val + 2
  | .commitTaken ch => 7 * ch.val + 3
  | .underrunBegan ch => 7 * ch.val + 4
  | .clipBegan ch => 7 * ch.val + 5
  | .halted ch => 7 * ch.val + 6
  | .fired k => 28 + k.val
  | .corrected => 32
  | .uncorrectable => 33
  | .scrubPass => 34
  | .lockGained => 35
  | .lockLost => 36
  | .libraryChanged => 37
  | .responseReady => 38
  | .commandDropped => 39
  | .frameError => 40

/-- The flag set that holds the one flag. -/
def flagBit (f : EventFlag) : BitVec 41 := BitVec.twoPow 41 (flagPos f)

/-- The flag stands in the set. -/
def hasFlag (set : BitVec 41) (f : EventFlag) : Bool := set.getLsbD (flagPos f)

/-- The set and unmasked positions of a link (R186, R187). -/
def drivingFlags (l : Link) : BitVec 41 := l.flags &&& ~~~l.masks

/-- NOTIFYn of the link is asserted: some position is set and unmasked (R186), and LRSTn is not held (R176). -/
def notifyAsserted (l : Link) : Bool := !l.inReset && drivingFlags l != 0#41

/-- The nine groups, first position and number of positions, in the order of the group summary: CH0 to CH3,
TRIGGER, STORE, CLOCK, LIBRARY, LINK (spec 10 section 10.7.2). -/
def flagGroups : List (Nat × Nat) :=
  [(0, 7), (7, 7), (14, 7), (21, 7), (28, 4), (32, 3), (35, 2), (37, 1), (38, 3)]

/-- A group holds at least one flag that is set and unmasked (R187). -/
def groupDrives (driving : BitVec 41) (g : Nat × Nat) : Bool :=
  (List.range g.2).any fun i => driving.getLsbD (g.1 + i)

/-- The group summary of READ_EVENTS: one bit for each group, at bits 0..8 (R187). -/
def groupSummary (l : Link) : Nat :=
  flagGroups.foldr (fun g acc => 2 * acc + (if groupDrives (drivingFlags l) g then 1 else 0)) 0

end Sys2Proof.Machine
end

