-- ==== Sys2Proof/Machine/Operands.lean ====
section
/-! DEFINITION. The fields of payloads and records: how each is read from a command payload and written to a
response payload (R178 and spec 10 sections 10.7.2 to 10.7.6). -/

namespace Sys2Proof.Machine

open Sys2Proof

/-! ### Numbers and enumerations -/

/-- The byte at an offset of a payload. -/
def byteAt (p : List Byte) (i : Nat) : Nat := (p.getD i 0#8).toNat

/-- A field of `k` bytes, least significant byte first (R178). -/
def fieldAt (p : List Byte) (i : Nat) : Nat → Nat
  | 0 => 0
  | k + 1 => byteAt p i + 256 * fieldAt p (i + 1) k

/-- A number as `k` bytes, least significant byte first (R178). -/
def leBytes : Nat → Nat → List Byte
  | 0, _ => []
  | k + 1, n => BitVec.ofNat 8 n :: leBytes k (n / 256)

/-- A 16-bit two's complement field (R178). -/
def codeAt (p : List Byte) (i : Nat) : Code := BitVec.ofNat 16 (fieldAt p i 2)

/-- A one-byte field that takes the values `0..n-1`; any other value is outside the field's range. -/
def finAt (n : Nat) (p : List Byte) (i : Nat) : Option (Fin n) :=
  if h : byteAt p i < n then some ⟨byteAt p i, h⟩ else none

/-- A one-byte field that takes the values 0 and 1, presence bytes among them (R178). -/
def flagAt (p : List Byte) (i : Nat) : Option Bool :=
  match byteAt p i with
  | 0 => some false
  | 1 => some true
  | _ => none

/-- One byte of a response. -/
def oneByte (n : Nat) : Byte := BitVec.ofNat 8 n

/-- A response byte that is 0 or 1. -/
def boolByte (b : Bool) : Byte := if b then 1#8 else 0#8

/-- A segment id field, one byte. -/
def segmentAt (p : List Byte) (i : Nat) : SegId := Fin.ofNat 256 (byteAt p i)

/-- Bytes packed from flags, the first flag at bit 0 of the first byte (spec 10 section 10.7.2, READ_SAMPLES). The
bits of the last byte past the last flag are sent as 0, which the spec leaves open (DESIGN CHOICE, log entry 31). -/
def packBits (flags : List Bool) : List Byte :=
  (List.range ((flags.length + 7) / 8)).map fun b =>
    oneByte ((List.range 8).foldr (fun i acc => 2 * acc + (if flags.getD (8 * b + i) false then 1 else 0)) 0)

/-- A step clamped to 1..16,777,216 (R26, R87). -/
def clampStep (n : Nat) : Nat := if n = 0 then 1 else min n Config.oneSample

/-- A channel set: bits 0..3 of one byte, bits 4..7 clear and not empty (R178, R49, R51). -/
def channelSetAt (p : List Byte) (i : Nat) : Option (BitVec 4) :=
  let b := byteAt p i
  if b = 0 || 16 ≤ b then none else some (BitVec.ofNat 4 b)

/-- The channels of a set in ascending order. -/
def channelsOf (set : BitVec 4) : List ChanId := (List.finRange 4).filter fun ch => set.getLsbD ch.val

/-- A stop mode: 0 IMMEDIATE, 1 AT_PASS_END, 2 AT_ENTRY_END. -/
def stopModeAt (p : List Byte) (i : Nat) : Option StopMode :=
  match byteAt p i with
  | 0 => some .immediate
  | 1 => some .atPassEnd
  | 2 => some .atEntryEnd
  | _ => none

/-- A commit point: 0 AT_ENTRY_END, 1 AT_TABLE_END. -/
def commitPointAt (p : List Byte) (i : Nat) : Option CommitPoint :=
  match byteAt p i with
  | 0 => some .atEntryEnd
  | 1 => some .atTableEnd
  | _ => none

/-- A gate: 0 NONE, 1..4 TC0..TC3 (spec 10 section 10.7.3); the outer `none` is a value outside the encoding. -/
def gateAt (p : List Byte) (i : Nat) : Option (Option CondId) :=
  let b := byteAt p i
  if b = 0 then some none
  else if h : b - 1 < 4 then some (some ⟨b - 1, h⟩) else none

/-- A sum source: 0 NONE, 1..4 CH0..CH3 (spec 10 section 10.7.2). -/
def sumSourceAt (p : List Byte) (i : Nat) : Option (Option ChanId) := gateAt p i

/-- A jump of an entry record: presence byte, condition, timing, target; the outer `none` is a value outside its
range, and the fields after an absent indicator are not examined (R178). -/
def jumpAt (p : List Byte) (i : Nat) : Option (Option Jump) :=
  match flagAt p i with
  | none => none
  | some false => some none
  | some true =>
    match finAt 4 p (i + 1), flagAt p (i + 2), finAt 64 p (i + 3) with
    | some k, some timing, some target => some (some ⟨k, if timing then .atPassEnd else .immediate, target⟩)
    | _, _, _ => none

/-- A step override of an entry record: presence byte and step, clamped (R26). -/
def stepOverrideAt (p : List Byte) (i : Nat) : Option (Option Nat) :=
  match flagAt p i with
  | none => none
  | some false => some none
  | some true => some (some (clampStep (fieldAt p (i + 1) 4)))

/-- An entry record of a command; `none` when a field holds a value outside its range (spec 10 section 10.7.3,
R30 step 4). -/
def entryAtOffset (p : List Byte) (i : Nat) : Option Entry :=
  match gateAt p (i + 3), flagAt p (i + 4), jumpAt p (i + 6), stepOverrideAt p (i + 10) with
  | some gate, some park, some jump, some step =>
    if byteAt p (i + 5) < 16 then
      some { segment := segmentAt p i
             repeats := fieldAt p (i + 1) 2
             gate := gate
             waitLevel := if park then .park else .hold
             jump := jump
             markers := BitVec.ofNat 4 (byteAt p (i + 5))
             step := step }
    else none
  | _, _, _, _ => none

/-- A marker source of SET_MARKER: kind, first parameter, second parameter; `none` when a value is outside its
range; a width of 0 is stored as 1 (R113). -/
def markerSourceAt (p : List Byte) (i : Nat) : Option MarkerSource :=
  match byteAt p i with
  | 0 => (flagAt p (i + 1)).map .static
  | 1 =>
    match finAt 4 p (i + 1), finAt 4 p (i + 2) with
    | some ch, some bit => some (.entryBit ch bit)
    | _, _ => none
  | 2 =>
    match finAt 4 p (i + 1), flagAt p (i + 2) with
    | some ch, some level => some (.passToggle ch level)
    | _, _ => none
  | 3 => (finAt 4 p (i + 1)).map fun k => .firePulse k (max 1 (byteAt p (i + 2)))
  | 4 => (finAt 4 p (i + 1)).map .running
  | _ => none

/-! ### Records in responses -/

/-- The value of a status in the status byte (R173). -/
def statusByte : Status → Byte
  | .ok => 0x00#8
  | .taken => 0x01#8
  | .pending => 0x02#8
  | .unknownCommand => 0x10#8
  | .badLength => 0x11#8
  | .outOfRange => 0x12#8
  | .wrongState => 0x13#8
  | .notOwner => 0x14#8
  | .noId => 0x15#8
  | .noSpace => 0x16#8
  | .inUse => 0x17#8
  | .noSegment => 0x18#8
  | .stagedBusy => 0x19#8
  | .commitPending => 0x1A#8
  | .notPending => 0x1B#8
  | .invalidTable => 0x1C#8
  | .emptyTable => 0x1D#8
  | .channelRunning => 0x1E#8
  | .noClock => 0x1F#8

/-- A link as an owner or editor field: 0 absent, 1 Link 0, 2 Link 1. -/
def linkByte : Option LinkId → Byte
  | none => 0#8
  | some n => oneByte (n.val + 1)

/-- A gate or a sum source in a response: 0 NONE, 1..4. -/
def unitByte : Option (Fin 4) → Byte
  | none => 0#8
  | some k => oneByte (k.val + 1)

/-- The segment record of QUERY_SEGMENT (spec 10 section 10.7.4). -/
def segmentRecord (id : SegId) (x : Slot) : List Byte :=
  let tail := leBytes 2 x.refCount ++ leBytes 2 x.poisoned
  match x.body with
  | .free =>
    [oneByte id.val, 0#8, 0#8, boolByte x.filling] ++ leBytes 4 0 ++ leBytes 2 0 ++ leBytes 2 0 ++ [0#8]
      ++ leBytes 4 0 ++ tail
  | .opened owner length extent =>
    [oneByte id.val, 1#8, linkByte (some owner), boolByte x.filling] ++ leBytes 4 length ++ leBytes 2 extent.first
      ++ leBytes 2 extent.count ++ [0#8] ++ leBytes 4 0 ++ tail
  | .ready length extent tag =>
    [oneByte id.val, 2#8, 0#8, boolByte x.filling] ++ leBytes 4 length ++ leBytes 2 extent.first
      ++ leBytes 2 extent.count ++ [1#8] ++ leBytes 4 tag.toNat ++ tail

/-- The entry record of READ_ENTRY (spec 10 section 10.7.3). -/
def entryRecord (e : Entry) : List Byte :=
  [oneByte e.segment.val] ++ leBytes 2 e.repeats
    ++ [unitByte e.gate, boolByte (e.waitLevel = .park), oneByte e.markers.toNat]
    ++ (match e.jump with
        | none => [0#8, 0#8, 0#8, 0#8]
        | some j => [1#8, oneByte j.cond.val, boolByte (j.timing = .atPassEnd), oneByte j.target.val])
    ++ (match e.step with
        | none => 0#8 :: leBytes 4 0
        | some st => 1#8 :: leBytes 4 st)

/-- A slot of a bank in READ_ENTRY's response: 0 EMPTY or 1 entry, and the record. -/
def slotRecord : Option Entry → List Byte
  | none => List.replicate 16 0#8
  | some e => 1#8 :: entryRecord e

/-- A pending stop in CHANNEL_STATUS: 0 absent, else the mode's value plus 1. -/
def stopByte : Option StopMode → Byte
  | none => 0#8
  | some .immediate => 1#8
  | some .atPassEnd => 2#8
  | some .atEntryEnd => 3#8

/-- A pending commit: presence, point, target. -/
def commitBytes : Option Commit → List Byte
  | none => [0#8, 0#8, 0#8]
  | some c => [1#8, boolByte (c.point = .atTableEnd), oneByte c.target.val]

/-- A channel state: 0 IDLE, 1 WAITING, 2 RUNNING, 3 HALTED. -/
def modeByte : ChannelMode → Byte
  | .idle => 0#8
  | .waiting => 1#8
  | .running => 2#8
  | .halted => 3#8

/-- The number of non-empty slots among all 64 of a bank (R43). -/
def usedSlots (b : Bank) : Nat := (List.finRange 64).countP fun i => (look b.slots i).isSome

/-- A bank's four items in TABLE_STATUS (R43). -/
def bankSummary (b : Bank) : List Byte :=
  [oneByte b.count]
    ++ (match b.endAction with
        | .stop => [0#8, 0#8]
        | .loop i => [1#8, oneByte i.val])
    ++ [oneByte (usedSlots b)]

/-- TABLE_STATUS's report (R43). -/
def tableReport (t : Tables) (commit : Option Commit) : List Byte :=
  bankSummary t.active ++ bankSummary t.staged ++ [linkByte t.editor] ++ commitBytes commit ++ leBytes 2 t.swaps.toNat

/-- A FIFO level below 16 lines is urgent (R69, R124). -/
def isUrgent (p : Prefetch) : Bool := p.fifo.length < 16

/-- CHANNEL_STATUS's report (R69). -/
def channelReport (c : Channel) (p : Prefetch) : List Byte :=
  [modeByte c.mode, oneByte c.entry.val] ++ leBytes 2 c.passes ++ leBytes 3 (c.phase / Config.oneSample)
    ++ leBytes 3 (c.phase % Config.oneSample)
    ++ (match c.armed with
        | none => [0#8, 0#8]
        | some x => [1#8, oneByte x.val])
    ++ [stopByte c.stop] ++ commitBytes c.commit
    ++ [boolByte c.pendingScale.isSome, boolByte c.pendingRate.isSome, oneByte p.fifo.length, boolByte (isUrgent p)]
    ++ leBytes 2 c.clips ++ leBytes 4 c.underruns ++ leBytes 4 c.substitutions

/-- CHANNEL_SETTINGS's report (R91). -/
def settingsReport (c : Channel) : List Byte :=
  [boolByte (c.interpolation = .nearest), unitByte c.sumSource] ++ leBytes 2 c.park.toNat ++ [boolByte c.haltOnLoss]
    ++ leBytes 4 c.defaultStep ++ leBytes 4 c.currentStep ++ leBytes 2 c.scale.gain.toNat
    ++ leBytes 2 c.scale.offset.toNat
    ++ (match c.pendingScale with
        | none => 0#8 :: leBytes 4 0
        | some x => 1#8 :: (leBytes 2 x.gain.toNat ++ leBytes 2 x.offset.toNat))
    ++ (match c.pendingRate with
        | none => 0#8 :: leBytes 4 0
        | some r => 1#8 :: leBytes 4 r)
    ++ leBytes 2 c.last.toNat ++ [boolByte c.clipEpisode, boolByte c.underrunEpisode]

/-- CONDITION_STATUS's report (R110). -/
def conditionReport (c : Condition) (seen : BitVec 12) : List Byte :=
  [boolByte c.enabled] ++ leBytes 2 c.mask.toNat ++ leBytes 2 c.reference.toNat ++ [boolByte (c.mode = .arrive)]
    ++ leBytes 2 c.prescaler ++ leBytes 2 c.holdoff ++ [boolByte c.previous, oneByte c.count]
    ++ leBytes 2 c.holdoffLeft ++ [boolByte c.request] ++ leBytes 4 c.firings.toNat ++ leBytes 2 seen.toNat

/-- A marker source: kind, first parameter, second parameter, an unused second parameter as 0 (R120). -/
def sourceBytes : MarkerSource → List Byte
  | .static level => [0#8, boolByte level, 0#8]
  | .entryBit ch bit => [1#8, oneByte ch.val, oneByte bit.val]
  | .passToggle ch initial => [2#8, oneByte ch.val, boolByte initial]
  | .firePulse k width => [3#8, oneByte k.val, oneByte width]
  | .running ch => [4#8, oneByte ch.val, 0#8]

/-- One pin's seven bytes in MARKER_STATUS; toggle state and pulse remaining are sent for the sources that have
them and as 0 otherwise (R120, R178). -/
def pinReport (m : MarkerPin) : List Byte :=
  sourceBytes m.source ++ [boolByte m.presented, boolByte m.computed]
    ++ (match m.source with
        | .passToggle _ _ => [boolByte m.toggle, 0#8]
        | .firePulse _ _ => [0#8, oneByte m.pulse]
        | _ => [0#8, 0#8])

/-- MARKER_STATUS's report (R120). -/
def markerReport (pins : Vector MarkerPin 8) (patterns : Vector (BitVec 4) 4) : List Byte :=
  (List.finRange 8).flatMap (fun i => pinReport (look pins i))
    ++ (List.finRange 4).map fun ch => oneByte (look patterns ch).toNat

/-- An error source: 0..3 PREFETCH_CH0..3, 4 LINK0, 5 LINK1, 6 SCRUB (spec 10 section 10.7.5). -/
def sourceNumber : ErrorSource → Nat
  | .prefetch ch => ch.val
  | .link n => 4 + n.val
  | .scrub => 6

/-- An error class: 0 CORRECTABLE, 1 UNCORRECTABLE. -/
def classNumber : ErrorClass → Nat
  | .correctable => 0
  | .uncorrectable => 1

/-- A record of the error log: presence, class, source, line, segment, bit position, 255 when absent. -/
def errorBytes : Option ErrorRecord → List Byte
  | none => List.replicate 7 0#8 ++ [255#8]
  | some r =>
    [1#8, oneByte (classNumber r.cls), oneByte (sourceNumber r.source)] ++ leBytes 3 r.addr
      ++ [oneByte r.segment.val]
      ++ (match r.bit with
          | none => [255#8]
          | some b => [oneByte b.val])

/-- ERROR_LOG_READ's report (spec 10 section 10.7.5, R154). -/
def errorReport (s : State) : List Byte :=
  errorBytes s.log.first ++ leBytes 2 s.log.successors.toNat ++ leBytes 2 s.log.correctable
    ++ leBytes 2 s.log.uncorrectable ++ [oneByte s.marks.length, oneByte s.writeBacks.length]
    ++ leBytes 2 s.scrub.interval ++ leBytes 3 s.scrub.cursor

/-- CLOCK_STATUS's report (R163). -/
def clockReport (m : Monitor) : List Byte :=
  [boolByte m.locked, oneByte m.goodGates]
    ++ (match m.lastCount with
        | none => [0#8, 0#8, 0#8]
        | some n => 1#8 :: leBytes 2 n)
    ++ leBytes 2 m.windowMin ++ leBytes 2 m.windowMax

/-- READ_EVENTS's report: flags, masks, group summary (R187). -/
def eventReport (l : Link) : List Byte :=
  leBytes 6 l.flags.toNat ++ leBytes 6 l.masks.toNat ++ leBytes 2 (groupSummary l)

/-- IDENTIFY's report (R174). -/
def identifyReport : List Byte :=
  leBytes 2 0x0416 ++ [1#8] ++ leBytes 2 256 ++ leBytes 2 16384 ++ [64#8, 4#8, 4#8, 8#8, 8#8] ++ leBytes 2 2056

end Sys2Proof.Machine
end

