-- ==== Sys2Proof/Machine/Ops.lean ====
section
/-! DEFINITION. The named operations every block shares: the update of one unit's record, the setting of event
flags (R180, R181), the hearing of transfers, the taking of command frames and the forming of responses
(R165 to R172). -/

namespace Sys2Proof.Machine

open Sys2Proof

/-! ### One unit's record -/

def State.modSlot (s : State) (id : SegId) (f : Slot → Slot) : State :=
  { s with slots := put s.slots id (f (look s.slots id)) }

def State.modTables (s : State) (ch : ChanId) (f : Tables → Tables) : State :=
  { s with tables := put s.tables ch (f (look s.tables ch)) }

def State.modChannel (s : State) (ch : ChanId) (f : Channel → Channel) : State :=
  { s with channels := put s.channels ch (f (look s.channels ch)) }

def State.modPrefetch (s : State) (ch : ChanId) (f : Prefetch → Prefetch) : State :=
  { s with prefetch := put s.prefetch ch (f (look s.prefetch ch)) }

def State.modCond (s : State) (k : CondId) (f : Condition → Condition) : State :=
  { s with trigger := { s.trigger with conds := put s.trigger.conds k (f (look s.trigger.conds k)) } }

def State.modPin (s : State) (i : PinId) (f : MarkerPin → MarkerPin) : State :=
  { s with pins := put s.pins i (f (look s.pins i)) }

def State.modLink (s : State) (n : LinkId) (f : Link → Link) : State :=
  { s with links := put s.links n (f (look s.links n)) }

def State.setPattern (s : State) (ch : ChanId) (x : BitVec 4) : State :=
  { s with patterns := put s.patterns ch x }

def State.setPort (s : State) (t : Option Transfer) : State :=
  { s with arbiter := { s.arbiter with port := t } }

/-- The other link. -/
def otherLink (n : LinkId) : LinkId := if n = 0 then 1 else 0

/-- The same work on each of the four channels, in ascending order. -/
def eachChannel (f : ChanId → State → State) (s : State) : State := f 3 (f 2 (f 1 (f 0 s)))

/-- The same work on each of the four conditions, in ascending order. -/
def eachCond (f : CondId → State → State) (s : State) : State := f 3 (f 2 (f 1 (f 0 s)))

/-- The same work on each of the eight marker pins, in ascending order. -/
def eachPin (f : PinId → State → State) (s : State) : State :=
  f 7 (f 6 (f 5 (f 4 (f 3 (f 2 (f 1 (f 0 s)))))))

/-! ### Event flags -/

/-- An event of the LINK group: its flag is set in one link's flag set (R181). -/
def State.raiseOn (s : State) (n : LinkId) (f : EventFlag) : State :=
  s.modLink n fun l => { l with flags := l.flags ||| flagBit f }

/-- An event of any other group: its flag is set in both links' flag sets (R181). -/
def State.raise (s : State) (f : EventFlag) : State := (s.raiseOn 0 f).raiseOn 1 f

/-! ### Transfers, frames and responses -/

/-- A transfer on a link, of any number of complete bytes, comes to its release: while LRSTn is held it is ignored; one
begun under a reset is ignored in whole, and with it the ignoring ends (R176, R177); any other is judged. -/
def hearTransfer (n : LinkId) (judge : State → State) (s : State) : State :=
  if (look s.links n).inReset then s
  else if (look s.links n).ignoring then s.modLink n fun l => { l with ignoring := false }
  else judge s

/-- A formed response is held, the link enters HOLDING and RESPONSE_READY is set in its own flag set (R165). -/
def respond (n : LinkId) (tag : Byte) (status : Status) (payload : List Byte) (s : State) : State :=
  (s.modLink n fun l => { l with phase := .holding ⟨tag, status, payload⟩ }).raiseOn n .responseReady

/-- A refusal with no payload. -/
def refuse (n : LinkId) (tag : Byte) (status : Status) (s : State) : State := respond n tag status [] s

/-- The bytes driven on SDOn during a transfer that is no fetch: 0x00 for every byte (R166). -/
def driveZeros (n : LinkId) (bytes : Nat) (s : State) : State :=
  s.modLink n fun l => { l with sdo := List.replicate bytes 0#8 }

/-- A command frame the link hears: the payload length of R167, the link state of R168, and the payload length of
R169 step 2; the command's own checks follow in `judge`. -/
def judgeFrame (n : LinkId) (tag code : Byte) (payload : List Byte) (judge : State → State) (s : State) : State :=
  let s := driveZeros n (5 + payload.length) s
  if Config.receiveBuffer < payload.length then s.raiseOn n .frameError
  else
    match (look s.links n).phase with
    | .free => if layoutAllows code payload.length = some false then refuse n tag .badLength s else judge s
    | .executing _ _ => s.raiseOn n .commandDropped
    | .holding _ => s.raiseOn n .commandDropped

/-- A command frame comes to its release on a link (R168, R169, R176). -/
def takeFrame (n : LinkId) (tag code : Byte) (payload : List Byte) (judge : State → State) : State → State :=
  hearTransfer n (judgeFrame n tag code payload judge)

end Sys2Proof.Machine
end

