-- ==== Sys2Proof/Machine/LibraryOps.lean ====
section
/-! DEFINITION. The waveform library's operations: extents, allocation and freeing (R1, R4 to R6), and the
directory as others read it (R2, R3, R141). -/

namespace Sys2Proof.Machine

open Sys2Proof

/-- The blocks of a segment of `length` samples (R1, R5). -/
def blocksFor (length : Nat) : Nat := (length + 63) / 64

/-- The lines a pass of a segment of `length` samples uses (R129, R148). -/
def passLinesFor (length : Nat) : Nat := (length + 3) / 4

/-- First fit (R5): the first extent in list order whose block count is at least `b`, and the list after it is taken
whole or its lowest `b` blocks are split off. -/
def allocate (b : Nat) : List Extent → Option (Nat × List Extent)
  | [] => none
  | x :: xs =>
    if b ≤ x.count then
      if x.count = b then some (x.first, xs) else some (x.first, ⟨x.first + b, x.count - b⟩ :: xs)
    else (allocate b xs).map fun r => (r.1, x :: r.2)

/-- The block count of the largest free extent, 0 when the list is empty (R5, R22). -/
def largestFree : List Extent → Nat
  | [] => 0
  | x :: xs => max x.count (largestFree xs)

/-- The free blocks in all (R22). -/
def freeBlocks : List Extent → Nat
  | [] => 0
  | x :: xs => x.count + freeBlocks xs

/-- An extent joined with the free neighbour just above it, when the list's head is that neighbour (R6). -/
def joinAbove (e : Extent) : List Extent → List Extent
  | [] => [e]
  | y :: ys => if e.first + e.count = y.first then ⟨e.first, e.count + y.count⟩ :: ys else e :: y :: ys

/-- Freeing an extent (R6): it is put at its place in address order and joined with the neighbour just below and the
one just above. -/
def freeInto (e : Extent) : List Extent → List Extent
  | [] => [e]
  | x :: xs =>
    if x.first + x.count = e.first then joinAbove ⟨x.first, x.count + e.count⟩ xs
    else if e.first < x.first then joinAbove e (x :: xs)
    else x :: freeInto e xs

/-- The extent a slot's segment occupies (R2). -/
def slotExtent (x : Slot) : Option Extent :=
  match x.body with
  | .free => none
  | .opened _ _ e => some e
  | .ready _ e _ => some e

/-- A segment's length, 0 for a FREE slot. -/
def slotLength (x : Slot) : Nat :=
  match x.body with
  | .free => 0
  | .opened _ l _ => l
  | .ready l _ _ => l

/-- The slot is READY (R7). -/
def isReady (x : Slot) : Bool :=
  match x.body with
  | .ready _ _ _ => true
  | _ => false

/-- The slot is OPEN (R7). -/
def isOpen (x : Slot) : Bool :=
  match x.body with
  | .opened _ _ _ => true
  | _ => false

/-- The slot is FREE (R7). -/
def isFree (x : Slot) : Bool :=
  match x.body with
  | .free => true
  | _ => false

/-- The slot is OPEN and owned by the link (R7). -/
def ownedBy (n : LinkId) (x : Slot) : Bool :=
  match x.body with
  | .opened owner _ _ => owner = n
  | _ => false

/-- The length of the segment named. -/
def segmentLength (s : State) (id : SegId) : Nat := slotLength (look s.slots id)

/-- The first store line of a segment's extent (R1). -/
def segmentBase (s : State) (id : SegId) : Nat := 16 * ((slotExtent (look s.slots id)).getD ⟨0, 0⟩).first

/-- The lowest id whose slot is FREE (R5). -/
def lowestFree (s : State) : Option SegId := (List.finRange 256).find? fun id => isFree (look s.slots id)

/-- A store line lies in the extent. -/
def Extent.holdsLine (e : Extent) (addr : Nat) : Bool := 16 * e.first ≤ addr && addr < 16 * (e.first + e.count)

/-- The slot is OPEN or READY and its extent holds the line. -/
def slotHolds (x : Slot) (addr : Nat) : Bool :=
  match slotExtent x with
  | none => false
  | some e => e.holdsLine addr

/-- The owning segment of a line: the one in OPEN or READY whose extent holds it (R141). -/
def ownerOf (s : State) (addr : Nat) : Option SegId :=
  (List.finRange 256).find? fun id => slotHolds (look s.slots id) addr

/-- A line of the segment has been marked poisoned: its count rises, saturating at 16,384 (R3). -/
def countPoison (id : SegId) (s : State) : State :=
  s.modSlot id fun x => { x with poisoned := min (x.poisoned + 1) 16384 }

/-- The mark of a line of the segment has been cleared: its count falls, not below 0 (R3). -/
def uncountPoison (id : SegId) (s : State) : State :=
  s.modSlot id fun x => { x with poisoned := x.poisoned - 1 }

/-- A slot returns to FREE (R2) and its extent to the free-extent list (R6). -/
def freeSegment (id : SegId) (s : State) : State :=
  match slotExtent (look s.slots id) with
  | none => s
  | some e => { s.modSlot id (fun _ => Slot.empty) with free := freeInto e s.free }

/-- A reference is added to a segment (R28). -/
def addRef (id : SegId) (s : State) : State := s.modSlot id fun x => { x with refCount := x.refCount + 1 }

/-- A reference is taken from a segment (R28). -/
def dropRef (id : SegId) (s : State) : State := s.modSlot id fun x => { x with refCount := x.refCount - 1 }

/-- The reference counts follow a slot's change from one content to another (R28). -/
def adjustRefs (old new : Option Entry) (s : State) : State :=
  match old, new with
  | none, none => s
  | none, some t => addRef t.segment s
  | some a, none => dropRef a.segment s
  | some a, some t => if a.segment = t.segment then s else addRef t.segment (dropRef a.segment s)

end Sys2Proof.Machine
end

