-- ==== Sys2Proof/Machine/StoreOps.lean ====
section
/-! DEFINITION. The sample store and the integrity unit's operations: lines, their check (R139), the outcome of a
read (R140, R141), the pending-mark list (R142 to R144), the write-back queue (R145 to R147), the scrub walk
(R148) and the error log (R152, R153). -/

namespace Sys2Proof.Machine

open Sys2Proof

/-! ### The store's memory: a list of lines in one canonical form -/

/-- The line listed at an address, if one is. -/
def lineIn : List (Nat × StoredLine) → Nat → Option StoredLine
  | [], _ => none
  | (b, l) :: rest, a => if b = a then some l else lineIn rest a

/-- The memory with the line at one address written. -/
def writeLineIn : List (Nat × StoredLine) → Nat → StoredLine → List (Nat × StoredLine)
  | [], a, l => [(a, l)]
  | (b, x) :: rest, a, l =>
    if a < b then (a, l) :: (b, x) :: rest
    else if a = b then (a, l) :: rest
    else (b, x) :: writeLineIn rest a l

/-- The addresses rise strictly from one entry to the next, beginning above a bound. -/
def risesFrom : Nat → List (Nat × StoredLine) → Bool
  | _, [] => true
  | lo, (a, _) :: rest => lo ≤ a && a < Config.storeLines && risesFrom (a + 1) rest

/-- The memory's canonical form: addresses strictly rising and all inside the store. A line is listed exactly when
something has written it since the last power-on; an unlisted line has no value of its own (R1). -/
def Memory.wf (m : List (Nat × StoredLine)) : Bool := risesFrom 0 m

/-- What an unlisted line reads as: its contents are undefined after power-on (R1), so they are free values. -/
def undefinedLine (powerUps addr : Nat) : StoredLine :=
  ⟨Config.undefinedData powerUps addr, Config.undefinedFaults powerUps addr, Config.undefinedMark powerUps addr⟩

/-- The line of the store at an address. -/
def lineAt (s : State) (addr : Nat) : StoredLine := (lineIn s.store addr).getD (undefinedLine s.powerUps addr)

/-- The line at an address is written. -/
def putLine (addr : Nat) (l : StoredLine) (s : State) : State := { s with store := writeLineIn s.store addr l }

/-- A write of data stores four codes and fresh check bits and clears the poison mark (R139). -/
def writeData (addr : Nat) (data : LineData) (s : State) : State := putLine addr ⟨data, 0#72, false⟩ s

/-- A mark write sets the poison mark and leaves data and check bits (R139). -/
def writeMark (addr : Nat) (s : State) : State := putLine addr { lineAt s addr with mark := true } s

/-- Stored bits of a line go wrong in the store. -/
def strike (addr : Nat) (upset : LineBits) (s : State) : State :=
  if upset = 0#72 then s
  else putLine addr { lineAt s addr with faults := (lineAt s addr).faults ^^^ upset } s

/-- The 64 data bits as they stand in the store. -/
def storedData (l : StoredLine) : LineData := l.data ^^^ l.faults.extractLsb' 0 64

/-- The 72 stored bits: 0..63 data, 64..71 check (R139). -/
def storedBits (l : StoredLine) : BitVec 72 := (Config.checkBits l.data ++ l.data) ^^^ l.faults

/-- Sample `i` of a line's data (R139). -/
def sampleOf (data : LineData) (i : Nat) : Code := data.extractLsb' (16 * i) 16

/-- Four codes as a line's data. -/
def packLine (f : Nat → Code) : LineData := f 3 ++ f 2 ++ f 1 ++ f 0

/-! ### The check of a read -/

/-- The stored bits that disagree with a consistent line. -/
def wrongBits (l : StoredLine) : List (Fin 72) := (List.finRange 72).filter fun p => l.faults.getLsbD p.val

/-- The check of an unmarked line's stored bits (R139). -/
def checkLine (l : StoredLine) : BitOutcome :=
  match wrongBits l with
  | [] => .clean
  | [p] => .single p
  | [_, _] => .double
  | _ :: _ :: _ :: _ => Config.manyWrongBits l.data l.faults

/-- The outcome of a read (R139): marked, or what the check of the bits finds. -/
inductive ReadOutcome where
  | marked
  | checked (o : BitOutcome)
  deriving DecidableEq, Repr

/-- The line stands on the pending-mark list. -/
def onMarkList (s : State) (addr : Nat) : Bool := s.marks.any fun r => r.addr = addr

/-- The classification of a line at a read (R139). -/
def classify (s : State) (addr : Nat) : ReadOutcome :=
  if (lineAt s addr).mark || onMarkList s addr then .marked else .checked (checkLine (lineAt s addr))

/-- The stored data with the bit at a position inverted, when that is a data bit (R139). -/
def correctedData (l : StoredLine) (p : Fin 72) : LineData :=
  if p.val < 64 then storedData l ^^^ BitVec.twoPow 64 p.val else storedData l

/-- What a read hands its requester: four codes and the poisoned indication (R140). -/
structure Delivery where
  data : LineData
  poisoned : Bool
  deriving DecidableEq, Repr

/-- The delivery of a line by its outcome (R140). -/
def deliver (l : StoredLine) : ReadOutcome → Delivery
  | .marked => ⟨0#64, true⟩
  | .checked .clean => ⟨storedData l, false⟩
  | .checked (.single p) => ⟨correctedData l p, false⟩
  | .checked .double => ⟨0#64, true⟩

/-- The kinds of read (R140). -/
inductive ReadKind where
  | prefetch (ch : ChanId)
  | sample (n : LinkId)
  | merge (n : LinkId)
  | scrub
  deriving DecidableEq, Repr

/-- The source an error record names (R152). -/
def readSource : ReadKind → ErrorSource
  | .prefetch ch => .prefetch ch
  | .sample n => .link n
  | .merge n => .link n
  | .scrub => .scrub

/-- The read is a merge read, which neither marks its line nor offers a write-back (R140). -/
def isMerge : ReadKind → Bool
  | .merge _ => true
  | _ => false

/-! ### The error log -/

/-- The successor set with the pair of a class and a source set (R152, R153). -/
def addPair (c : ErrorClass) (src : ErrorSource) (set : BitVec 14) : BitVec 14 :=
  set ||| BitVec.twoPow 14 (classNumber c * 7 + sourceNumber src)

/-- A record enters the log (R153). -/
def logRecord (r : ErrorRecord) (log : ErrorLog) : ErrorLog :=
  match log.first with
  | none => { log with first := some r }
  | some f =>
    match f.cls, r.cls with
    | .correctable, .uncorrectable =>
      { log with first := some r, successors := addPair f.cls f.source log.successors }
    | .correctable, .correctable => { log with successors := addPair r.cls r.source log.successors }
    | .uncorrectable, _ => { log with successors := addPair r.cls r.source log.successors }

/-- The counter of an error's class, saturating at 65,535 (R153). -/
def countError (c : ErrorClass) (log : ErrorLog) : ErrorLog :=
  match c with
  | .correctable => { log with correctable := min (log.correctable + 1) 65535 }
  | .uncorrectable => { log with uncorrectable := min (log.uncorrectable + 1) 65535 }

/-- The flag of an error's class (R153). -/
def errorFlag : ErrorClass → EventFlag
  | .correctable => .corrected
  | .uncorrectable => .uncorrectable

/-- An error is logged (R153). -/
def logError (r : ErrorRecord) (s : State) : State :=
  ({ s with log := countError r.cls (logRecord r s.log) } : State).raise (errorFlag r.cls)

/-! ### Pending marks and write-backs -/

/-- The write side has its one request, waiting or in transfer (R123, R143). -/
def writeSideBusy (s : State) : Bool :=
  s.writeSide.isSome ||
    match s.arbiter.port with
    | some (.mark _) => true
    | some (.writeBack _) => true
    | _ => false

/-- The write side presents its next request: the oldest pending mark, or with none the oldest write-back (R143). -/
def presentWriteSide (s : State) : State :=
  if writeSideBusy s then s
  else
    match s.marks, s.writeBacks with
    | r :: _, _ => { s with writeSide := some (.mark r) }
    | [], r :: _ => { s with writeSide := some (.writeBack r) }
    | [], [] => s

/-- The write side's waiting request is one of those withdrawn. -/
def withdrawWriteSide (drop : WriteRequest → Bool) (s : State) : State :=
  match s.writeSide with
  | none => s
  | some r => if drop r then { s with writeSide := none } else s

/-- The request is the write-back of the line. -/
def isWriteBackOf (addr : Nat) : WriteRequest → Bool
  | .writeBack r => r.addr = addr
  | .mark _ => false

/-- The request is the mark write of the line. -/
def isMarkOf (addr : Nat) : WriteRequest → Bool
  | .mark r => r.addr = addr
  | .writeBack _ => false

/-- The request concerns a line of the segment. -/
def isOfSegment (id : SegId) : WriteRequest → Bool
  | .mark r => r.segment = id
  | .writeBack r => r.segment = id

/-- A read outcome marks a line (R142): a record while the list holds fewer than 4, the segment's count, and the
line's queued write-back removed (R147). -/
def enterMark (addr : Nat) (id : SegId) (s : State) : State :=
  if s.marks.length < 4 then
    withdrawWriteSide (isWriteBackOf addr)
      (countPoison id { s with marks := s.marks ++ [⟨addr, id⟩],
                               writeBacks := s.writeBacks.filter fun r => r.addr ≠ addr })
  else s

/-- A write-back is offered to the queue (R145), for a line of a READY segment only. -/
def offerWriteBack (addr : Nat) (id : SegId) (data : LineData) (s : State) : State :=
  if isReady (look s.slots id) && !(s.writeBacks.any fun r => r.addr = addr) && s.writeBacks.length < 8 then
    { s with writeBacks := s.writeBacks ++ [⟨addr, id, data⟩] }
  else s

/-- What a read outcome does beyond its delivery, for a line of the segment named (R140). -/
def actOnOutcome (k : ReadKind) (addr : Nat) (id : SegId) (l : StoredLine) (o : ReadOutcome) (s : State) : State :=
  match o with
  | .marked => s
  | .checked .clean => s
  | .checked (.single p) =>
    let s := logError ⟨.correctable, readSource k, addr, id, some p⟩ s
    if isMerge k then s else offerWriteBack addr id (correctedData l p) s
  | .checked .double =>
    let s := logError ⟨.uncorrectable, readSource k, addr, id, none⟩ s
    if isMerge k then s else enterMark addr id s

/-- The end of a read as one event (R141): the outcome is acted on when the line belongs to an OPEN or READY
segment that is not being zero-filled. -/
def judgeRead (k : ReadKind) (addr : Nat) (s : State) : State :=
  match ownerOf s addr with
  | none => s
  | some id =>
    if (look s.slots id).filling then s else actOnOutcome k addr id (lineAt s addr) (classify s addr) s

/-- What the read of a line delivers. -/
def readDelivery (s : State) (addr : Nat) : Delivery := deliver (lineAt s addr) (classify s addr)

/-- A link write of a line is granted (R144, R3): its pending mark is removed and its waiting mark write withdrawn,
and the owning segment's count falls when the line carried a mark, pending or in the store. -/
def clearMarkAtGrant (addr : Nat) (s : State) : State :=
  let marked := (lineAt s addr).mark || onMarkList s addr
  let s := withdrawWriteSide (isMarkOf addr) { s with marks := s.marks.filter fun r => r.addr ≠ addr }
  if marked then
    match ownerOf s addr with
    | none => s
    | some id => uncountPoison id s
  else s

/-- A zero-fill write of a line is granted (R144): as for a link write, the new segment's count standing at 0. -/
def clearMarkAtFill (addr : Nat) (s : State) : State :=
  withdrawWriteSide (isMarkOf addr) { s with marks := s.marks.filter fun r => r.addr ≠ addr }

/-- A segment returns to FREE: its pending marks are removed (R144) and, of a READY one, its queued write-backs
(R17, R147); the waiting write-side request for one of them is withdrawn. -/
def dropSegmentRecords (id : SegId) (s : State) : State :=
  withdrawWriteSide (isOfSegment id)
    { s with marks := s.marks.filter fun r => r.segment ≠ id,
             writeBacks := s.writeBacks.filter fun r => r.segment ≠ id }

/-! ### The scrub walk -/

/-- The lowest line of the slot's used lines at or above the cursor, when the slot is READY (R148). -/
def walkIn (cursor : Nat) (x : Slot) : Option Nat :=
  match x.body with
  | .ready length e _ =>
    let base := 16 * e.first
    if max cursor base < base + passLinesFor length then some (max cursor base) else none
  | _ => none

/-- The lesser of two line addresses, either of which may be absent. -/
def lesser : Option Nat → Option Nat → Option Nat
  | none, y => y
  | x, none => x
  | some x, some y => some (min x y)

/-- The lowest line address at or above the cursor that lies in the walk (R149). -/
def walkNext (s : State) (cursor : Nat) : Option Nat :=
  (List.finRange 256).foldl (fun acc id => lesser acc (walkIn cursor (look s.slots id))) none

/-- The scrubber's read is in transfer. -/
def scrubInTransfer (s : State) : Bool :=
  match s.arbiter.port with
  | some (.scrub _) => true
  | _ => false

/-- A found line becomes the scrub request and the cursor goes past it (R149 step 4). -/
def takeScrubLine (addr : Nat) (s : State) : State :=
  if addr + 1 = Config.storeLines then
    ({ s with scrub := { s.scrub with request := some addr, cursor := 0 } } : State).raise .scrubPass
  else { s with scrub := { s.scrub with request := some addr, cursor := addr + 1 } }

/-- The scrubber expires (R149). -/
def scrubExpire (s : State) : State :=
  let s := { s with scrub := { s.scrub with timer := s.scrub.interval } }
  if s.scrub.request.isSome then s
  else
    match walkNext s 0 with
    | none => s
    | some lowest =>
      match walkNext s s.scrub.cursor with
      | some addr => takeScrubLine addr s
      | none => takeScrubLine lowest (s.raise .scrubPass)

/-- A waiting scrub request for a line of the extent is withdrawn (R151). -/
def withdrawScrub (e : Extent) (s : State) : State :=
  match s.scrub.request with
  | none => s
  | some addr =>
    if e.holdsLine addr && !scrubInTransfer s then { s with scrub := { s.scrub with request := none } } else s

end Sys2Proof.Machine
end

