-- ==== Sys2Proof/Machine/ChannelOps.lean ====
section
/-! DEFINITION. The channels' operations: the predicted play path, the prefetcher and its flush (R129 to R134), the
bank swap (R37), beginning an entry (R48), entering IDLE (R58), the decisions at a pass end, an entry end and the
table end (R53 to R57), and the halt (R65, R67, R119). -/

namespace Sys2Proof.Machine

open Sys2Proof

/-! ### The current entry -/

/-- The entry in a slot of the channel's ACTIVE bank. -/
def entryIn (s : State) (ch : ChanId) (x : SlotIx) : Option Entry := look (look s.tables ch).active.slots x

/-- The channel's current entry. -/
def currentEntry (s : State) (ch : ChanId) : Option Entry := entryIn s ch (look s.channels ch).entry

/-- The step an entry is played with: its override when present, otherwise the default step (R73). -/
def stepFor (e : Option Entry) (defaultStep : Nat) : Nat := (e.bind (·.step)).getD defaultStep

/-- The length of the segment an entry names. -/
def entryLength (s : State) (e : Option Entry) : Nat :=
  match e with
  | none => 0
  | some e => segmentLength s e.segment

/-- Another pass of the entry follows the current one: the repeats are 0, or completed passes plus 1 is below them
(R55, R75). -/
def passFollows (e : Entry) (passes : Nat) : Bool := e.repeats == 0 || decide (passes + 1 < e.repeats)

/-- The sample index of the phase. -/
def phaseIndex (c : Channel) : Nat := c.phase / Config.oneSample

/-- The fraction of the phase. -/
def phaseFraction (c : Channel) : Nat := c.phase % Config.oneSample

/-- The line of the segment that holds a phase's index. -/
def phaseLine (phase : Nat) : Nat := phase / Config.oneSample / 4

/-! ### The predicted play path -/

/-- The slot automatic advance begins after a slot's entry: the next index below the count, or the loop index; `none`
where the table stops (R56 step 4, R57). -/
def slotAfter (b : Bank) (x : SlotIx) : Option SlotIx :=
  if x.val + 1 < b.count then (if h : x.val + 1 < 64 then some ⟨x.val + 1, h⟩ else none)
  else
    match b.endAction with
    | .loop i => some i
    | .stop => none

/-- The place after a place of the path (R129); `none` past the path's end. -/
def posAfter (s : State) (ch : ChanId) (pos : PathPos) : Option PathPos :=
  let bank := (look s.tables ch).active
  match look bank.slots pos.entry with
  | none => none
  | some e =>
    if pos.line + 1 < passLinesFor (segmentLength s e.segment) then
      some { pos with place := pos.place + 1, line := pos.line + 1 }
    else if passFollows e pos.pass then some ⟨pos.place + 1, pos.entry, pos.pass + 1, 0⟩
    else (slotAfter bank pos.entry).map fun x => ⟨pos.place + 1, x, 0, 0⟩

/-- The place of the play position (R133). -/
def playPos (s : State) (ch : ChanId) : PathPos :=
  let c := look s.channels ch
  ⟨(look s.prefetch ch).play, c.entry, c.passes, phaseLine c.phase⟩

/-- The last place of the path under the pending stop (R130); `none` when no stop is pending. -/
def stopEnd (s : State) (ch : ChanId) : Option Nat :=
  let c := look s.channels ch
  let play := (look s.prefetch ch).play
  match c.stop, currentEntry s ch with
  | none, _ => none
  | some _, none => some play
  | some .immediate, _ => some play
  | some mode, some e =>
    let lines := passLinesFor (segmentLength s e.segment)
    let passEnd := play + (lines - 1 - phaseLine c.phase)
    if mode = .atEntryEnd && e.repeats != 0 then some (passEnd + (e.repeats - c.passes - 1) * lines)
    else if passFollows e c.passes then some (passEnd + 1)
    else some passEnd

/-- A place lies beyond the path's end under the pending stop. -/
def beyondStop (s : State) (ch : ChanId) (place : Nat) : Bool :=
  match stopEnd s ch with
  | none => false
  | some last => last < place

/-- The first place neither received nor requested and not behind the play position (R131). -/
def nextWanted (s : State) (ch : ChanId) : Option PathPos :=
  match (look s.prefetch ch).next with
  | none => none
  | some pos => some (if pos.place < (look s.prefetch ch).play then playPos s ch else pos)

/-- The request for a place: its segment and its store line by the directory (R131). -/
def requestFor (s : State) (ch : ChanId) (pos : PathPos) : Option PrefetchRequest :=
  match entryIn s ch pos.entry with
  | none => none
  | some e => some ⟨pos, e.segment, segmentBase s e.segment + pos.line⟩

/-- A prefetch read of the channel is in transfer. -/
def prefetchInTransfer (s : State) (ch : ChanId) : Bool :=
  match s.arbiter.port with
  | some (.prefetch c _ _) => c = ch
  | _ => false

/-- The channel's prefetcher makes requests: it is RUNNING or WAITING, holds no request, and has room (R123, R131). -/
def wantsLine (s : State) (ch : ChanId) : Bool :=
  let mode := (look s.channels ch).mode
  let p := look s.prefetch ch
  (mode = .running || mode = .waiting) && p.waiting.isNone && !prefetchInTransfer s ch && p.fifo.length < 64

/-- The prefetcher presents its next request (R131). -/
def presentPrefetch (ch : ChanId) (s : State) : State :=
  if wantsLine s ch then
    match nextWanted s ch with
    | none => s
    | some pos =>
      if beyondStop s ch pos.place then s
      else
        match requestFor s ch pos with
        | none => s
        | some r => s.modPrefetch ch fun p => { p with waiting := some r, next := posAfter s ch pos }
  else s

/-- A prefetch read of the channel in transfer is to be discarded at its end (R132, R134). -/
def orphanRead (ch : ChanId) : Option Transfer → Option Transfer
  | some (.prefetch c r live) => some (.prefetch c r (if c = ch then false else live))
  | t => t

/-- The first place of a path built afresh: line 0 of the first pass of the channel's current entry; the path of an
IDLE channel is empty (R131, R134). -/
def freshPath (c : Channel) : Option PathPos := if c.mode = .idle then none else some ⟨0, c.entry, 0, 0⟩

/-- The FIFO is flushed and the path built afresh from the channel's new place (R134). -/
def flush (ch : ChanId) (s : State) : State :=
  let s := s.setPort (orphanRead ch s.arbiter.port)
  s.modPrefetch ch fun _ => ⟨[], freshPath (look s.channels ch), 0, none⟩

/-- A waiting request of the channel is withdrawn and its place is again the next to be requested. -/
def withdrawPrefetch (ch : ChanId) (s : State) : State :=
  match (look s.prefetch ch).waiting with
  | none => s
  | some r => s.modPrefetch ch fun p => { p with waiting := none, next := some r.pos }

/-- A waiting request for a place beyond the stop's end is withdrawn (R130). -/
def trimToStop (ch : ChanId) (s : State) : State :=
  match (look s.prefetch ch).waiting with
  | none => s
  | some r => if beyondStop s ch r.pos.place then withdrawPrefetch ch s else s

/-- The play position moves one place and the lines behind it are released (R133). -/
def movePlay (ch : ChanId) (s : State) : State :=
  s.modPrefetch ch fun p =>
    { p with play := p.play + 1, fifo := p.fifo.filter fun l => decide (p.play + 1 ≤ l.place) }

/-! ### Bank swap, beginning an entry, entering IDLE -/

/-- The bank swap (R37). -/
def swapBanks (ch : ChanId) (s : State) : State :=
  let s := s.modTables ch fun t => ⟨t.staged, t.active, none, t.swaps + 1#16⟩
  let s := s.modChannel ch fun c => { c with commit := none }
  s.raise (.commitTaken ch)

/-- A pending scale becomes the channel's scale (R88). -/
def applyScale (c : Channel) : Channel :=
  match c.pendingScale with
  | none => c
  | some x => { c with scale := x, pendingScale := none }

/-- A pending rate becomes the default step, the current step left as it was, as on an IDLE channel (R73, R88). -/
def applyRateIdle (c : Channel) : Channel :=
  match c.pendingRate with
  | none => c
  | some r => { c with defaultStep := r, pendingRate := none }

/-- A pending rate becomes the default step and the current step is chosen again (R73, R88). -/
def applyRate (e : Option Entry) (c : Channel) : Channel :=
  match c.pendingRate with
  | none => c
  | some r => { c with defaultStep := r, currentStep := stepFor e r, pendingRate := none }

/-- The channel record on entry into IDLE (R58), its underrun episode over (R84). -/
def idleRecord (c : Channel) : Channel :=
  { applyRateIdle (applyScale c) with mode := .idle, stop := none, armed := none, underrunEpisode := false }

/-- The channel enters IDLE (R58): the pending updates are disposed of, a pending commit is taken, the played
pattern goes low (R115), the FIFO is flushed and ENDED is set. -/
def enterIdle (ch : ChanId) (s : State) : State :=
  let s := s.modChannel ch idleRecord
  let s := if (look s.channels ch).commit.isSome then swapBanks ch s else s
  ((flush ch s).setPattern ch 0#4).raise (.ended ch)

/-- The channel record at the beginning of entry `x` at phase `p`, before the gate is looked at (R48, R72, R73,
R80). -/
def beginRecord (e : Option Entry) (x : SlotIx) (p : Nat) (c : Channel) : Channel :=
  { c with entry := x, passes := 0, armed := none, phase := p, currentStep := stepFor e c.defaultStep,
           passClipped := false }

/-- The sequencer begins entry `x` of the ACTIVE bank with starting phase `p` (R48). Begun at a pass end or a jump,
all of it, WAIT_BEGAN among it, comes about in that tick's own step (DEDUCED, log entry 30). -/
def beginEntry (ch : ChanId) (x : SlotIx) (p : Nat) (s : State) : State :=
  let e := entryIn s ch x
  let s := s.modChannel ch (beginRecord e x p)
  if (e.bind (·.gate)).isNone then s.modChannel ch fun c => { c with mode := .running }
  else if (look s.channels ch).stop.isSome then enterIdle ch s
  else
    (s.modChannel ch fun c => { c with mode := .waiting, phase := 0, underrunEpisode := false }).raise (.waitBegan ch)

/-- The channel leaves its path for entry `x` at phase 0.0: a start, a jump or a commit's target (R48, R134). -/
def turnTo (ch : ChanId) (x : SlotIx) (s : State) : State := flush ch (beginEntry ch x 0 s)

/-- A commit is taken while the channel plays or waits: the swap, then its target (R56, R57, R64). -/
def takeCommit (ch : ChanId) (target : SlotIx) (s : State) : State := turnTo ch target (swapBanks ch s)

/-- The channel begins entry `x` by automatic advance, on its path, at the carried phase (R56 step 4, R57). -/
def advanceTo (ch : ChanId) (x : SlotIx) (carried : Nat) (s : State) : State :=
  beginEntry ch x carried (movePlay ch s)

/-! ### Table end, entry end, pass end -/

/-- The target of the pending commit when its point is the one named. -/
def commitAt (c : Channel) (point : CommitPoint) : Option SlotIx :=
  match c.commit with
  | none => none
  | some k => if k.point = point then some k.target else none

/-- The table end (R57). -/
def tableEnd (ch : ChanId) (carried : Nat) (s : State) : State :=
  match commitAt (look s.channels ch) .atTableEnd with
  | some target => takeCommit ch target s
  | none =>
    match (look s.tables ch).active.endAction with
    | .loop x => advanceTo ch x carried s
    | .stop => enterIdle ch s

/-- The entry end (R56); `jump` is the armed jump's target or the IMMEDIATE jump's standing in for it (R62). -/
def entryEnd (ch : ChanId) (carried : Nat) (jump : Option SlotIx) (s : State) : State :=
  let c := look s.channels ch
  if c.stop = some .atEntryEnd then enterIdle ch s
  else
    match commitAt c .atEntryEnd with
    | some target => takeCommit ch target s
    | none =>
      match jump with
      | some target => turnTo ch target s
      | none =>
        if h : c.entry.val + 1 < (look s.tables ch).active.count ∧ c.entry.val + 1 < 64 then
          advanceTo ch ⟨c.entry.val + 1, h.2⟩ carried s
        else tableEnd ch carried s

/-- The channel record at a pass end: the carried phase, the pass counted, the pending scale and rate applied, and
the clip episode checked (R53, R80). -/
def passEndRecord (e : Option Entry) (carried : Nat) (c : Channel) : Channel :=
  let c := applyRate e (applyScale c)
  { c with phase := carried, passes := min (c.passes + 1) 65535, clipEpisode := c.clipEpisode && c.passClipped,
           passClipped := false }

/-- The pass-end pulse of the channel is emitted (R53, R94). -/
def emitPulse (ch : ChanId) (s : State) : State :=
  { s with trigger := { s.trigger with pulses := s.trigger.pulses ||| BitVec.twoPow 4 ch.val } }

/-- The toggle state of a pin inverts at a pass end of the channel its source names (R116). -/
def invertToggle (ch : ChanId) (m : MarkerPin) : MarkerPin :=
  match m.source with
  | .passToggle c _ => if c = ch then { m with toggle := !m.toggle } else m
  | _ => m

/-- The entry ends at this pass end (R54 step 2). -/
def entryEndsHere (e : Option Entry) (c : Channel) : Bool :=
  match e with
  | none => false
  | some e =>
    (e.repeats != 0 && c.passes == e.repeats) || c.armed.isSome
      || (e.repeats == 0 && (c.stop = some .atEntryEnd || (commitAt c .atEntryEnd).isSome))

/-- The decision at a pass end (R54); an IMMEDIATE jump fired at the tick ends the entry (R62). -/
def passEndDecision (ch : ChanId) (carried : Nat) (jump : Option SlotIx) (s : State) : State :=
  let c := look s.channels ch
  if c.stop = some .atPassEnd then enterIdle ch s
  else if jump.isSome then entryEnd ch carried jump s
  else if entryEndsHere (currentEntry s ch) c then entryEnd ch carried c.armed s
  else movePlay ch s

/-- A pass end of the channel with the carried phase given (R53). -/
def passEnds (ch : ChanId) (carried : Nat) (jump : Option SlotIx) (s : State) : State :=
  let s := emitPulse ch s
  let s := eachPin (fun i s => s.modPin i (invertToggle ch)) s
  let s := s.modChannel ch (passEndRecord (currentEntry s ch) carried)
  passEndDecision ch carried jump s

/-! ### START's and STOP's part of one channel, and the halt -/

/-- A PASS_TOGGLE pin naming the channel returns to its initial level (R50, R116). -/
def restoreToggle (ch : ChanId) (m : MarkerPin) : MarkerPin :=
  match m.source with
  | .passToggle c initial => if c = ch then { m with toggle := initial } else m
  | _ => m

/-- The channel record a START begins from: its last code is the park code (R47, R50, R82), also when no tick has
handed that code over since it was set (DEDUCED, log entry 29). -/
def startRecord (c : Channel) : Channel := { c with last := c.park }

/-- One channel of an accepted START (R50). -/
def startChannel (x : SlotIx) (ch : ChanId) (s : State) : State :=
  let s := turnTo ch x (s.modChannel ch startRecord)
  let s := (eachPin (fun i s => s.modPin i (restoreToggle ch)) s).setPattern ch 0#4
  presentPrefetch ch (s.raise (.started ch))

/-- One channel of an accepted STOP (R51, R130). -/
def stopChannel (mode : StopMode) (ch : ChanId) (s : State) : State :=
  match (look s.channels ch).mode with
  | .idle => s
  | .waiting => enterIdle ch s
  | .halted => enterIdle ch s
  | .running => presentPrefetch ch (trimToStop ch (s.modChannel ch fun c => { c with stop := some mode }))

/-- The channel record at a halt: the port path holds the park code throughout (R65, R67, R84). -/
def haltRecord (c : Channel) : Channel :=
  { c with mode := .halted, stop := none, underrunEpisode := false, path := List.replicate 24 c.park }

/-- The marker path of a pin naming the halted channel is set throughout to the halted level (R119). -/
def emptyMarkerPath (ch : ChanId) (m : MarkerPin) : MarkerPin :=
  match m.source with
  | .entryBit c _ => if c = ch then { m with path := List.replicate 24 false } else m
  | .running c => if c = ch then { m with path := List.replicate 24 false } else m
  | .passToggle c _ => if c = ch then { m with path := List.replicate 24 m.toggle } else m
  | _ => m

/-- The loss of lock reaches a channel: a RUNNING or WAITING one with halt-on-loss enters HALTED (R65). -/
def haltChannel (ch : ChanId) (s : State) : State :=
  let c := look s.channels ch
  if c.haltOnLoss && (c.mode = .running || c.mode = .waiting) then
    let s := s.modChannel ch haltRecord
    let s := eachPin (fun i s => s.modPin i (emptyMarkerPath ch)) s
    (withdrawPrefetch ch s).raise (.halted ch)
  else s

end Sys2Proof.Machine
end

