-- ==== Sys2Proof/Machine/ChannelCommands.lean ====
section
/-! DEFINITION. The meanings of the channel commands: START, STOP, status, scale, rate and configuration (chapters
3 and 4). -/

namespace Sys2Proof.Machine

open Sys2Proof

/-! ### START and STOP -/

/-- The lowest channel of a set that fails a check, as START's refusals carry it (R49, R173). -/
def lowestFailing (set : BitVec 4) (fails : ChanId → Bool) : Option ChanId := (channelsOf set).find? fails

/-- START's checks 2 to 5 (R49): the status and the lowest channel that failed, by the first check any channel of
the set fails. -/
def startFault (s : State) (set : BitVec 4) (x : SlotIx) : Option (Status × ChanId) :=
  match lowestFailing set (fun ch => (look s.channels ch).mode ≠ .idle) with
  | some ch => some (.wrongState, ch)
  | none =>
    match lowestFailing set (fun ch => (look s.tables ch).active.count = 0) with
    | some ch => some (.emptyTable, ch)
    | none =>
      match lowestFailing set (fun ch => (look s.tables ch).active.count ≤ x.val) with
      | some ch => some (.outOfRange, ch)
      | none =>
        match lowestFailing set (fun ch => (look s.channels ch).haltOnLoss && !s.monitor.locked) with
        | some ch => some (.noClock, ch)
        | none => none

/-- The same work on each channel of a set, in ascending order. -/
def forChannels (set : BitVec 4) (f : ChanId → State → State) (s : State) : State :=
  (channelsOf set).foldl (fun s ch => f ch s) s

/-- START's checks and acceptance (R49, R50). -/
def startChannels (n : LinkId) (tag : Byte) (p : List Byte) (s : State) : State :=
  match channelSetAt p 0, finAt 64 p 1 with
  | some set, some x =>
    match startFault s set x with
    | some (status, ch) => respond n tag status [oneByte ch.val] s
    | none => respond n tag .ok [] (forChannels set (startChannel x) s)
  | _, _ => refuse n tag .outOfRange s

/-- START (R49, R50). -/
def execStart (n : LinkId) (tag : Byte) (payload : List Byte) (s : State) : Result :=
  .next (takeFrame n tag 0x30#8 payload (startChannels n tag payload) s)

/-- STOP's check and acceptance (R51). -/
def stopChannels (n : LinkId) (tag : Byte) (p : List Byte) (s : State) : State :=
  match channelSetAt p 0, stopModeAt p 1 with
  | some set, some mode => respond n tag .ok [] (forChannels set (stopChannel mode) s)
  | _, _ => refuse n tag .outOfRange s

/-- STOP (R51). -/
def execStop (n : LinkId) (tag : Byte) (payload : List Byte) (s : State) : Result :=
  .next (takeFrame n tag 0x31#8 payload (stopChannels n tag payload) s)

/-! ### Status -/

/-- The clip, underrun and substitution counters are set to 0 (R69). -/
def clearCounters (c : Channel) : Channel := { c with clips := 0, underruns := 0, substitutions := 0 }

/-- CHANNEL_STATUS's check, report and clear (R69). -/
def channelStatus (n : LinkId) (tag : Byte) (p : List Byte) (s : State) : State :=
  match finAt 4 p 0, flagAt p 1 with
  | some ch, some clear =>
    respond n tag .ok (channelReport (look s.channels ch) (look s.prefetch ch))
      (if clear then s.modChannel ch clearCounters else s)
  | _, _ => refuse n tag .outOfRange s

/-- CHANNEL_STATUS (R69). -/
def execChannelStatus (n : LinkId) (tag : Byte) (payload : List Byte) (s : State) : Result :=
  .next (takeFrame n tag 0x32#8 payload (channelStatus n tag payload) s)

/-- CHANNEL_SETTINGS's check and report (R91). -/
def channelSettings (n : LinkId) (tag : Byte) (p : List Byte) (s : State) : State :=
  match finAt 4 p 0 with
  | none => refuse n tag .outOfRange s
  | some ch => respond n tag .ok (settingsReport (look s.channels ch)) s

/-- CHANNEL_SETTINGS (R91). -/
def execChannelSettings (n : LinkId) (tag : Byte) (payload : List Byte) (s : State) : Result :=
  .next (takeFrame n tag 0x36#8 payload (channelSettings n tag payload) s)

/-! ### Scale, rate and configuration -/

/-- An update is held for the next pass end rather than set at once: `held` says the timing is AT_PASS_END (R86,
R87). -/
def updateWaits (mode : ChannelMode) (held : Bool) : Bool :=
  match mode with
  | .idle => false
  | .halted => true
  | .waiting => held
  | .running => held

/-- A SET_SCALE reaches the channel record (R86). -/
def scaleRecord (x : Scale) (held : Bool) (c : Channel) : Channel :=
  if updateWaits c.mode held then { c with pendingScale := some x } else { c with scale := x, pendingScale := none }

/-- SET_SCALE's check and acceptance (R86). -/
def setScale (n : LinkId) (tag : Byte) (p : List Byte) (s : State) : State :=
  match finAt 4 p 0, flagAt p 5 with
  | some ch, some held =>
    respond n tag .ok [] (s.modChannel ch (scaleRecord ⟨codeAt p 1, codeAt p 3⟩ held))
  | _, _ => refuse n tag .outOfRange s

/-- SET_SCALE (R86). -/
def execSetScale (n : LinkId) (tag : Byte) (payload : List Byte) (s : State) : Result :=
  .next (takeFrame n tag 0x33#8 payload (setScale n tag payload) s)

/-- A SET_RATE reaches the channel record (R87, R73): on an IDLE channel the current step is left as it was. -/
def rateRecord (e : Option Entry) (step : Nat) (held : Bool) (c : Channel) : Channel :=
  if updateWaits c.mode held then { c with pendingRate := some step }
  else if c.mode = .idle then { c with defaultStep := step, pendingRate := none }
  else { c with defaultStep := step, currentStep := stepFor e step, pendingRate := none }

/-- SET_RATE's check and acceptance (R87). -/
def setRate (n : LinkId) (tag : Byte) (p : List Byte) (s : State) : State :=
  match finAt 4 p 0, flagAt p 5 with
  | some ch, some held =>
    let step := clampStep (fieldAt p 1 4)
    respond n tag .ok (leBytes 4 step) (s.modChannel ch (rateRecord (currentEntry s ch) step held))
  | _, _ => refuse n tag .outOfRange s

/-- SET_RATE (R87). -/
def execSetRate (n : LinkId) (tag : Byte) (payload : List Byte) (s : State) : Result :=
  .next (takeFrame n tag 0x34#8 payload (setRate n tag payload) s)

/-- SET_CHANNEL_CONFIG's checks and acceptance (R90). -/
def setChannelConfig (n : LinkId) (tag : Byte) (p : List Byte) (s : State) : State :=
  match finAt 4 p 0, flagAt p 1, sumSourceAt p 2, flagAt p 5 with
  | some ch, some nearest, some source, some halt =>
    if source = some ch then refuse n tag .outOfRange s
    else if (look s.channels ch).mode ≠ .idle then refuse n tag .channelRunning s
    else
      respond n tag .ok [] (s.modChannel ch fun c =>
        { c with interpolation := if nearest then .nearest else .linear, sumSource := source, park := codeAt p 3,
                 haltOnLoss := halt })
  | _, _, _, _ => refuse n tag .outOfRange s

/-- SET_CHANNEL_CONFIG (R90). -/
def execSetChannelConfig (n : LinkId) (tag : Byte) (payload : List Byte) (s : State) : Result :=
  .next (takeFrame n tag 0x35#8 payload (setChannelConfig n tag payload) s)

end Sys2Proof.Machine
end

