-- ==== Sys2Proof/Machine/LinkOps.lean ====
section
/-! DEFINITION. A link's long command: the line transfers it asks for and how each one's end carries it on (R10,
R12 to R14, R18, R19, R123, R170). -/

namespace Sys2Proof.Machine

open Sys2Proof

/-! ### What a long command asks for next -/

/-- All four samples of the segment line lie in the written range (R12). -/
def wholeLine (offset count line : Nat) : Bool := offset ≤ 4 * line && 4 * line + 4 ≤ offset + count

/-- A line with the written samples in place and the kept ones elsewhere (R12, R14). -/
def mergedLine (offset : Nat) (samples : List Code) (line : Nat) (kept : LineData) : LineData :=
  packLine fun j =>
    if offset ≤ 4 * line + j && 4 * line + j < offset + samples.length then
      samples.getD (4 * line + j - offset) 0#16
    else sampleOf kept j

/-- The transfer the work needs next (R10, R12, R14, R18). -/
def workRequest : LongWork → Option LinkXfer
  | .zeroFill _ next stop => if next < stop then some (.zeroWrite next) else none
  | .write _ base offset samples line last merged =>
    if line ≤ last then
      if wholeLine offset samples.length line then
        some (.lineWrite (base + line) (mergedLine offset samples line 0#64))
      else
        match merged with
        | none => some (.mergeRead (base + line))
        | some data => some (.lineWrite (base + line) data)
    else none
  | .read _ base _ _ line last _ => if line ≤ last then some (.sampleRead (base + line)) else none

/-- A transfer of the link is on the port. -/
def linkInTransfer (s : State) (n : LinkId) : Bool :=
  match s.arbiter.port with
  | some (.link m _ _) => m = n
  | _ => false

/-- The link presents its next request: one at a time, waiting or in transfer (R123). -/
def presentLink (n : LinkId) (s : State) : State :=
  match (look s.links n).phase with
  | .executing _ work =>
    if (look s.links n).request.isSome || linkInTransfer s n then s
    else s.modLink n fun l => { l with request := workRequest work }
  | _ => s

/-- An accepted long command puts the link in EXECUTING and presents its first request (R170). -/
def execute (n : LinkId) (tag : Byte) (work : LongWork) (s : State) : State :=
  presentLink n (s.modLink n fun l => { l with phase := .executing tag work })

/-- The work goes on with what is left of it. -/
def carryOn (n : LinkId) (tag : Byte) (work : LongWork) (s : State) : State :=
  s.modLink n fun l => { l with phase := .executing tag work }

/-! ### The end of a transfer -/

/-- A zero-fill write of a live command has ended (R10). -/
def fillStep (n : LinkId) (s : State) : State :=
  match (look s.links n).phase with
  | .executing tag (.zeroFill id next stop) =>
    if next + 1 < stop then carryOn n tag (.zeroFill id (next + 1) stop) s
    else respond n tag .ok [oneByte id.val] (s.modSlot id fun x => { x with filling := false })
  | _ => s

/-- A line write of a live WRITE_SAMPLES has ended (R12). -/
def writeStep (n : LinkId) (s : State) : State :=
  match (look s.links n).phase with
  | .executing tag (.write id base offset samples line last _) =>
    if line < last then carryOn n tag (.write id base offset samples (line + 1) last none) s
    else respond n tag .ok [] s
  | _ => s

/-- The merge read of a live WRITE_SAMPLES has ended with the codes to keep (R14). -/
def mergeStep (n : LinkId) (kept : LineData) (s : State) : State :=
  match (look s.links n).phase with
  | .executing tag (.write id base offset samples line last _) =>
    carryOn n tag (.write id base offset samples line last (some (mergedLine offset samples line kept))) s
  | _ => s

/-- The samples a read was asked for, out of the lines delivered (R18). -/
def samplesRead (offset count : Nat) (got : List (LineData × Bool)) : List Code :=
  ((got.flatMap fun g => [sampleOf g.1 0, sampleOf g.1 1, sampleOf g.1 2, sampleOf g.1 3]).drop (offset % 4)).take count

/-- READ_SAMPLES's payload: the samples, then the poison bitmap (R18, spec 10 section 10.7.2). -/
def readReport (offset count : Nat) (got : List (LineData × Bool)) : List Byte :=
  (samplesRead offset count got).flatMap (fun c => leBytes 2 c.toNat) ++ packBits (got.map (·.2))

/-- A sample read of a live READ_SAMPLES has ended with its delivery (R18, R19). -/
def readStep (n : LinkId) (d : Delivery) (s : State) : State :=
  match (look s.links n).phase with
  | .executing tag (.read id base offset count line last got) =>
    if line < last then carryOn n tag (.read id base offset count (line + 1) last (got ++ [(d.data, d.poisoned)])) s
    else respond n tag .ok (readReport offset count (got ++ [(d.data, d.poisoned)])) s
  | _ => s

/-- A read transfer ends (R141): stored bits that have gone wrong are in the store, the port is free, the read is
judged, and the write side presents what that gave it. -/
def endRead (k : ReadKind) (addr : Nat) (upset : LineBits) (s : State) : State × Delivery :=
  let s := strike addr upset s
  (presentWriteSide (judgeRead k addr (s.setPort none)), readDelivery s addr)

/-- A transfer's line address is one of the store's; the access to any other faults. -/
def inStore (addr : Nat) (s : State) : Result :=
  if addr < Config.storeLines then .next s else .fault (.lineOutsideStore addr)

/-! ### Link reset -/

/-- A transfer of the link on the port belongs to a stopped command (R11, R14, R18, R122). -/
def orphanLink (n : LinkId) : Option Transfer → Option Transfer
  | some (.link m x live) => some (.link m x (if m = n then false else live))
  | t => t

/-- One OPEN segment of the reset link returns to FREE (R24, R144). -/
def freeOwned (n : LinkId) (id : SegId) (s : State) : State :=
  if ownedBy n (look s.slots id) then freeSegment id (dropSegmentRecords id s) else s

/-- Every OPEN segment of the link returns to FREE, in ascending id order (R24). -/
def freeAllOwned (n : LinkId) (s : State) : State := (List.finRange 256).foldl (fun s id => freeOwned n id s) s

/-- The link owns at least one OPEN segment. -/
def ownsAny (n : LinkId) (s : State) : Bool := (List.finRange 256).any fun id => ownedBy n (look s.slots id)

/-- The editor of a staged bank is made absent where it is the link (R45). -/
def releaseEditor (n : LinkId) (t : Tables) : Tables := if t.editor = some n then { t with editor := none } else t

/-- The link's own record at its reset (R175, R188). -/
def linkResetRecord (l : Link) : Link :=
  { l with phase := .free, request := none, flags := 0#41, masks := BitVec.allOnes 41, inReset := true,
           ignoring := false }

end Sys2Proof.Machine
end

