-- ==== Sys2Proof/Machine/Library.lean ====
section
/-! DEFINITION. The meanings of the waveform library's commands (chapter 1) and of the ends of their transfers. -/

namespace Sys2Proof.Machine

open Sys2Proof

/-- CREATE_SEGMENT's checks and acceptance (R9, R5). -/
def createSegment (n : LinkId) (tag : Byte) (p : List Byte) (s : State) : State :=
  let length := fieldAt p 0 4
  if length < 64 || 1048576 < length then refuse n tag .outOfRange s
  else
    match lowestFree s with
    | none => refuse n tag .noId s
    | some id =>
      match allocate (blocksFor length) s.free with
      | none => respond n tag .noSpace (leBytes 2 (largestFree s.free)) s
      | some (first, rest) =>
        let extent : Extent := ⟨first, blocksFor length⟩
        let t := { s with free := rest }
        let t := t.modSlot id fun _ => ⟨.opened n length extent, 0, 0, true⟩
        execute n tag (.zeroFill id (16 * first) (16 * (first + blocksFor length))) (t.raise .libraryChanged)

/-- CREATE_SEGMENT (R9). -/
def execCreateSegment (n : LinkId) (tag : Byte) (payload : List Byte) (s : State) : Result :=
  .next (takeFrame n tag 0x10#8 payload (createSegment n tag payload) s)

/-- The sample codes a WRITE_SAMPLES frame carries (spec 10 section 10.7.2). -/
def samplesAt (p : List Byte) : List Code := (List.range ((p.length - 7) / 2)).map fun j => codeAt p (7 + 2 * j)

/-- WRITE_SAMPLES's checks and acceptance (R12). -/
def writeSamples (n : LinkId) (tag : Byte) (p : List Byte) (s : State) : State :=
  let id := segmentAt p 0
  let offset := fieldAt p 1 4
  let count := fieldAt p 5 2
  let samples := samplesAt p
  if count ≠ samples.length then refuse n tag .badLength s
  else if count = 0 || 1024 < count then refuse n tag .outOfRange s
  else
    match (look s.slots id).body with
    | .opened owner length _ =>
      if owner ≠ n then refuse n tag .notOwner s
      else if length < offset + count then refuse n tag .outOfRange s
      else
        execute n tag
          (.write id (segmentBase s id) offset samples (offset / 4) ((offset + count - 1) / 4) none) s
    | .free => refuse n tag .wrongState s
    | .ready _ _ _ => refuse n tag .wrongState s

/-- WRITE_SAMPLES (R12). -/
def execWriteSamples (n : LinkId) (tag : Byte) (payload : List Byte) (s : State) : Result :=
  .next (takeFrame n tag 0x11#8 payload (writeSamples n tag payload) s)

/-- FINISH_SEGMENT's checks and acceptance (R15). -/
def finishSegment (n : LinkId) (tag : Byte) (p : List Byte) (s : State) : State :=
  let id := segmentAt p 0
  match (look s.slots id).body with
  | .opened owner length extent =>
    if owner ≠ n then refuse n tag .notOwner s
    else
      let t := s.modSlot id fun x => { x with body := .ready length extent (BitVec.ofNat 32 (fieldAt p 1 4)) }
      respond n tag .ok [] (t.raise .libraryChanged)
  | .free => refuse n tag .wrongState s
  | .ready _ _ _ => refuse n tag .wrongState s

/-- FINISH_SEGMENT (R15). -/
def execFinishSegment (n : LinkId) (tag : Byte) (payload : List Byte) (s : State) : Result :=
  .next (takeFrame n tag 0x12#8 payload (finishSegment n tag payload) s)

/-- ABANDON_SEGMENT's checks and acceptance (R16). -/
def abandonSegment (n : LinkId) (tag : Byte) (p : List Byte) (s : State) : State :=
  let id := segmentAt p 0
  match (look s.slots id).body with
  | .opened owner _ _ =>
    if owner ≠ n then refuse n tag .notOwner s
    else
      let t := presentWriteSide (freeSegment id (dropSegmentRecords id s))
      respond n tag .ok [] (t.raise .libraryChanged)
  | .free => refuse n tag .wrongState s
  | .ready _ _ _ => refuse n tag .wrongState s

/-- ABANDON_SEGMENT (R16). -/
def execAbandonSegment (n : LinkId) (tag : Byte) (payload : List Byte) (s : State) : Result :=
  .next (takeFrame n tag 0x13#8 payload (abandonSegment n tag payload) s)

/-- The link executes a READ_SAMPLES of the segment (R17 step 3, R18). -/
def isReading (l : Link) (id : SegId) : Bool :=
  match l.phase with
  | .executing _ (.read i _ _ _ _ _ _) => i = id
  | _ => false

/-- DELETE_SEGMENT's checks and acceptance (R17, R144, R147, R151). -/
def deleteSegment (n : LinkId) (tag : Byte) (p : List Byte) (s : State) : State :=
  let id := segmentAt p 0
  match (look s.slots id).body with
  | .ready _ extent _ =>
    if 0 < (look s.slots id).refCount then refuse n tag .inUse s
    else if isReading (look s.links (otherLink n)) id then refuse n tag .inUse s
    else
      let t := presentWriteSide (freeSegment id (dropSegmentRecords id (withdrawScrub extent s)))
      respond n tag .ok [] (t.raise .libraryChanged)
  | .free => refuse n tag .wrongState s
  | .opened _ _ _ => refuse n tag .wrongState s

/-- DELETE_SEGMENT (R17). -/
def execDeleteSegment (n : LinkId) (tag : Byte) (payload : List Byte) (s : State) : Result :=
  .next (takeFrame n tag 0x14#8 payload (deleteSegment n tag payload) s)

/-- READ_SAMPLES's acceptance, once the segment may be read by the link (R18 step 4). -/
def acceptRead (n : LinkId) (tag : Byte) (id : SegId) (offset count : Nat) (s : State) : State :=
  if segmentLength s id < offset + count then refuse n tag .outOfRange s
  else execute n tag (.read id (segmentBase s id) offset count (offset / 4) ((offset + count - 1) / 4) []) s

/-- READ_SAMPLES's checks (R18). -/
def readSamples (n : LinkId) (tag : Byte) (p : List Byte) (s : State) : State :=
  let id := segmentAt p 0
  let offset := fieldAt p 1 4
  let count := fieldAt p 5 2
  if count = 0 || 1024 < count then refuse n tag .outOfRange s
  else
    match (look s.slots id).body with
    | .free => refuse n tag .wrongState s
    | .opened owner _ _ => if owner ≠ n then refuse n tag .notOwner s else acceptRead n tag id offset count s
    | .ready _ _ _ => acceptRead n tag id offset count s

/-- READ_SAMPLES (R18). -/
def execReadSamples (n : LinkId) (tag : Byte) (payload : List Byte) (s : State) : Result :=
  .next (takeFrame n tag 0x15#8 payload (readSamples n tag payload) s)

/-- QUERY_SEGMENT (R20). -/
def execQuerySegment (n : LinkId) (tag : Byte) (payload : List Byte) (s : State) : Result :=
  .next (takeFrame n tag 0x16#8 payload
    (fun s => respond n tag .ok (segmentRecord (segmentAt payload 0) (look s.slots (segmentAt payload 0))) s) s)

/-- The slot is READY and carries the tag (R21). -/
def carriesTag (tag : BitVec 32) (x : Slot) : Bool :=
  match x.body with
  | .ready _ _ t => t = tag
  | _ => false

/-- The ids of the READY segments that carry the tag, ascending (R21). -/
def idsWithTag (s : State) (tag : BitVec 32) : List SegId :=
  (List.finRange 256).filter fun id => carriesTag tag (look s.slots id)

/-- FIND_TAG's report: number of ids, more, the ids (R21, spec 10 section 10.7.2). -/
def findReport (ids : List SegId) : List Byte :=
  [oneByte (ids.take 16).length, boolByte (16 < ids.length)] ++ (ids.take 16).map fun id => oneByte id.val

/-- FIND_TAG (R21). -/
def execFindTag (n : LinkId) (tag : Byte) (payload : List Byte) (s : State) : Result :=
  .next (takeFrame n tag 0x17#8 payload
    (fun s => respond n tag .ok (findReport (idsWithTag s (BitVec.ofNat 32 (fieldAt payload 0 4)))) s) s)

/-- LIBRARY_STATUS's report (R22). -/
def libraryReport (s : State) : List Byte :=
  leBytes 2 (freeBlocks s.free) ++ leBytes 2 (largestFree s.free)
    ++ leBytes 2 ((List.finRange 256).countP fun id => isOpen (look s.slots id))
    ++ leBytes 2 ((List.finRange 256).countP fun id => isReady (look s.slots id))

/-- LIBRARY_STATUS (R22). -/
def execLibraryStatus (n : LinkId) (tag : Byte) (payload : List Byte) (s : State) : Result :=
  .next (takeFrame n tag 0x18#8 payload (fun s => respond n tag .ok (libraryReport s) s) s)

/-! ### The ends of the library's transfers -/

/-- ZERO_FILL_WRITE_END (R10, R11): the line holds four zero codes; the command, unless stopped, goes on. -/
def execZeroFillWriteEnd (s : State) : Result :=
  match s.arbiter.port with
  | some (.link n (.zeroWrite addr) live) =>
    let t := writeData addr 0#64 (s.setPort none)
    inStore addr (presentLink n (if live then fillStep n t else t))
  | _ => .next s

/-- WRITE_SAMPLES_TRANSFER_END (R13, R14): a line write or a merge read of a WRITE_SAMPLES ends. -/
def execWriteSamplesTransferEnd (upset : LineBits) (s : State) : Result :=
  match s.arbiter.port with
  | some (.link n (.lineWrite addr data) live) =>
    let t := writeData addr data (s.setPort none)
    inStore addr (presentLink n (if live then writeStep n t else t))
  | some (.link n (.mergeRead addr) live) =>
    let (t, d) := endRead (.merge n) addr upset s
    inStore addr (presentLink n (if live then mergeStep n d.data t else t))
  | _ => .next s

/-- READ_SAMPLES_LINE_END (R18, R19). -/
def execReadSamplesLineEnd (upset : LineBits) (s : State) : Result :=
  match s.arbiter.port with
  | some (.link n (.sampleRead addr) live) =>
    let (t, d) := endRead (.sample n) addr upset s
    inStore addr (presentLink n (if live then readStep n d t else t))
  | _ => .next s

end Sys2Proof.Machine
end

