-- ==== Sys2Proof/Machine/Links.lean ====
section
/-! DEFINITION. The meanings of the reset rows, of the transfers that take no command, of the response fetch and of
IDENTIFY (chapter 10). -/

namespace Sys2Proof.Machine

open Sys2Proof

/-- A link after RESETn: its power-on record; the level at its LRSTn pin is its surroundings' (R176, R177). -/
def powerOnLink (selected : Bool) (l : Link) : Link :=
  { Link.reset with inReset := l.inReset, ignoring := selected }

/-- POWER_ON_RESET (R177): every block at its power-on values, the store's contents undefined anew (R1). -/
def execPowerOnReset (selected : BitVec 2) (s : State) : Result :=
  .next { State.reset with
    pending := s.pending
    powerUps := s.powerUps + 1
    links := Vector.ofFn fun n => powerOnLink (selected.getLsbD n.val) (look s.links n) }

/-- A link reset's effects as one event (R175). -/
def linkResets (n : LinkId) (s : State) : State :=
  let t := s.modLink n linkResetRecord
  let t := t.setPort (orphanLink n t.arbiter.port)
  let t := freeAllOwned n t
  let t := eachChannel (fun ch t => t.modTables ch (releaseEditor n)) t
  let t := if ownsAny n s then t.raiseOn (otherLink n) .libraryChanged else t
  presentWriteSide t

/-- LINK_RESET (R175, R24, R45, R188). -/
def execLinkReset (n : LinkId) (s : State) : Result := .next (linkResets n s)

/-- LINK_RESET_RELEASE (R176): the link hears again; a transfer whose chip select is asserted now is to be
ignored. -/
def execLinkResetRelease (n : LinkId) (selected : Bool) (s : State) : Result :=
  .next (if (look s.links n).inReset then s.modLink n fun l => { l with inReset := false, ignoring := selected }
         else s)

/-- FRAME_ERROR (R167). With no bytes it is the release of a transfer with no complete byte, which changes nothing
(R166) but is a transfer all the same: one begun under a reset ends its ignoring there (R176, R177; DESIGN CHOICE, log
entry 32). -/
def execFrameError (n : LinkId) (bytes : List Byte) (s : State) : Result :=
  .next (if frameFails bytes then
           hearTransfer n (fun s => (driveZeros n bytes.length s).raiseOn n .frameError) s
         else if bytes.isEmpty then hearTransfer n id s
         else s)

/-- COMMAND_DROPPED (R168): the frame meets a link that is EXECUTING or HOLDING. -/
def execCommandDropped (n : LinkId) (tag code : Byte) (payload : List Byte) (s : State) : Result :=
  .next (if (look s.links n).phase = .free then s else takeFrame n tag code payload id s)

/-- UNKNOWN_COMMAND (R169 step 1). -/
def execUnknownCommand (n : LinkId) (tag code : Byte) (payload : List Byte) (s : State) : Result :=
  .next (if namesCommand code then s else takeFrame n tag code payload (refuse n tag .unknownCommand) s)

/-- The bytes of a held response as a fetch sends them after the ready byte: tag, status, payload length, payload
(R171). -/
def responseBytes (r : Response) : List Byte := r.tag :: statusByte r.status :: (leBytes 2 r.payload.length ++ r.payload)

/-- What the part drives on SDOn over a fetch of `count` complete bytes: 0x00 under the kind byte, the ready byte,
the response when the link is HOLDING, then 0x00 (R171). -/
def fetchBytes (phase : LinkPhase) (count : Nat) : List Byte :=
  let sent := match phase with
    | .holding r => 0#8 :: 1#8 :: responseBytes r
    | _ => [0#8, 0#8]
  (sent ++ List.replicate count 0#8).take count

/-- The transfer ran through the last byte of the held response (R172). -/
def fetchedWhole (phase : LinkPhase) (count : Nat) : Bool :=
  match phase with
  | .holding r => decide (6 + r.payload.length ≤ count)
  | _ => false

/-- A fetch of `count` complete bytes (R171, R172). -/
def fetchResponse (n : LinkId) (count : Nat) (s : State) : State :=
  if count = 0 then s
  else
    s.modLink n fun l =>
      { l with sdo := fetchBytes l.phase count, phase := if fetchedWhole l.phase count then .free else l.phase }

/-- RESPONSE_FETCH (R171, R172). -/
def execResponseFetch (n : LinkId) (count : Nat) (s : State) : Result :=
  .next (hearTransfer n (fetchResponse n count) s)

/-- IDENTIFY (R174). -/
def execIdentify (n : LinkId) (tag : Byte) (payload : List Byte) (s : State) : Result :=
  .next (takeFrame n tag 0x01#8 payload (respond n tag .ok identifyReport) s)

end Sys2Proof.Machine
end

