-- ==== Sys2Proof/Machine/StorePort.lean ====
section
/-! DEFINITION. The meanings of the arbiter's grant (chapter 7) and of the ends of the prefetch, scrub, mark and
write-back transfers (chapters 7 and 8). -/

namespace Sys2Proof.Machine

open Sys2Proof

/-! ### The grant decision -/

/-- The first channel in round-robin order from the pointer that passes the test (R125). -/
def roundRobin (ptr : ChanId) (test : ChanId → Bool) : Option ChanId := [ptr, ptr + 1, ptr + 2, ptr + 3].find? test

/-- The channel has a prefetch request waiting that is urgent at this decision (R124). -/
def urgentWaits (s : State) (ch : ChanId) : Bool :=
  (look s.prefetch ch).waiting.isSome && isUrgent (look s.prefetch ch)

/-- The channel has a prefetch request waiting that is not urgent at this decision (R124). -/
def calmWaits (s : State) (ch : ChanId) : Bool :=
  (look s.prefetch ch).waiting.isSome && !isUrgent (look s.prefetch ch)

/-- The link class 2 grants: the one that waits, or of two the one not named in the record (R126). -/
def linkChoice (s : State) : Option LinkId :=
  match (look s.links 0).request.isSome, (look s.links 1).request.isSome with
  | true, true => some (otherLink s.arbiter.lastLink)
  | true, false => some 0
  | false, true => some 1
  | false, false => none

/-- The requester class 4 grants: the one that waits, or of two the one not named in the record (R127). -/
def class4Choice (s : State) : Option Class4 :=
  match s.scrub.request.isSome, s.writeSide.isSome with
  | true, true => some (match s.arbiter.lastClass4 with
      | .scrubber => .writeSide
      | .writeSide => .scrubber)
  | true, false => some .scrubber
  | false, true => some .writeSide
  | false, false => none

/-- A prefetch request is granted. -/
def grantPrefetch (ch : ChanId) (s : State) : State :=
  match (look s.prefetch ch).waiting with
  | none => s
  | some r => (s.modPrefetch ch fun p => { p with waiting := none }).setPort (some (.prefetch ch r true))

/-- What the grant of a link transfer does to the poison mark of its line (R144). -/
def linkGrantMark (x : LinkXfer) (s : State) : State :=
  match x with
  | .zeroWrite addr => presentWriteSide (clearMarkAtFill addr s)
  | .lineWrite addr _ => presentWriteSide (clearMarkAtGrant addr s)
  | .mergeRead _ => s
  | .sampleRead _ => s

/-- A link's request is granted (R126). -/
def grantLink (n : LinkId) (s : State) : State :=
  match (look s.links n).request with
  | none => s
  | some x =>
    let s := s.modLink n fun l => { l with request := none }
    linkGrantMark x
      { s with arbiter := { s.arbiter with port := some (.link n x true), lastLink := n } }

/-- The scrubber's request is granted (R127). -/
def grantScrub (s : State) : State :=
  match s.scrub.request with
  | none => s
  | some addr => { s with arbiter := { s.arbiter with port := some (.scrub addr), lastClass4 := .scrubber } }

/-- The write side's request is granted (R127); a write-back's record leaves the queue (R146). -/
def grantWriteSide (s : State) : State :=
  match s.writeSide with
  | none => s
  | some (.mark r) =>
    { s with writeSide := none, arbiter := { s.arbiter with port := some (.mark r), lastClass4 := .writeSide } }
  | some (.writeBack r) =>
    { s with writeSide := none, writeBacks := s.writeBacks.filter fun q => q.addr ≠ r.addr,
             arbiter := { s.arbiter with port := some (.writeBack r), lastClass4 := .writeSide } }

/-- One grant decision with the port free (R124 to R127). -/
def grantDecision (s : State) : State :=
  match roundRobin s.arbiter.urgentPtr (urgentWaits s) with
  | some ch =>
    let t := grantPrefetch ch s
    { t with arbiter := { t.arbiter with urgentPtr := ch + 1 } }
  | none =>
    match linkChoice s with
    | some n => grantLink n s
    | none =>
      match roundRobin s.arbiter.calmPtr (calmWaits s) with
      | some ch =>
        let t := grantPrefetch ch s
        { t with arbiter := { t.arbiter with calmPtr := ch + 1 } }
      | none =>
        match class4Choice s with
        | some .scrubber => grantScrub s
        | some .writeSide => grantWriteSide s
        | none => s

/-- STORE_GRANT (R124): a decision is made while the port is free (R122). -/
def execStoreGrant (s : State) : Result := .next (if s.arbiter.port.isSome then s else grantDecision s)

/-! ### The ends of transfers -/

/-- A prefetch read's line is appended, or discarded when its place is behind the play position or its path has been
flushed (R132). -/
def placeLine (ch : ChanId) (r : PrefetchRequest) (live : Bool) (d : Delivery) (s : State) : State :=
  if live && decide ((look s.prefetch ch).play ≤ r.pos.place) then
    s.modPrefetch ch fun p => { p with fifo := p.fifo ++ [⟨r.pos.place, r.segment, r.pos.line, d.data, d.poisoned⟩] }
  else s

/-- PREFETCH_READ_END (R132, R140, R141). -/
def execPrefetchReadEnd (upset : LineBits) (s : State) : Result :=
  match s.arbiter.port with
  | some (.prefetch ch r live) =>
    let (t, d) := endRead (.prefetch ch) r.addr upset s
    inStore r.addr (presentPrefetch ch (placeLine ch r live d t))
  | _ => .next s

/-- SCRUB_READ_END (R140, R149). -/
def execScrubReadEnd (upset : LineBits) (s : State) : Result :=
  match s.arbiter.port with
  | some (.scrub addr) =>
    let (t, _) := endRead .scrub addr upset s
    inStore addr { t with scrub := { t.scrub with request := none } }
  | _ => .next s

/-- MARK_WRITE_END (R143): the store mark is set and the record leaves the list. -/
def execMarkWriteEnd (s : State) : Result :=
  match s.arbiter.port with
  | some (.mark r) =>
    let t := writeMark r.addr (s.setPort none)
    inStore r.addr (presentWriteSide { t with marks := t.marks.filter fun q => q.addr ≠ r.addr })
  | _ => .next s

/-- WRITE_BACK_END (R146): the line holds the record's codes, fresh check bits and a clear mark. -/
def execWriteBackEnd (s : State) : Result :=
  match s.arbiter.port with
  | some (.writeBack r) => inStore r.addr (presentWriteSide (writeData r.addr r.data (s.setPort none)))
  | _ => .next s

end Sys2Proof.Machine
end

