-- ==== Sys2Proof/Machine/Supervision.lean ====
section
/-! DEFINITION. The sample clock monitor and the scrubber's timer as events, the 1 µs system time base, and the
meanings of the scrubber's, the error log's, the monitor's and the notification unit's commands (chapters 8, 9
and 11). -/

namespace Sys2Proof.Machine

open Sys2Proof

/-! ### The monitor -/

/-- A gate's count is in window (R159). -/
def inWindow (m : Monitor) : Bool := decide (m.windowMin ≤ m.edges) && decide (m.edges ≤ m.windowMax)

/-- The monitor's record at the end of a gate (R158, R159). -/
def gateRecord (m : Monitor) : Monitor :=
  { m with
    locked := inWindow m && (m.locked || m.goodGates == 1)
    goodGates := if inWindow m && !m.locked && m.goodGates == 0 then 1 else 0
    edges := 0
    gateTimer := 100
    lastCount := some m.edges }

/-- A measurement gate ends (R158 to R161). -/
def gateEnd (s : State) : State :=
  let good := inWindow s.monitor
  let t := { s with monitor := gateRecord s.monitor }
  if s.monitor.locked && !good then (eachChannel haltChannel t).raise .lockLost
  else if !s.monitor.locked && good && s.monitor.goodGates == 1 then t.raise .lockGained
  else t

/-- MEASUREMENT_GATE_END (R158). -/
def execMeasurementGateEnd (s : State) : Result := .next (gateEnd s)

/-- SET_CLOCK_WINDOW's check and acceptance (R162). -/
def setClockWindow (n : LinkId) (tag : Byte) (p : List Byte) (s : State) : State :=
  if fieldAt p 2 2 < fieldAt p 0 2 then refuse n tag .outOfRange s
  else
    respond n tag .ok []
      { s with monitor := { s.monitor with windowMin := fieldAt p 0 2, windowMax := fieldAt p 2 2 } }

/-- SET_CLOCK_WINDOW (R162). -/
def execSetClockWindow (n : LinkId) (tag : Byte) (payload : List Byte) (s : State) : Result :=
  .next (takeFrame n tag 0x58#8 payload (setClockWindow n tag payload) s)

/-- CLOCK_STATUS (R163). -/
def execClockStatus (n : LinkId) (tag : Byte) (payload : List Byte) (s : State) : Result :=
  .next (takeFrame n tag 0x59#8 payload (fun s => respond n tag .ok (clockReport s.monitor) s) s)

/-! ### The scrubber -/

/-- SCRUB_EXPIRY (R149): with interval 0 no expiry occurs (R150). -/
def execScrubExpiry (s : State) : Result := .next (if s.scrub.interval = 0 then s else scrubExpire s)

/-- SET_SCRUB's acceptance (R150). -/
def scrubRecord (inTransfer : Bool) (interval : Nat) (x : Scrub) : Scrub :=
  { x with interval := interval, timer := interval,
           request := if interval = 0 && !inTransfer then none else x.request }

/-- SET_SCRUB's check and acceptance (R150). -/
def setScrub (n : LinkId) (tag : Byte) (p : List Byte) (s : State) : State :=
  let interval := fieldAt p 0 4
  if 65535 < interval then refuse n tag .outOfRange s
  else
    respond n tag .ok (leBytes 2 interval ++ leBytes 3 s.scrub.cursor)
      { s with scrub := scrubRecord (scrubInTransfer s) interval s.scrub }

/-- SET_SCRUB (R150). -/
def execSetScrub (n : LinkId) (tag : Byte) (payload : List Byte) (s : State) : Result :=
  .next (takeFrame n tag 0x50#8 payload (setScrub n tag payload) s)

/-! ### The system time base -/

/-- The gate timer after one more microsecond; at 0 the gate ends (R158). -/
def gateMicrosecond (s : State) : State :=
  if s.monitor.gateTimer ≤ 1 then gateEnd s
  else { s with monitor := { s.monitor with gateTimer := s.monitor.gateTimer - 1 } }

/-- The scrub timer after one more microsecond; at 0 the scrubber expires (R149). -/
def scrubMicrosecond (s : State) : State :=
  if s.scrub.interval = 0 then s
  else if s.scrub.timer ≤ 1 then scrubExpire s
  else { s with scrub := { s.scrub with timer := s.scrub.timer - 1 } }

/-- One microsecond of the system time base (spec 00 section 4.1), which times the gate and the scrub interval. -/
def microsecond (s : State) : State := scrubMicrosecond (gateMicrosecond s)

/-! ### The error log -/

/-- ERROR_LOG_READ (R154). -/
def execErrorLogRead (n : LinkId) (tag : Byte) (payload : List Byte) (s : State) : Result :=
  .next (takeFrame n tag 0x51#8 payload (fun s => respond n tag .ok (errorReport s) s) s)

/-- ERROR_LOG_CLEAR (R155). -/
def execErrorLogClear (n : LinkId) (tag : Byte) (payload : List Byte) (s : State) : Result :=
  .next (takeFrame n tag 0x52#8 payload (fun s => respond n tag .ok [] { s with log := ⟨none, 0#14, 0, 0⟩ }) s)

/-! ### Notification -/

/-- READ_EVENTS (R187): the report is taken before the link enters HOLDING with it. -/
def execReadEvents (n : LinkId) (tag : Byte) (payload : List Byte) (s : State) : Result :=
  .next (takeFrame n tag 0x60#8 payload (fun s => respond n tag .ok (eventReport (look s.links n)) s) s)

/-- The flag set of six bytes; positions 41 to 47 are not examined (R178). -/
def flagSetAt (p : List Byte) (i : Nat) : BitVec 41 := BitVec.ofNat 41 (fieldAt p i 6)

/-- ACK_EVENTS (R183, R184): the response is formed first, then the positions named are cleared. -/
def ackEvents (n : LinkId) (tag : Byte) (p : List Byte) (s : State) : State :=
  (respond n tag .ok [] s).modLink n fun l => { l with flags := l.flags &&& ~~~(flagSetAt p 0) }

/-- ACK_EVENTS (R183). -/
def execAckEvents (n : LinkId) (tag : Byte) (payload : List Byte) (s : State) : Result :=
  .next (takeFrame n tag 0x61#8 payload (ackEvents n tag payload) s)

/-- SET_EVENT_MASK (R184, R185): the new mask set takes effect first, then the link enters HOLDING. -/
def setEventMask (n : LinkId) (tag : Byte) (p : List Byte) (s : State) : State :=
  respond n tag .ok [] (s.modLink n fun l => { l with masks := flagSetAt p 0 })

/-- SET_EVENT_MASK (R185). -/
def execSetEventMask (n : LinkId) (tag : Byte) (payload : List Byte) (s : State) : Result :=
  .next (takeFrame n tag 0x62#8 payload (setEventMask n tag payload) s)

end Sys2Proof.Machine
end

