-- ==== Sys2Proof/Machine/TableCommands.lean ====
section
/-! DEFINITION. The meanings of the sequence tables' commands (chapter 2). -/

namespace Sys2Proof.Machine

open Sys2Proof

/-- How an editing command, a commit or a discard from the link is judged against the pending commit and the editor
(R29, R34, R41). -/
def editRefusal (s : State) (ch : ChanId) (n : LinkId) : Option Status :=
  if (look s.channels ch).commit.isSome then some .commitPending
  else if (look s.tables ch).editor = some (otherLink n) then some .stagedBusy
  else none

/-- A staged slot is set, with the reference counts adjusted, and the link is the editor (R28, R29, R30, R31). -/
def setStagedSlot (n : LinkId) (ch : ChanId) (x : SlotIx) (e : Option Entry) (s : State) : State :=
  let old := look (look s.tables ch).staged.slots x
  (adjustRefs old e s).modTables ch fun t =>
    { t with editor := some n, staged := { t.staged with slots := put t.staged.slots x e } }

/-- WRITE_ENTRY's checks and acceptance (R30). -/
def writeEntry (n : LinkId) (tag : Byte) (p : List Byte) (s : State) : State :=
  match finAt 4 p 0, finAt 64 p 1 with
  | some ch, some x =>
    match editRefusal s ch n with
    | some status => refuse n tag status s
    | none =>
      match entryAtOffset p 2 with
      | none => refuse n tag .outOfRange s
      | some e =>
        if isReady (look s.slots e.segment) then respond n tag .ok [] (setStagedSlot n ch x (some e) s)
        else refuse n tag .noSegment s
  | _, _ => refuse n tag .outOfRange s

/-- WRITE_ENTRY (R30). -/
def execWriteEntry (n : LinkId) (tag : Byte) (payload : List Byte) (s : State) : Result :=
  .next (takeFrame n tag 0x20#8 payload (writeEntry n tag payload) s)

/-- CLEAR_ENTRY's checks and acceptance (R31). -/
def clearEntry (n : LinkId) (tag : Byte) (p : List Byte) (s : State) : State :=
  match finAt 4 p 0, finAt 64 p 1 with
  | some ch, some x =>
    match editRefusal s ch n with
    | some status => refuse n tag status s
    | none => respond n tag .ok [] (setStagedSlot n ch x none s)
  | _, _ => refuse n tag .outOfRange s

/-- CLEAR_ENTRY (R31). -/
def execClearEntry (n : LinkId) (tag : Byte) (payload : List Byte) (s : State) : Result :=
  .next (takeFrame n tag 0x21#8 payload (clearEntry n tag payload) s)

/-- The end action of SET_TABLE_END: 0 STOP, its loop index not examined, or 1 LOOP with the loop index (R32 steps
1 and 2). -/
def endActionAt (p : List Byte) (i : Nat) : Option EndAction :=
  match flagAt p i with
  | none => none
  | some false => some .stop
  | some true => (finAt 64 p (i + 1)).map .loop

/-- SET_TABLE_END's checks and acceptance (R32). -/
def setTableEnd (n : LinkId) (tag : Byte) (p : List Byte) (s : State) : State :=
  match finAt 4 p 0, finAt 65 p 1, endActionAt p 2 with
  | some ch, some count, some action =>
    match editRefusal s ch n with
    | some status => refuse n tag status s
    | none =>
      respond n tag .ok [] (s.modTables ch fun t =>
        { t with editor := some n, staged := { t.staged with count := count.val, endAction := action } })
  | _, _, _ => refuse n tag .outOfRange s

/-- SET_TABLE_END (R32). -/
def execSetTableEnd (n : LinkId) (tag : Byte) (payload : List Byte) (s : State) : Result :=
  .next (takeFrame n tag 0x22#8 payload (setTableEnd n tag payload) s)

/-- What validation finds wrong in one slot below the count: reason and index (R35 order 2). -/
def slotFault (b : Bank) (x : SlotIx) : Option (Nat × Nat) :=
  if x.val < b.count then
    match look b.slots x with
    | none => some (1, x.val)
    | some e =>
      match e.jump with
      | none => none
      | some j => if j.target.val < b.count then none else some (2, x.val)
  else none

/-- Validation of a bank for a commit's target: `none`, or the reason and the index (R35, R173). -/
def validate (b : Bank) (target : SlotIx) : Option (Nat × Nat) :=
  if b.count = 0 then some (0, 0)
  else
    match (List.finRange 64).findSome? (slotFault b) with
    | some r => some r
    | none =>
      let loopFault := match b.endAction with
        | .stop => none
        | .loop i => if i.val < b.count then none else some (3, i.val)
      match loopFault with
      | some r => some r
      | none => if target.val < b.count then none else some (4, target.val)

/-- An accepted COMMIT_TABLE, the editor absent (R36). -/
def acceptCommit (n : LinkId) (tag : Byte) (ch : ChanId) (k : Commit) (s : State) : State :=
  let s := s.modTables ch fun t => { t with editor := none }
  match (look s.channels ch).mode, k.point with
  | .idle, _ => respond n tag .taken [] (swapBanks ch s)
  | .waiting, .atEntryEnd => respond n tag .taken [] (presentPrefetch ch (takeCommit ch k.target s))
  | _, _ => respond n tag .pending [] (s.modChannel ch fun c => { c with commit := some k })

/-- COMMIT_TABLE's checks (R34). -/
def commitTable (n : LinkId) (tag : Byte) (p : List Byte) (s : State) : State :=
  match finAt 4 p 0, commitPointAt p 1, finAt 64 p 2 with
  | some ch, some point, some target =>
    match editRefusal s ch n with
    | some status => refuse n tag status s
    | none =>
      match validate (look s.tables ch).staged target with
      | some (reason, index) => respond n tag .invalidTable [oneByte reason, oneByte index] s
      | none => acceptCommit n tag ch ⟨point, target⟩ s
  | _, _, _ => refuse n tag .outOfRange s

/-- COMMIT_TABLE (R34 to R38). -/
def execCommitTable (n : LinkId) (tag : Byte) (payload : List Byte) (s : State) : Result :=
  .next (takeFrame n tag 0x23#8 payload (commitTable n tag payload) s)

/-- CANCEL_COMMIT's checks and acceptance (R40). -/
def cancelCommit (n : LinkId) (tag : Byte) (p : List Byte) (s : State) : State :=
  match finAt 4 p 0 with
  | none => refuse n tag .outOfRange s
  | some ch =>
    if (look s.channels ch).commit.isSome then
      respond n tag .ok [] (s.modChannel ch fun c => { c with commit := none })
    else refuse n tag .notPending s

/-- CANCEL_COMMIT (R40). -/
def execCancelCommit (n : LinkId) (tag : Byte) (payload : List Byte) (s : State) : Result :=
  .next (takeFrame n tag 0x24#8 payload (cancelCommit n tag payload) s)

/-- One staged slot takes the content of the active slot (R41). -/
def discardSlot (ch : ChanId) (s : State) (x : SlotIx) : State :=
  let t := look s.tables ch
  (adjustRefs (look t.staged.slots x) (look t.active.slots x) s).modTables ch fun t =>
    { t with staged := { t.staged with slots := put t.staged.slots x (look t.active.slots x) } }

/-- The staged bank becomes a copy of the active bank, slot by slot (R41). -/
def copyActive (ch : ChanId) (s : State) : State :=
  ((List.finRange 64).foldl (discardSlot ch) s).modTables ch fun t =>
    { t with editor := none,
             staged := { t.staged with count := t.active.count, endAction := t.active.endAction } }

/-- DISCARD_STAGED's checks and acceptance (R41). -/
def discardStaged (n : LinkId) (tag : Byte) (p : List Byte) (s : State) : State :=
  match finAt 4 p 0 with
  | none => refuse n tag .outOfRange s
  | some ch =>
    match editRefusal s ch n with
    | some status => refuse n tag status s
    | none => respond n tag .ok [] (copyActive ch s)

/-- DISCARD_STAGED (R41). -/
def execDiscardStaged (n : LinkId) (tag : Byte) (payload : List Byte) (s : State) : Result :=
  .next (takeFrame n tag 0x25#8 payload (discardStaged n tag payload) s)

/-- READ_ENTRY's check and report (R42). -/
def readEntry (n : LinkId) (tag : Byte) (p : List Byte) (s : State) : State :=
  match finAt 4 p 0, flagAt p 1, finAt 64 p 2 with
  | some ch, some staged, some x =>
    let bank := if staged then (look s.tables ch).staged else (look s.tables ch).active
    respond n tag .ok (slotRecord (look bank.slots x)) s
  | _, _, _ => refuse n tag .outOfRange s

/-- READ_ENTRY (R42). -/
def execReadEntry (n : LinkId) (tag : Byte) (payload : List Byte) (s : State) : Result :=
  .next (takeFrame n tag 0x26#8 payload (readEntry n tag payload) s)

/-- TABLE_STATUS's check and report (R43). -/
def tableStatus (n : LinkId) (tag : Byte) (p : List Byte) (s : State) : State :=
  match finAt 4 p 0 with
  | none => refuse n tag .outOfRange s
  | some ch => respond n tag .ok (tableReport (look s.tables ch) (look s.channels ch).commit) s

/-- TABLE_STATUS (R43). -/
def execTableStatus (n : LinkId) (tag : Byte) (payload : List Byte) (s : State) : Result :=
  .next (takeFrame n tag 0x27#8 payload (tableStatus n tag payload) s)

end Sys2Proof.Machine
end

