-- ==== Sys2Proof/Machine/TickOps.lean ====
section
/-! DEFINITION. One output tick (R47, R109): the sampling of the pins (R93), the evaluation and firing of the
conditions (R96 to R101, R108), the value of a tick (R75 to R79), the code handed over (R81), the marker levels
(R112 to R118), the phase advance (R74) and what follows it. The order of the parts within the tick is DEDUCED
(log entry 14). -/

namespace Sys2Proof.Machine

open Sys2Proof

/-! ### Sampling -/

/-- The pins are sampled: the oldest place becomes the level seen, the sample enters the delay line, the pass-end
pulses of the tick before are seen, and the sample clock edge of the tick is counted (R93, R94, R158). -/
def sampleInputs (levels : BitVec 8) (s : State) : State :=
  { s with
    trigger := { s.trigger with
      delay := levels :: s.trigger.delay.dropLast
      seen := s.trigger.pulses ++ s.trigger.delay.getLastD 0#8
      pulses := 0#4 }
    monitor := { s.monitor with edges := min (s.monitor.edges + 1) 65535 } }

/-! ### Conditions -/

/-- The condition matches the sources seen (R96). -/
def matchesSeen (c : Condition) (seen : BitVec 12) : Bool := (seen ^^^ c.reference) &&& c.mask == 0#12

/-- The change of match is a qualifying transition (R97). -/
def isTransition (mode : CondMode) (previous now : Bool) : Bool :=
  match mode with
  | .arrive => !previous && now
  | .depart => previous && !now

/-- A qualifying transition of the enabled condition is counted at this tick (R97, R98). -/
def countsNow (c : Condition) (seen : BitVec 12) : Bool :=
  c.enabled && c.holdoffLeft == 0 && isTransition c.mode c.previous (matchesSeen c seen)

/-- The prescale count reaches N at this tick (R99). -/
def naturalFiring (c : Condition) (seen : BitVec 12) : Bool := countsNow c seen && decide (c.prescaler ≤ c.count + 1)

/-- The software request is taken at this tick (R108). -/
def softwareFiring (c : Condition) : Bool := c.enabled && c.request

/-- The condition fires at this tick, once (R100). -/
def firesNow (c : Condition) (seen : BitVec 12) : Bool := naturalFiring c seen || softwareFiring c

/-- The condition's record after its evaluation (R97 to R100, R108); a disabled condition's holdoff runs down and
nothing else of it changes (R98, R106). -/
def evaluated (c : Condition) (seen : BitVec 12) : Condition :=
  if c.enabled then
    { c with
      previous := matchesSeen c seen
      count := if naturalFiring c seen then 0 else if countsNow c seen then c.count + 1 else c.count
      holdoffLeft := if firesNow c seen then c.holdoff else c.holdoffLeft - 1
      request := false
      firings := if firesNow c seen then c.firings + 1#32 else c.firings }
  else { c with holdoffLeft := c.holdoffLeft - 1 }

/-- One condition is evaluated, and FIREDk is set when it fires (R100, R109). -/
def evaluate (k : CondId) (s : State) : State :=
  let c := look s.trigger.conds k
  let s' := s.modCond k fun c => evaluated c s.trigger.seen
  if firesNow c s.trigger.seen then s'.raise (.fired k) else s'

/-- The conditions that fire at this tick, by the state in which they are to be evaluated. -/
def firedSet (s : State) : BitVec 4 :=
  (List.finRange 4).foldl
    (fun acc k => if firesNow (look s.trigger.conds k) s.trigger.seen then acc ||| BitVec.twoPow 4 k.val else acc) 0#4

/-! ### What the channels do before the tick's value -/

/-- A stop IMMEDIATE is carried out at the channel's first tick after it was recorded (R52). -/
def carryStop (ch : ChanId) (s : State) : State :=
  let c := look s.channels ch
  if c.mode = .running && c.stop = some .immediate then enterIdle ch s else s

/-- The jump of the channel's current entry, when the channel is RUNNING and the jump's condition fires (R61). -/
def firedJump (s : State) (fired : BitVec 4) (ch : ChanId) : Option Jump :=
  if (look s.channels ch).mode = .running then
    match (currentEntry s ch).bind (·.jump) with
    | none => none
    | some j => if fired.getLsbD j.cond.val then some j else none
  else none

/-- The target of an IMMEDIATE jump fired at this tick (R62). -/
def immediateJump (s : State) (fired : BitVec 4) (ch : ChanId) : Option SlotIx :=
  match firedJump s fired ch with
  | none => none
  | some j => if j.timing = .immediate then some j.target else none

/-- The gate of the entry the channel waits at fires (R60). -/
def gateFires (s : State) (fired : BitVec 4) (ch : ChanId) : Bool :=
  (look s.channels ch).mode = .waiting &&
    match (currentEntry s ch).bind (·.gate) with
    | none => false
    | some k => fired.getLsbD k.val

/-- The firings reach a channel (R101): its gate opens (R60) or its jump is armed (R63). -/
def takeFirings (fired : BitVec 4) (ch : ChanId) (s : State) : State :=
  if gateFires s fired ch then s.modChannel ch fun c => { c with mode := .running, phase := 0 }
  else
    match firedJump s fired ch with
    | none => s
    | some j =>
      if j.timing = .atPassEnd then s.modChannel ch fun c => { c with armed := some j.target } else s

/-! ### The value of a tick -/

/-- What a tick of a channel comes to: no sample, an own value in units of 2^-30 code (R77), or a hold. -/
inductive TickValue where
  | silent
  | computed (own : Int)
  | underrun
  | poison
  deriving DecidableEq, Repr

/-- Where the partner sample lies (R75). -/
inductive Partner where
  /-- at this position of the line that holds sample a -/
  | here (position : Nat)
  /-- first in the line at the next place of the path -/
  | nextPlace
  deriving DecidableEq, Repr

/-- The partner sample of index `i` in a segment of length `len` (R75). -/
def partnerOf (i len : Nat) (follows : Bool) : Partner :=
  if i + 1 < len then (if (i + 1) % 4 = 0 then .nextPlace else .here ((i + 1) % 4))
  else if follows then .nextPlace else .here (i % 4)

/-- LINEAR interpolation in units of 1/65,536 code (R76). -/
def interpolate (a b : Code) (fraction : Nat) : Int :=
  a.toInt * 65536 + (b.toInt - a.toInt) * ((fraction / 256 : Nat) : Int)

/-- NEAREST in units of 1/65,536 code (R76). -/
def nearestValue (a : Code) : Int := a.toInt * 65536

/-- The own value in units of 2^-30 code (R77). -/
def ownValue (v : Int) (x : Scale) : Int := v * x.gain.toInt + x.offset.toInt * 1073741824

/-- The line held at a place of the FIFO. -/
def heldAt (p : Prefetch) (place : Nat) : Option FifoLine := p.fifo.find? fun l => l.place = place

/-- The value of the channel's tick (R75 to R77, R83, R85). -/
def tickValue (s : State) (ch : ChanId) : TickValue :=
  let c := look s.channels ch
  let p := look s.prefetch ch
  match c.mode, currentEntry s ch with
  | .running, some e =>
    match heldAt p p.play with
    | none => .underrun
    | some la =>
      let i := phaseIndex c
      let a := sampleOf la.data (i % 4)
      match c.interpolation with
      | .nearest => if la.poisoned then .poison else .computed (ownValue (nearestValue a) c.scale)
      | .linear =>
        match partnerOf i (segmentLength s e.segment) (passFollows e c.passes) with
        | .here j =>
          if la.poisoned then .poison
          else .computed (ownValue (interpolate a (sampleOf la.data j) (phaseFraction c)) c.scale)
        | .nextPlace =>
          match heldAt p (p.play + 1) with
          | none => .underrun
          | some lb =>
            if la.poisoned || lb.poisoned then .poison
            else .computed (ownValue (interpolate a (sampleOf lb.data 0) (phaseFraction c)) c.scale)
  | _, _ => .silent

/-- What a channel contributes to one that names it as sum source (R78). -/
def contribution : TickValue → Int
  | .computed y => y
  | _ => 0

/-- The exact sum of the tick (R78), the values of all channels at this tick given. -/
def tickSum (values : ChanId → TickValue) (own : Int) (source : Option ChanId) : Int :=
  match source with
  | none => own
  | some m => own + contribution (values m)

/-- Rounding to the nearest integer, halves away from zero (R79). -/
def roundValue (z : Int) : Int :=
  if 0 ≤ z then (z + 536870912) / 1073741824 else -((-z + 536870912) / 1073741824)

/-- Clamping to the code range (R79). -/
def clampCode (n : Int) : Int := max (-32768) (min 32767 n)

/-! ### Handing over the code -/

/-- The code enters the port path, the oldest place is presented, and the last code is the one handed over (R47,
R81). -/
def handCode (code : Code) (c : Channel) : Channel :=
  { c with last := code, presented := c.path.getLastD 0#16, path := code :: c.path.dropLast }

/-- A clipped tick (R79). -/
def clipRecord (c : Channel) : Channel :=
  { c with clips := min (c.clips + 1) 65535, passClipped := true, clipEpisode := true }

/-- A tick held for underrun (R83). -/
def underrunRecord (c : Channel) : Channel :=
  { c with underruns := min (c.underruns + 1) 4294967295, underrunEpisode := true }

/-- A tick held for poison (R85). -/
def poisonRecord (c : Channel) : Channel := { c with substitutions := min (c.substitutions + 1) 4294967295 }

/-- A computed tick of the channel with the exact sum given (R79, R84). -/
def handComputed (ch : ChanId) (z : Int) (s : State) : State :=
  let n := roundValue z
  let code := BitVec.ofInt 16 (clampCode n)
  let s' := s.modChannel ch fun c => handCode code { c with underrunEpisode := false }
  if clampCode n = n then s'
  else
    let s'' := s'.modChannel ch clipRecord
    if (look s.channels ch).clipEpisode then s'' else s''.raise (.clipBegan ch)

/-- The code a channel hands over at the tick (R47, R81), the values of all channels given. -/
def handOver (values : ChanId → TickValue) (ch : ChanId) (s : State) : State :=
  let c := look s.channels ch
  match c.mode with
  | .idle => s.modChannel ch fun c => handCode c.park c
  | .halted => s.modChannel ch fun c => handCode c.park c
  | .waiting =>
    match (currentEntry s ch).map Entry.waitLevel with
    | some WaitLevel.park => s.modChannel ch fun c => handCode c.park c
    | _ => s.modChannel ch fun c => handCode c.last c
  | .running =>
    match values ch with
    | .computed own => handComputed ch (tickSum values own c.sumSource) s
    | .underrun =>
      let s' := s.modChannel ch fun c => underrunRecord (handCode c.last c)
      if c.underrunEpisode then s' else s'.raise (.underrunBegan ch)
    | .poison => s.modChannel ch fun c => poisonRecord (handCode c.last c)
    | .silent => s.modChannel ch fun c => handCode c.last c

/-! ### Markers -/

/-- A RUNNING tick sets the channel's played pattern to the current entry's marker bits (R115). -/
def showPattern (ch : ChanId) (s : State) : State :=
  if (look s.channels ch).mode = .running then
    match currentEntry s ch with
    | none => s
    | some e => s.setPattern ch e.markers
  else s

/-- Pulse remaining after any firing at the tick (R118). -/
def pulseNow (fired : BitVec 4) (m : MarkerPin) : Nat :=
  match m.source with
  | .firePulse k width => if fired.getLsbD k.val then width else m.pulse
  | _ => m.pulse

/-- The level a pin computes for the tick (R114 to R118). -/
def markerLevel (s : State) (fired : BitVec 4) (m : MarkerPin) : Bool :=
  match m.source with
  | .static level => level
  | .entryBit ch bit =>
    match (look s.channels ch).mode with
    | .running => (look s.patterns ch).getLsbD bit.val
    | .waiting => (look s.patterns ch).getLsbD bit.val
    | .idle => false
    | .halted => false
  | .passToggle _ _ => m.toggle
  | .firePulse _ _ => decide (0 < pulseNow fired m)
  | .running ch => decide ((look s.channels ch).mode = .running)

/-- The level enters the pin's marker path and the pin presents the oldest place (R112); a pulse runs on (R118). -/
def markerRecord (level : Bool) (fired : BitVec 4) (m : MarkerPin) : MarkerPin :=
  { m with
    pulse := (match m.source with
      | .firePulse _ _ => pulseNow fired m - 1
      | _ => m.pulse)
    presented := m.path.getLastD false
    path := level :: m.path.dropLast
    computed := level }

/-- One marker pin's part of the tick (R112). -/
def markerTick (fired : BitVec 4) (i : PinId) (s : State) : State :=
  s.modPin i (markerRecord (markerLevel s fired (look s.pins i)) fired)

/-! ### The advance -/

/-- The phase advance of a RUNNING channel (R74), its pass end (R53) or its IMMEDIATE jump (R62). -/
def advance (jumps : ChanId → Option SlotIx) (ch : ChanId) (s : State) : State :=
  let c := look s.channels ch
  if c.mode = .running then
    let whole := entryLength s (currentEntry s ch) * Config.oneSample
    let phase := c.phase + c.currentStep
    if whole ≤ phase then passEnds ch (phase - whole) (jumps ch) s
    else
      let s := s.modChannel ch fun c => { c with phase := phase }
      let s := if phaseLine c.phase = phaseLine phase then s else movePlay ch s
      match jumps ch with
      | none => s
      | some target => entryEnd ch phase (some target) s
  else s

/-! ### The tick -/

/-- The tick up to the firings: the pins sampled and the stops IMMEDIATE carried out. -/
def tickOpening (levels : BitVec 8) (s : State) : State := eachChannel carryStop (sampleInputs levels s)

/-- The tick from the firings on: conditions, gates and armed jumps. -/
def tickFirings (s : State) : State := eachChannel (takeFirings (firedSet s)) (eachCond evaluate s)

/-- One output tick (R47, R109). -/
def tick (levels : BitVec 8) (s : State) : State :=
  let opened := tickOpening levels s
  let fired := firedSet opened
  let jumps := immediateJump opened fired
  let ready := tickFirings opened
  let values := tickValue ready
  let handed := eachChannel showPattern (eachChannel (handOver values) ready)
  let marked := eachPin (markerTick fired) handed
  eachChannel presentPrefetch (eachChannel (advance jumps) marked)

end Sys2Proof.Machine
end

