-- ==== Sys2Proof/Machine/TickEvents.lean ====
section
/-! DEFINITION. The meanings of the output tick and of the four events that come about within one: a condition's
firing, the end of a holdoff, a pass end and the end of a marker pulse. Each of the four is the output tick at
which the event comes about; a tick at which it does not is no such event, and the state stays (log entries 4
and 5). -/

namespace Sys2Proof.Machine

open Sys2Proof

/-- OUTPUT_TICK (R47, R109). -/
def execOutputTick (levels : BitVec 8) (s : State) : Result := .next (tick levels s)

/-- The condition fires at the tick with these levels (R100). -/
def firesAt (s : State) (levels : BitVec 8) (k : CondId) : Bool :=
  firesNow (look s.trigger.conds k) (sampleInputs levels s).trigger.seen

/-- CONDITION_FIRING (R100). -/
def execConditionFiring (k : CondId) (levels : BitVec 8) (s : State) : Result :=
  .next (if firesAt s levels k then tick levels s else s)

/-- Holdoff remaining reaches 0 at the tick by its own running down (R98). -/
def holdoffEnds (s : State) (levels : BitVec 8) (k : CondId) : Bool :=
  (look s.trigger.conds k).holdoffLeft == 1 && !firesAt s levels k

/-- HOLDOFF_EXPIRY (R98). -/
def execHoldoffExpiry (k : CondId) (levels : BitVec 8) (s : State) : Result :=
  .next (if holdoffEnds s levels k then tick levels s else s)

/-- PASS_END (R53): the pass-end pulse of the channel is emitted at the tick. -/
def execPassEnd (ch : ChanId) (levels : BitVec 8) (s : State) : Result :=
  .next (if (tick levels s).trigger.pulses.getLsbD ch.val then tick levels s else s)

/-- Pulse remaining of a FIRE_PULSE pin goes from 1 to 0 at the tick (R118). -/
def pulseEnds (s : State) (levels : BitVec 8) (i : PinId) : Bool :=
  match (look s.pins i).source with
  | .firePulse k width => (if firesAt s levels k then width else (look s.pins i).pulse) == 1
  | _ => false

/-- MARKER_PULSE_END (R118). -/
def execMarkerPulseEnd (i : PinId) (levels : BitVec 8) (s : State) : Result :=
  .next (if pulseEnds s levels i then tick levels s else s)

end Sys2Proof.Machine
end

