-- ==== Sys2Proof/Machine/Triggers.lean ====
section
/-! DEFINITION. The meanings of the trigger conditions' commands (chapter 5) and of the marker pins' (chapter 6). -/

namespace Sys2Proof.Machine

open Sys2Proof

/-- SET_CONDITION's checks and acceptance (R103): the settings are written and the prescale count is 0. -/
def setCondition (n : LinkId) (tag : Byte) (p : List Byte) (s : State) : State :=
  let mask := fieldAt p 1 2
  let reference := fieldAt p 3 2
  let prescaler := fieldAt p 6 2
  match finAt 4 p 0, flagAt p 5 with
  | some k, some arrive =>
    if 4095 < mask || 4095 < reference || 256 < prescaler then refuse n tag .outOfRange s
    else
      respond n tag .ok [] (s.modCond k fun c =>
        { c with mask := BitVec.ofNat 12 mask, reference := BitVec.ofNat 12 reference,
                 mode := if arrive then .arrive else .depart, prescaler := max 1 prescaler,
                 holdoff := fieldAt p 8 2, count := 0 })
  | _, _ => refuse n tag .outOfRange s

/-- SET_CONDITION (R103, R104). -/
def execSetCondition (n : LinkId) (tag : Byte) (payload : List Byte) (s : State) : Result :=
  .next (takeFrame n tag 0x40#8 payload (setCondition n tag payload) s)

/-- A condition is enabled (R105) or disabled (R106). -/
def enableRecord (enable : Bool) (seen : BitVec 12) (c : Condition) : Condition :=
  match enable, c.enabled with
  | true, false => { c with enabled := true, previous := matchesSeen c seen }
  | false, true => { c with enabled := false, count := 0, request := false }
  | _, _ => c

/-- SET_CONDITION_ENABLE's check and acceptance (R105, R106). -/
def setConditionEnable (n : LinkId) (tag : Byte) (p : List Byte) (s : State) : State :=
  match finAt 4 p 0, flagAt p 1 with
  | some k, some enable => respond n tag .ok [] (s.modCond k (enableRecord enable s.trigger.seen))
  | _, _ => refuse n tag .outOfRange s

/-- SET_CONDITION_ENABLE (R105, R106). -/
def execSetConditionEnable (n : LinkId) (tag : Byte) (payload : List Byte) (s : State) : Result :=
  .next (takeFrame n tag 0x41#8 payload (setConditionEnable n tag payload) s)

/-- FIRE_CONDITION's checks and acceptance (R107). -/
def fireCondition (n : LinkId) (tag : Byte) (p : List Byte) (s : State) : State :=
  match finAt 4 p 0 with
  | none => refuse n tag .outOfRange s
  | some k =>
    if (look s.trigger.conds k).enabled then
      respond n tag .ok [] (s.modCond k fun c => { c with request := true })
    else refuse n tag .wrongState s

/-- FIRE_CONDITION (R107). -/
def execFireCondition (n : LinkId) (tag : Byte) (payload : List Byte) (s : State) : Result :=
  .next (takeFrame n tag 0x42#8 payload (fireCondition n tag payload) s)

/-- CONDITION_STATUS's check, report and clear (R110). -/
def conditionStatus (n : LinkId) (tag : Byte) (p : List Byte) (s : State) : State :=
  match finAt 4 p 0, flagAt p 1 with
  | some k, some clear =>
    respond n tag .ok (conditionReport (look s.trigger.conds k) s.trigger.seen)
      (if clear then s.modCond k fun c => { c with firings := 0#32 } else s)
  | _, _ => refuse n tag .outOfRange s

/-- CONDITION_STATUS (R110). -/
def execConditionStatus (n : LinkId) (tag : Byte) (payload : List Byte) (s : State) : Result :=
  .next (takeFrame n tag 0x43#8 payload (conditionStatus n tag payload) s)

/-- The toggle state a pin starts a source with (R113). -/
def initialToggle : MarkerSource → Bool
  | .passToggle _ initial => initial
  | _ => false

/-- SET_MARKER's check and acceptance (R113): the source, its own initial state, the path left as it is. -/
def setMarker (n : LinkId) (tag : Byte) (p : List Byte) (s : State) : State :=
  match finAt 8 p 0, markerSourceAt p 1 with
  | some i, some source =>
    respond n tag .ok [] (s.modPin i fun m => { m with source := source, toggle := initialToggle source, pulse := 0 })
  | _, _ => refuse n tag .outOfRange s

/-- SET_MARKER (R113). -/
def execSetMarker (n : LinkId) (tag : Byte) (payload : List Byte) (s : State) : Result :=
  .next (takeFrame n tag 0x48#8 payload (setMarker n tag payload) s)

/-- MARKER_STATUS (R120). -/
def execMarkerStatus (n : LinkId) (tag : Byte) (payload : List Byte) (s : State) : Result :=
  .next (takeFrame n tag 0x49#8 payload (fun s => respond n tag .ok (markerReport s.pins s.patterns) s) s)

end Sys2Proof.Machine
end

