-- ==== Sys2Proof/Machine/Dispatch.lean ====
section
/-! DEFINITION. One arm for each command of the table, each a direct call of its meaning. -/

namespace Sys2Proof.Machine

open Sys2Proof

/-- The effect of a command on everything but the queue. -/
def exec (i : Instr) (s : State) : Host.Outcome State Fault Refusal :=
  match i with
  | .powerOnReset selected => Sys2Proof.Machine.execPowerOnReset selected s
  | .linkReset n => Sys2Proof.Machine.execLinkReset n s
  | .linkResetRelease n selected => Sys2Proof.Machine.execLinkResetRelease n selected s
  | .frameError n bytes => Sys2Proof.Machine.execFrameError n bytes s
  | .commandDropped n tag code payload => Sys2Proof.Machine.execCommandDropped n tag code payload s
  | .unknownCommand n tag code payload => Sys2Proof.Machine.execUnknownCommand n tag code payload s
  | .responseFetch n count => Sys2Proof.Machine.execResponseFetch n count s
  | .identify n tag payload => Sys2Proof.Machine.execIdentify n tag payload s
  | .createSegment n tag payload => Sys2Proof.Machine.execCreateSegment n tag payload s
  | .writeSamples n tag payload => Sys2Proof.Machine.execWriteSamples n tag payload s
  | .finishSegment n tag payload => Sys2Proof.Machine.execFinishSegment n tag payload s
  | .abandonSegment n tag payload => Sys2Proof.Machine.execAbandonSegment n tag payload s
  | .deleteSegment n tag payload => Sys2Proof.Machine.execDeleteSegment n tag payload s
  | .readSamples n tag payload => Sys2Proof.Machine.execReadSamples n tag payload s
  | .querySegment n tag payload => Sys2Proof.Machine.execQuerySegment n tag payload s
  | .findTag n tag payload => Sys2Proof.Machine.execFindTag n tag payload s
  | .libraryStatus n tag payload => Sys2Proof.Machine.execLibraryStatus n tag payload s
  | .writeEntry n tag payload => Sys2Proof.Machine.execWriteEntry n tag payload s
  | .clearEntry n tag payload => Sys2Proof.Machine.execClearEntry n tag payload s
  | .setTableEnd n tag payload => Sys2Proof.Machine.execSetTableEnd n tag payload s
  | .commitTable n tag payload => Sys2Proof.Machine.execCommitTable n tag payload s
  | .cancelCommit n tag payload => Sys2Proof.Machine.execCancelCommit n tag payload s
  | .discardStaged n tag payload => Sys2Proof.Machine.execDiscardStaged n tag payload s
  | .readEntry n tag payload => Sys2Proof.Machine.execReadEntry n tag payload s
  | .tableStatus n tag payload => Sys2Proof.Machine.execTableStatus n tag payload s
  | .start n tag payload => Sys2Proof.Machine.execStart n tag payload s
  | .stop n tag payload => Sys2Proof.Machine.execStop n tag payload s
  | .channelStatus n tag payload => Sys2Proof.Machine.execChannelStatus n tag payload s
  | .setScale n tag payload => Sys2Proof.Machine.execSetScale n tag payload s
  | .setRate n tag payload => Sys2Proof.Machine.execSetRate n tag payload s
  | .setChannelConfig n tag payload => Sys2Proof.Machine.execSetChannelConfig n tag payload s
  | .channelSettings n tag payload => Sys2Proof.Machine.execChannelSettings n tag payload s
  | .setCondition n tag payload => Sys2Proof.Machine.execSetCondition n tag payload s
  | .setConditionEnable n tag payload => Sys2Proof.Machine.execSetConditionEnable n tag payload s
  | .fireCondition n tag payload => Sys2Proof.Machine.execFireCondition n tag payload s
  | .conditionStatus n tag payload => Sys2Proof.Machine.execConditionStatus n tag payload s
  | .setMarker n tag payload => Sys2Proof.Machine.execSetMarker n tag payload s
  | .markerStatus n tag payload => Sys2Proof.Machine.execMarkerStatus n tag payload s
  | .setScrub n tag payload => Sys2Proof.Machine.execSetScrub n tag payload s
  | .errorLogRead n tag payload => Sys2Proof.Machine.execErrorLogRead n tag payload s
  | .errorLogClear n tag payload => Sys2Proof.Machine.execErrorLogClear n tag payload s
  | .setClockWindow n tag payload => Sys2Proof.Machine.execSetClockWindow n tag payload s
  | .clockStatus n tag payload => Sys2Proof.Machine.execClockStatus n tag payload s
  | .readEvents n tag payload => Sys2Proof.Machine.execReadEvents n tag payload s
  | .ackEvents n tag payload => Sys2Proof.Machine.execAckEvents n tag payload s
  | .setEventMask n tag payload => Sys2Proof.Machine.execSetEventMask n tag payload s
  | .outputTick levels => Sys2Proof.Machine.execOutputTick levels s
  | .conditionFiring k levels => Sys2Proof.Machine.execConditionFiring k levels s
  | .holdoffExpiry k levels => Sys2Proof.Machine.execHoldoffExpiry k levels s
  | .passEnd ch levels => Sys2Proof.Machine.execPassEnd ch levels s
  | .markerPulseEnd pin levels => Sys2Proof.Machine.execMarkerPulseEnd pin levels s
  | .measurementGateEnd => Sys2Proof.Machine.execMeasurementGateEnd s
  | .scrubExpiry => Sys2Proof.Machine.execScrubExpiry s
  | .storeGrant => Sys2Proof.Machine.execStoreGrant s
  | .zeroFillWriteEnd => Sys2Proof.Machine.execZeroFillWriteEnd s
  | .writeSamplesTransferEnd upset => Sys2Proof.Machine.execWriteSamplesTransferEnd upset s
  | .readSamplesLineEnd upset => Sys2Proof.Machine.execReadSamplesLineEnd upset s
  | .prefetchReadEnd upset => Sys2Proof.Machine.execPrefetchReadEnd upset s
  | .scrubReadEnd upset => Sys2Proof.Machine.execScrubReadEnd upset s
  | .markWriteEnd => Sys2Proof.Machine.execMarkWriteEnd s
  | .writeBackEnd => Sys2Proof.Machine.execWriteBackEnd s

end Sys2Proof.Machine
end

