-- ==== Sys2Proof/WellFormed.lean ====
section
/-! DEFINITION. Which terms of `Instr` are the event their row names: the checks on a command's own operands that
do not depend on the state. -/

namespace Sys2Proof

/-- A command frame's payload fits the receive buffer, so that the frame passes the framing checks (R167). -/
def payloadFits (payload : List Byte) : Bool := payload.length ≤ Config.receiveBuffer

/-- The operands are ones the row's event can have. -/
def Instr.wf : Instr → Bool
  | .powerOnReset _ => true
  | .linkReset _ => true
  | .linkResetRelease _ _ => true
  | .frameError _ bytes => frameFails bytes || bytes.isEmpty
  | .commandDropped _ _ _ payload => payloadFits payload
  | .unknownCommand _ _ code payload => !namesCommand code && payloadFits payload
  | .responseFetch _ count => 1 ≤ count
  | .identify _ _ p => payloadFits p
  | .createSegment _ _ p => payloadFits p
  | .writeSamples _ _ p => payloadFits p
  | .finishSegment _ _ p => payloadFits p
  | .abandonSegment _ _ p => payloadFits p
  | .deleteSegment _ _ p => payloadFits p
  | .readSamples _ _ p => payloadFits p
  | .querySegment _ _ p => payloadFits p
  | .findTag _ _ p => payloadFits p
  | .libraryStatus _ _ p => payloadFits p
  | .writeEntry _ _ p => payloadFits p
  | .clearEntry _ _ p => payloadFits p
  | .setTableEnd _ _ p => payloadFits p
  | .commitTable _ _ p => payloadFits p
  | .cancelCommit _ _ p => payloadFits p
  | .discardStaged _ _ p => payloadFits p
  | .readEntry _ _ p => payloadFits p
  | .tableStatus _ _ p => payloadFits p
  | .start _ _ p => payloadFits p
  | .stop _ _ p => payloadFits p
  | .channelStatus _ _ p => payloadFits p
  | .setScale _ _ p => payloadFits p
  | .setRate _ _ p => payloadFits p
  | .setChannelConfig _ _ p => payloadFits p
  | .channelSettings _ _ p => payloadFits p
  | .setCondition _ _ p => payloadFits p
  | .setConditionEnable _ _ p => payloadFits p
  | .fireCondition _ _ p => payloadFits p
  | .conditionStatus _ _ p => payloadFits p
  | .setMarker _ _ p => payloadFits p
  | .markerStatus _ _ p => payloadFits p
  | .setScrub _ _ p => payloadFits p
  | .errorLogRead _ _ p => payloadFits p
  | .errorLogClear _ _ p => payloadFits p
  | .setClockWindow _ _ p => payloadFits p
  | .clockStatus _ _ p => payloadFits p
  | .readEvents _ _ p => payloadFits p
  | .ackEvents _ _ p => payloadFits p
  | .setEventMask _ _ p => payloadFits p
  | .outputTick _ => true
  | .conditionFiring _ _ => true
  | .holdoffExpiry _ _ => true
  | .passEnd _ _ => true
  | .markerPulseEnd _ _ => true
  | .measurementGateEnd => true
  | .scrubExpiry => true
  | .storeGrant => true
  | .zeroFillWriteEnd => true
  | .writeSamplesTransferEnd _ => true
  | .readSamplesLineEnd _ => true
  | .prefetchReadEnd _ => true
  | .scrubReadEnd _ => true
  | .markWriteEnd => true
  | .writeBackEnd => true

end Sys2Proof
end

