-- ==== Sys2Proof/Safety.lean ====
section
/-! DEFINITION. The terms claims use: when a link takes a frame, how a record looks once a command is answered, what
a command is addressed to, and the laws of the device (R4, R28, R29, R46, R53, R123, R128, R142, R145, R153). -/

namespace Sys2Proof.Machine

open Sys2Proof

/-! ### Links and answers -/

/-- The link hears a transfer: LRSTn is not held and no transfer is to be ignored (R176, R177). -/
abbrev Hears (s : State) (n : LinkId) : Prop := (look s.links n).inReset = false ∧ (look s.links n).ignoring = false

/-- The link hears and is FREE, so it takes a command frame (R168). -/
abbrev Takes (s : State) (n : LinkId) : Prop := Hears s n ∧ (look s.links n).phase = .free

/-- Link `n` has heard `bytes` complete bytes that are no fetch and been flagged at position `p` of its own set. -/
def heardAndFlagged (n : LinkId) (bytes p : Nat) (links : Vector Link 2) : Vector Link 2 :=
  put links n { look links n with
    sdo := List.replicate bytes 0#8
    flags := (look links n).flags ||| BitVec.twoPow 41 p }

/-- Link `n` has taken a command frame of `len` payload bytes and holds the response to it, RESPONSE_READY (position
38) set in its own set (R165, R166). -/
def answered (n : LinkId) (len : Nat) (tag : Byte) (status : Status) (payload : List Byte) (links : Vector Link 2) :
    Vector Link 2 :=
  put links n { look links n with
    sdo := List.replicate (5 + len) 0#8
    flags := (look links n).flags ||| BitVec.twoPow 41 38
    phase := .holding ⟨tag, status, payload⟩ }

/-- Link `n` has taken a command frame of `len` payload bytes and executes the long command (R170). -/
def nowExecuting (n : LinkId) (len : Nat) (tag : Byte) (work : LongWork) (request : Option LinkXfer)
    (links : Vector Link 2) : Vector Link 2 :=
  put links n { look links n with
    sdo := List.replicate (5 + len) 0#8
    phase := .executing tag work
    request := request }

/-- Both links' flag sets with the flag of one event set (R181). -/
def inBothSets (f : EventFlag) (links : Vector Link 2) : Vector Link 2 :=
  links.map fun l => { l with flags := l.flags ||| BitVec.twoPow 41 (flagPos f) }

/-! ### The commands of the table -/

end Sys2Proof.Machine

namespace Sys2Proof

/-- The link a command frame arrives on, its tag, code and payload (spec 10 section 10.7.2). -/
def Instr.frame : Instr → Option (LinkId × Byte × Byte × List Byte)
  | .identify n t p => some (n, t, 0x01#8, p)
  | .createSegment n t p => some (n, t, 0x10#8, p)
  | .writeSamples n t p => some (n, t, 0x11#8, p)
  | .finishSegment n t p => some (n, t, 0x12#8, p)
  | .abandonSegment n t p => some (n, t, 0x13#8, p)
  | .deleteSegment n t p => some (n, t, 0x14#8, p)
  | .readSamples n t p => some (n, t, 0x15#8, p)
  | .querySegment n t p => some (n, t, 0x16#8, p)
  | .findTag n t p => some (n, t, 0x17#8, p)
  | .libraryStatus n t p => some (n, t, 0x18#8, p)
  | .writeEntry n t p => some (n, t, 0x20#8, p)
  | .clearEntry n t p => some (n, t, 0x21#8, p)
  | .setTableEnd n t p => some (n, t, 0x22#8, p)
  | .commitTable n t p => some (n, t, 0x23#8, p)
  | .cancelCommit n t p => some (n, t, 0x24#8, p)
  | .discardStaged n t p => some (n, t, 0x25#8, p)
  | .readEntry n t p => some (n, t, 0x26#8, p)
  | .tableStatus n t p => some (n, t, 0x27#8, p)
  | .start n t p => some (n, t, 0x30#8, p)
  | .stop n t p => some (n, t, 0x31#8, p)
  | .channelStatus n t p => some (n, t, 0x32#8, p)
  | .setScale n t p => some (n, t, 0x33#8, p)
  | .setRate n t p => some (n, t, 0x34#8, p)
  | .setChannelConfig n t p => some (n, t, 0x35#8, p)
  | .channelSettings n t p => some (n, t, 0x36#8, p)
  | .setCondition n t p => some (n, t, 0x40#8, p)
  | .setConditionEnable n t p => some (n, t, 0x41#8, p)
  | .fireCondition n t p => some (n, t, 0x42#8, p)
  | .conditionStatus n t p => some (n, t, 0x43#8, p)
  | .setMarker n t p => some (n, t, 0x48#8, p)
  | .markerStatus n t p => some (n, t, 0x49#8, p)
  | .setScrub n t p => some (n, t, 0x50#8, p)
  | .errorLogRead n t p => some (n, t, 0x51#8, p)
  | .errorLogClear n t p => some (n, t, 0x52#8, p)
  | .setClockWindow n t p => some (n, t, 0x58#8, p)
  | .clockStatus n t p => some (n, t, 0x59#8, p)
  | .readEvents n t p => some (n, t, 0x60#8, p)
  | .ackEvents n t p => some (n, t, 0x61#8, p)
  | .setEventMask n t p => some (n, t, 0x62#8, p)
  | .unknownCommand n t code p => some (n, t, code, p)
  | .powerOnReset _ => none
  | .linkReset _ => none
  | .linkResetRelease _ _ => none
  | .frameError _ _ => none
  | .commandDropped _ _ _ _ => none
  | .responseFetch _ _ => none
  | .outputTick _ => none
  | .conditionFiring _ _ => none
  | .holdoffExpiry _ _ => none
  | .passEnd _ _ => none
  | .markerPulseEnd _ _ => none
  | .measurementGateEnd => none
  | .scrubExpiry => none
  | .storeGrant => none
  | .zeroFillWriteEnd => none
  | .writeSamplesTransferEnd _ => none
  | .readSamplesLineEnd _ => none
  | .prefetchReadEnd _ => none
  | .scrubReadEnd _ => none
  | .markWriteEnd => none
  | .writeBackEnd => none

/-- The command ends a transfer of the store port. -/
def Instr.endsTransfer : Instr → Bool
  | .zeroFillWriteEnd => true
  | .writeSamplesTransferEnd _ => true
  | .readSamplesLineEnd _ => true
  | .prefetchReadEnd _ => true
  | .scrubReadEnd _ => true
  | .markWriteEnd => true
  | .writeBackEnd => true
  | _ => false

end Sys2Proof

namespace Sys2Proof.Machine

open Sys2Proof

/-- The store line of a transfer. -/
def Transfer.addr : Transfer → Nat
  | .prefetch _ r _ => r.addr
  | .link _ (.zeroWrite a) _ => a
  | .link _ (.lineWrite a _) _ => a
  | .link _ (.mergeRead a) _ => a
  | .link _ (.sampleRead a) _ => a
  | .scrub a => a
  | .mark r => r.addr
  | .writeBack r => r.addr

/-- The transfer on the port, if there is one, is of a line of the store. -/
abbrev PortInStore (s : State) : Prop := ∀ x ∈ s.arbiter.port, x.addr < 262144

/-! ### The integrity unit's part of an event -/

/-- The segment a write-side request concerns. -/
def WriteRequest.segment : WriteRequest → SegId
  | .mark r => r.segment
  | .writeBack r => r.segment

/-- A write of the integrity unit is on the port. -/
def writeInTransfer : Option Transfer → Bool
  | some (.mark _) => true
  | some (.writeBack _) => true
  | _ => false

/-- What the write side presents when it has no request: the oldest pending mark, or with none the oldest write-back
(R143). -/
def nextWrite : List MarkRecord → List WriteBack → Option WriteRequest
  | r :: _, _ => some (.mark r)
  | [], r :: _ => some (.writeBack r)
  | [], [] => none

/-- The write side's request after an event that leaves these lists and this transfer on the port: the one held
before, unless the event withdraws it, and otherwise the next, one at a time (R123, R143, R144, R147). -/
def writeSideAfter (withdrawn : WriteRequest → Bool) (marks : List MarkRecord) (writeBacks : List WriteBack)
    (port : Option Transfer) (held : Option WriteRequest) : Option WriteRequest :=
  match held.filter fun r => !withdrawn r with
  | some r => some r
  | none => if writeInTransfer port then none else nextWrite marks writeBacks

/-- No event withdraws a request. -/
def keepsAll (_ : WriteRequest) : Bool := false

/-- The flags CORRECTED (position 32) and UNCORRECTABLE (33) of both sets after an event that sets these. -/
def ErrorFlags (corrected uncorrectable : Bool) (s t : State) : Prop :=
  ∀ n : LinkId,
    (look t.links n).flags.getLsbD 32 = ((look s.links n).flags.getLsbD 32 || corrected) ∧
    (look t.links n).flags.getLsbD 33 = ((look s.links n).flags.getLsbD 33 || uncorrectable)

/-- What the end of a read of line `a` does beyond its delivery, one column of R140's table (R141, R142, R145, R147,
R153): `s` is the state the upset has left, `t` the next. A marked or clean line, and one of no segment or of one
being zero-filled, has nothing done. A single-bit error is logged with its source and its write-back offered; a
double-bit one is logged and its line marked. A merge read offers and marks nothing. -/
def ReadActed (source : ErrorSource) (merge : Bool) (a : Nat) (s t : State) : Prop :=
  let concerns := fun id : SegId => ownerOf s a = some id ∧ (look s.slots id).filling = false
  ((∀ id, ¬ concerns id) ∨ classify s a = .marked ∨ classify s a = .checked .clean →
    t.log = s.log ∧ t.marks = s.marks ∧ t.slots = s.slots ∧ t.writeBacks = s.writeBacks ∧ ErrorFlags false false s t ∧
    t.writeSide = writeSideAfter keepsAll s.marks s.writeBacks none s.writeSide) ∧
  (∀ (id : SegId) (p : Fin 72), concerns id → classify s a = .checked (.single p) →
    t.log = countError .correctable (logRecord ⟨.correctable, source, a, id, some p⟩ s.log) ∧
    t.marks = s.marks ∧ t.slots = s.slots ∧
    t.writeBacks = (if merge = true ∨ isReady (look s.slots id) = false ∨ (∃ r ∈ s.writeBacks, r.addr = a) ∨
        8 ≤ s.writeBacks.length then s.writeBacks
      else s.writeBacks ++ [⟨a, id, (readDelivery s a).data⟩]) ∧
    ErrorFlags true false s t ∧
    t.writeSide = writeSideAfter keepsAll s.marks t.writeBacks none s.writeSide) ∧
  (∀ id : SegId, concerns id → classify s a = .checked .double →
    t.log = countError .uncorrectable (logRecord ⟨.uncorrectable, source, a, id, none⟩ s.log) ∧
    ErrorFlags false true s t ∧
    (merge = true ∨ 4 ≤ s.marks.length →
      t.marks = s.marks ∧ t.slots = s.slots ∧ t.writeBacks = s.writeBacks ∧
      t.writeSide = writeSideAfter keepsAll s.marks s.writeBacks none s.writeSide) ∧
    (merge = false → s.marks.length < 4 →
      t.marks = s.marks ++ [⟨a, id⟩] ∧
      t.slots = put s.slots id { look s.slots id with poisoned := min ((look s.slots id).poisoned + 1) 16384 } ∧
      t.writeBacks = s.writeBacks.filter (fun r => r.addr ≠ a) ∧
      t.writeSide = writeSideAfter (isWriteBackOf a) t.marks t.writeBacks none s.writeSide))

/-! ### A channel's tick and its path -/

/-- The value of the channel's tick (R47, R52, R60): that of its place where it is RUNNING with no stop IMMEDIATE to
carry out, that of its entry's phase 0.0 where it is WAITING and its gate fires, and none otherwise. -/
def played (s : State) (levels : BitVec 8) (ch : ChanId) : TickValue :=
  let c := look s.channels ch
  if c.mode = .running ∧ c.stop ≠ some .immediate then tickValue s ch
  else if c.mode = .waiting ∧ ((currentEntry s ch).bind Entry.gate).any (firesAt s levels) then
    tickValue (s.modChannel ch fun c => { c with mode := .running, phase := 0 }) ch
  else .silent

/-- The last place of the predicted path under a pending stop (R130), for entry `e` of `lines` lines at its line
`line`, so many passes done and the play position at `play`. -/
def lastPlace (stop : StopMode) (e : Entry) (lines line passes play : Nat) : Nat :=
  match stop with
  | .immediate => play
  | .atPassEnd => play + (lines - 1 - line) + (if passFollows e passes then 1 else 0)
  | .atEntryEnd =>
    play + (lines - 1 - line) + (if e.repeats = 0 then 1 else (e.repeats - passes - 1) * lines)

/-- A place lies beyond the path of the channel with this pending stop (R130). -/
def BeyondPath (s : State) (ch : ChanId) (stop : Option StopMode) (place : Nat) : Prop :=
  let c := look s.channels ch
  ∃ mode ∈ stop, ∃ e ∈ currentEntry s ch,
    lastPlace mode e ((segmentLength s e.segment + 3) / 4) (c.phase / 16777216 / 4) c.passes
      (look s.prefetch ch).play < place

/-- The place after a place of the path, in an entry with a segment of `length` samples (R129). -/
def PlaceAfter (b : Bank) (e : Entry) (length : Nat) (pos : PathPos) (next : Option PathPos) : Prop :=
  (pos.line + 1 < (length + 3) / 4 → next = some ⟨pos.place + 1, pos.entry, pos.pass, pos.line + 1⟩) ∧
  ((length + 3) / 4 ≤ pos.line + 1 →
    (e.repeats = 0 ∨ pos.pass + 1 < e.repeats → next = some ⟨pos.place + 1, pos.entry, pos.pass + 1, 0⟩) ∧
    (e.repeats ≠ 0 → e.repeats ≤ pos.pass + 1 →
      (∀ x : SlotIx, x.val = pos.entry.val + 1 → x.val < b.count → next = some ⟨pos.place + 1, x, 0, 0⟩) ∧
      (b.count ≤ pos.entry.val + 1 →
        (∀ x, b.endAction = .loop x → next = some ⟨pos.place + 1, x, 0, 0⟩) ∧
        (b.endAction = .stop → next = none))))

/-- The pending scale and the pending rate of the first record are applied and removed in the second (R53, R58,
R88). -/
def UpdatesApplied (c d : Channel) : Prop :=
  d.scale = c.pendingScale.getD c.scale ∧ d.pendingScale = none ∧
    d.defaultStep = c.pendingRate.getD c.defaultStep ∧ d.pendingRate = none

/-- Scale, default step and what is pending of them are as they were (R88). -/
def UpdatesKept (c d : Channel) : Prop :=
  d.scale = c.scale ∧ d.pendingScale = c.pendingScale ∧ d.defaultStep = c.defaultStep ∧ d.pendingRate = c.pendingRate

/-- The channel's flags that an outcome of a tick sets, in both links' sets (R37, R48, R58, R180), `s` before the tick
and `t` after it: ENDED where the channel is IDLE after it, WAIT_BEGAN where it is WAITING, COMMIT_TAKEN where its
banks have been swapped, and none of them otherwise. For a channel that was RUNNING, or whose gate has opened. -/
def OutcomeFlags (ch : ChanId) (s t : State) : Prop :=
  ∀ n : LinkId,
    (look t.links n).flags.getLsbD (7 * ch.val + 1) =
      ((look s.links n).flags.getLsbD (7 * ch.val + 1) || decide ((look t.channels ch).mode = .idle)) ∧
    (look t.links n).flags.getLsbD (7 * ch.val + 2) =
      ((look s.links n).flags.getLsbD (7 * ch.val + 2) || decide ((look t.channels ch).mode = .waiting)) ∧
    (look t.links n).flags.getLsbD (7 * ch.val + 3) =
      ((look s.links n).flags.getLsbD (7 * ch.val + 3) || decide (look t.tables ch ≠ look s.tables ch))

/-- The channel's seven flags are as they were in both links' sets. -/
def FlagsKept (ch : ChanId) (s t : State) : Prop :=
  ∀ (n : LinkId) (k : Fin 7),
    (look t.links n).flags.getLsbD (7 * ch.val + k.val) = (look s.links n).flags.getLsbD (7 * ch.val + k.val)

/-! ### The laws of the device -/

/-- The channel has begun entry `x` at phase `p` (R48): RUNNING there, or WAITING with the phase dropped where the
entry `e` that stands in the slot has a gate, with the entry's step override or else the default step (R73). -/
def Begun (c : Channel) (e : Option Entry) (x : SlotIx) (p : Nat) : Prop :=
  c.entry = x ∧ c.passes = 0 ∧ c.armed = none ∧ c.passClipped = false ∧
    c.currentStep = (e.bind Entry.step).getD c.defaultStep ∧
    if (e.bind Entry.gate).isSome then c.mode = .waiting ∧ c.phase = 0 else c.mode = .running ∧ c.phase = p

/-- A channel's tables after a bank swap (R37). -/
def swapped (t : Tables) : Tables := ⟨t.staged, t.active, none, t.swaps + 1#16⟩

/-- How many extents, of segments not FREE and of the free-extent list, hold the block. -/
def blockHolders (s : State) (b : Nat) : Nat :=
  (List.finRange 256).countP (fun id => (slotExtent (look s.slots id)).any fun e => e.first ≤ b && b < e.first + e.count)
    + s.free.countP fun e => e.first ≤ b && b < e.first + e.count

/-- The free extents rise, with a block that is not free between any two. -/
def gapped : List Extent → Bool
  | x :: y :: rest => x.first + x.count < y.first && gapped (y :: rest)
  | _ => true

/-- The extent has a block and lies inside the store. -/
def Extent.inStore (e : Extent) : Bool := 1 ≤ e.count && e.first + e.count ≤ 16384

/-- The layout law (R4): every block is held exactly once, and no two free extents are adjacent. -/
abbrev LayoutLaw (s : State) : Prop :=
  (∀ b < 16384, blockHolders s b = 1) ∧ gapped s.free = true ∧ (∀ e ∈ s.free, e.inStore = true) ∧
    ∀ id : SegId, ∀ e ∈ slotExtent (look s.slots id), e.inStore = true

/-- The non-empty slots of a bank that name the segment. -/
def bankRefs (b : Bank) (id : SegId) : Nat :=
  (List.finRange 64).countP fun x => (look b.slots x).any fun e => e.segment = id

/-- The non-empty slots that name the segment, over both banks of all four channels. -/
def references (s : State) (id : SegId) : Nat :=
  ((List.finRange 4).map fun ch => bankRefs (look s.tables ch).active id + bankRefs (look s.tables ch).staged id).sum

/-- The reference-count law (R28). -/
abbrev RefLaw (s : State) : Prop :=
  ∀ id : SegId, (look s.slots id).refCount = references s id ∧
    (isReady (look s.slots id) = false → (look s.slots id).refCount = 0)

/-- The editor law (R29): no editor while a commit is pending. -/
abbrev EditorLaw (s : State) : Prop :=
  ∀ ch : ChanId, (look s.channels ch).commit.isSome → (look s.tables ch).editor = none

/-- The pending law (R46) of an IDLE channel, and with it that only a RUNNING channel holds a pending stop (R48,
R58, R65). -/
abbrev PendingLaw (s : State) : Prop :=
  ∀ ch : ChanId,
    ((look s.channels ch).mode = .idle → (look s.channels ch).commit = none ∧
      (look s.channels ch).pendingScale = none ∧ (look s.channels ch).pendingRate = none) ∧
    ((look s.channels ch).mode ≠ .running → (look s.channels ch).stop = none)

/-- A segment is at least 64 samples long (R2). -/
abbrev LengthLaw (s : State) : Prop := ∀ id : SegId, isFree (look s.slots id) = false → 64 ≤ slotLength (look s.slots id)

/-- A step override of an entry is one of R26's. -/
def stepsInRange (b : Bank) : Bool :=
  (List.finRange 64).all fun x => (look b.slots x).all fun e => e.step.all fun st => 1 ≤ st && st ≤ 16777216

/-- The bank is one a channel can play: what validation asks of all but the target (R35), or the power-on bank's
count 0. -/
def playable (b : Bank) : Bool :=
  b.count = 0 || (b.count ≤ 64 && (validate b 0).isNone)

/-- What a channel's place in its ACTIVE bank keeps while it is not IDLE, and the running law (R53) when it is
RUNNING. -/
abbrev PlaceLaw (s : State) (ch : ChanId) : Prop :=
  let c := look s.channels ch
  (c.mode ≠ .idle → c.entry.val < (look s.tables ch).active.count) ∧
  (∀ x ∈ c.armed, c.mode ≠ .idle ∧ x.val < (look s.tables ch).active.count) ∧
  (c.mode = .waiting → c.passes = 0) ∧
  (c.mode = .running →
    phaseIndex c < entryLength s (currentEntry s ch) ∧
    ∀ e ∈ currentEntry s ch, e.repeats ≠ 0 → c.passes < e.repeats)

/-- What the tables and steps of a channel keep for its play. -/
abbrev TableLaw (s : State) (ch : ChanId) : Prop :=
  let c := look s.channels ch
  let t := look s.tables ch
  playable t.active = true ∧ stepsInRange t.active = true ∧ stepsInRange t.staged = true ∧
  t.staged.count ≤ 64 ∧ (∀ k ∈ c.commit, validate t.staged k.target = none) ∧
  1 ≤ c.defaultStep ∧ c.defaultStep ≤ 16777216 ∧ 1 ≤ c.currentStep ∧ c.currentStep ≤ 16777216 ∧
  ∀ r ∈ c.pendingRate, 1 ≤ r ∧ r ≤ 16777216

/-- The play law: the running law (R53) with the table, length and reference laws it rests on (R2, R27, R28, R35). -/
abbrev PlayLaw (s : State) : Prop := RefLaw s ∧ LengthLaw s ∧ ∀ ch : ChanId, PlaceLaw s ch ∧ TableLaw s ch

/-- The link is EXECUTING. -/
def isExecuting : LinkPhase → Bool
  | .executing _ _ => true
  | _ => false

/-- A link's limit (R123) and the link law's: only an EXECUTING link has a request, and none while a transfer of the
link is on the port. -/
abbrev LinkLaw (s : State) : Prop :=
  ∀ n : LinkId, (look s.links n).request.isSome →
    linkInTransfer s n = false ∧ isExecuting (look s.links n).phase = true

/-- The limits of the other requesters (R123): a prefetcher's and the write side's request waits or is in transfer,
never one of each, and the scrub read in transfer is the scrubber's one request. -/
abbrev OneRequestLaw (s : State) : Prop :=
  (∀ ch : ChanId, (look s.prefetch ch).waiting.isSome → prefetchInTransfer s ch = false) ∧
  (s.writeSide.isSome → writeInTransfer s.arbiter.port = false) ∧
  (scrubInTransfer s = true → s.scrub.request = s.arbiter.port.map Transfer.addr)

/-- The segment is named by an entry of the channel's ACTIVE bank. -/
def namedActive (s : State) (ch : ChanId) (id : SegId) : Bool :=
  (List.finRange 64).any fun x => (entryIn s ch x).any fun e => e.segment = id

/-- The prefetch read of the channel on the port whose line is still wanted, if there is one. -/
def wantedRead (s : State) (ch : ChanId) : Option PrefetchRequest :=
  match s.arbiter.port with
  | some (.prefetch c r true) => if c = ch then some r else none
  | _ => none

/-- The prefetch law (R128, R131): lines held, waited for and in transfer are at most 64, all of segments the ACTIVE
bank names, and an IDLE channel has none. -/
abbrev PrefetchLaw (s : State) : Prop :=
  ∀ ch : ChanId,
    let p := look s.prefetch ch
    p.fifo.length + p.waiting.toList.length + (wantedRead s ch).toList.length ≤ 64 ∧
    (∀ l ∈ p.fifo, namedActive s ch l.segment = true) ∧ (∀ r ∈ p.waiting, namedActive s ch r.segment = true) ∧
    (∀ r ∈ wantedRead s ch, namedActive s ch r.segment = true) ∧
    ((look s.channels ch).mode = .idle → p.fifo = [] ∧ p.waiting = none ∧ wantedRead s ch = none)

/-- The pending-mark list (R142): at most 4 records, no line twice. -/
abbrev MarkLaw (s : State) : Prop := s.marks.length ≤ 4 ∧ (s.marks.map MarkRecord.addr).Nodup

/-- The write-back law (R145): at most 8 records, no line twice, and each of a line in the extent of the READY segment
it names. -/
abbrev WriteBackLaw (s : State) : Prop :=
  s.writeBacks.length ≤ 8 ∧ (s.writeBacks.map WriteBack.addr).Nodup ∧
    ∀ r ∈ s.writeBacks, isReady (look s.slots r.segment) = true ∧ slotHolds (look s.slots r.segment) r.addr = true

/-- The error-log law (R153), with the counters that tell whether an uncorrectable error has been logged. -/
abbrev ErrorLogLaw (s : State) : Prop :=
  (s.log.first = none → s.log.successors = 0#14 ∧ s.log.correctable = 0 ∧ s.log.uncorrectable = 0) ∧
    ∀ r ∈ s.log.first, r.cls = .correctable → s.log.uncorrectable = 0 ∧ s.log.successors.extractLsb' 7 7 = 0#7

/-- The monitor's window and good gates (R157, R159). -/
abbrev MonitorLaw (s : State) : Prop :=
  s.monitor.windowMin ≤ s.monitor.windowMax ∧ s.monitor.goodGates ≤ 1 ∧
    (s.monitor.locked = true → s.monitor.goodGates = 0) ∧ s.monitor.edges ≤ 65535

/-- The sample store's memory is in its canonical form. -/
abbrev StoreLaw (s : State) : Prop := Memory.wf s.store = true

end Sys2Proof.Machine
end

