-- ==== Sys2Proof/Certificates/Slice0/Obligations.lean ====
section
/-! DEFINITION. The statements for the provers. Where a next state is written out as `{ s with … }`, everything not
written is as it was: the statement is the command's frame as well as its effect. -/

open Sys2Proof Sys2Proof.Machine

/-! ### The queue and the step -/

/-- A step runs the command at the front of the queue on the state with the queue's rest. -/
def Obligations.StepRunsTheFrontCommand : Prop :=
  ∀ (c : Instr) (rest : List Instr) (s : State),
    s.pending = c :: rest → Sys2Proof.Machine.step s = exec c { s with pending := rest }

/-- On an empty queue a step is one microsecond of the system time base (the model's choice, log entry 1): the gate
timer and, while the interval is above 0, the scrub timer count down by 1 (R149, R158), and where one of them has 1
left its event comes about, the gate's before the scrub timer's count or expiry. -/
def Obligations.EmptyQueueStepIsOneMicrosecond : Prop :=
  ∀ s : State, s.pending = [] →
    (2 ≤ s.monitor.gateTimer → (s.scrub.interval = 0 ∨ 2 ≤ s.scrub.timer) →
      Sys2Proof.Machine.step s = .next { s with
        monitor := { s.monitor with gateTimer := s.monitor.gateTimer - 1 }
        scrub := { s.scrub with
          timer := if s.scrub.interval = 0 then s.scrub.timer else s.scrub.timer - 1 } }) ∧
    (s.monitor.gateTimer = 1 → s.scrub.interval = 0 → Sys2Proof.Machine.step s = exec .measurementGateEnd s) ∧
    (s.monitor.gateTimer = 1 → s.scrub.interval ≠ 0 → ∃ t : State, exec .measurementGateEnd s = .next t ∧
      t.scrub = s.scrub ∧
      (2 ≤ s.scrub.timer → Sys2Proof.Machine.step s =
        .next { t with scrub := { s.scrub with timer := s.scrub.timer - 1 } }) ∧
      (s.scrub.timer = 1 → Sys2Proof.Machine.step s = exec .scrubExpiry t)) ∧
    (2 ≤ s.monitor.gateTimer → s.scrub.interval ≠ 0 → s.scrub.timer = 1 →
      Sys2Proof.Machine.step s =
        exec .scrubExpiry { s with monitor := { s.monitor with gateTimer := s.monitor.gateTimer - 1 } })

/-- No command touches the queue of the commands that wait, and the machine stops on none but the end of a store
transfer of a line outside the store, there with that fault (log entry 18). -/
def Obligations.OnlyALineOutsideTheStoreStops : Prop :=
  ∀ (c : Instr) (s : State),
    (∀ t, exec c s = .next t → t.pending = s.pending) ∧
    ((c.endsTransfer = true → PortInStore s) → ∃ t, exec c s = .next t) ∧
    (∀ f, exec c s = .fault f → c.endsTransfer = true ∧ ∃ x ∈ s.arbiter.port, 262144 ≤ x.addr ∧
      f = .lineOutsideStore x.addr) ∧
    ∀ r, exec c s ≠ .refused r

/-! ### Reset -/

/-- What the spec gives each block after power-on (R23, R44, R70, R92, R111, R121, R138, R156, R157, R165, R189). -/
def Obligations.ResetHoldsThePowerOnValues : Prop :=
  let s := State.reset
  (∀ id : SegId, (look s.slots id).body = .free ∧ (look s.slots id).refCount = 0 ∧
    (look s.slots id).poisoned = 0 ∧ (look s.slots id).filling = false) ∧
  s.free = [⟨0, 16384⟩] ∧
  (∀ ch : ChanId,
    (∀ x : SlotIx, look (look s.tables ch).active.slots x = none ∧ look (look s.tables ch).staged.slots x = none) ∧
    (look s.tables ch).active.count = 0 ∧ (look s.tables ch).active.endAction = .stop ∧
    (look s.tables ch).staged.count = 0 ∧ (look s.tables ch).staged.endAction = .stop ∧
    (look s.tables ch).editor = none ∧ (look s.tables ch).swaps = 0#16) ∧
  (∀ ch : ChanId, let c := look s.channels ch
    c.mode = .idle ∧ c.entry = 0 ∧ c.passes = 0 ∧ c.armed = none ∧ c.stop = none ∧ c.commit = none ∧
    c.pendingScale = none ∧ c.pendingRate = none ∧ c.phase = 0 ∧ c.defaultStep = 16777216 ∧
    c.currentStep = 16777216 ∧ c.scale = ⟨16384#16, 0#16⟩ ∧ c.interpolation = .linear ∧ c.sumSource = none ∧
    c.park = 0#16 ∧ c.haltOnLoss = true ∧ c.last = 0#16 ∧ c.clipEpisode = false ∧ c.passClipped = false ∧
    c.underrunEpisode = false ∧ c.clips = 0 ∧ c.underruns = 0 ∧ c.substitutions = 0 ∧
    c.path = List.replicate 24 0#16) ∧
  (∀ k : CondId, look s.trigger.conds k = ⟨false, 0#12, 0#12, .depart, 1, 0, true, 0, 0, false, 0#32⟩) ∧
  s.trigger.delay = List.replicate 8 0#8 ∧ s.trigger.pulses = 0#4 ∧
  (∀ i : PinId, (look s.pins i).source = .static false ∧ (look s.pins i).path = List.replicate 24 false ∧
    (look s.pins i).toggle = false ∧ (look s.pins i).pulse = 0) ∧
  (∀ ch : ChanId, look s.patterns ch = 0#4) ∧
  s.arbiter = ⟨none, 0, 0, 1, .scrubber⟩ ∧
  (∀ ch : ChanId, (look s.prefetch ch).fifo = [] ∧ (look s.prefetch ch).next = none ∧
    (look s.prefetch ch).play = 0 ∧ (look s.prefetch ch).waiting = none) ∧
  s.log = ⟨none, 0#14, 0, 0⟩ ∧ s.marks = [] ∧ s.writeBacks = [] ∧ s.writeSide = none ∧
  s.scrub = ⟨64, 64, 0, none⟩ ∧ s.monitor = ⟨false, 0, 0, 100, none, 1000, 50000⟩ ∧
  ∀ n : LinkId, (look s.links n).phase = .free ∧ (look s.links n).request = none ∧ (look s.links n).flags = 0#41 ∧
    (look s.links n).masks = BitVec.allOnes 41

/-- POWER_ON_RESET brings every block to its power-on values, whatever the state; each link ignores in whole the
transfer whose chip select was asserted before the release of RESETn (R177). The LRSTn levels are the surroundings'
and the store's contents are undefined anew (log entries 8 and 26). -/
def Obligations.PowerOnResetRestoresEveryBlock : Prop :=
  ∀ (selected : BitVec 2) (s : State), ∃ links : Vector Link 2,
    exec (.powerOnReset selected) s =
      .next { State.reset with pending := s.pending, powerUps := s.powerUps + 1, links := links } ∧
    ∀ n : LinkId, look links n =
      { look State.reset.links n with
        inReset := (look s.links n).inReset, ignoring := selected.getLsbD n.val }

/-! ### Control links -/

/-- What a link reset does and what it leaves (R24, R45, R144, R175, R188): the extents of its OPEN segments are freed
in ascending id order (R6), and a write-side request of one of them is withdrawn and the next presented (R143). What
the release of LRSTn does (R176); the release of a line that is not held leaves the state (the model's choice, log
entry 5). -/
def Obligations.LinkResetAndItsRelease : Prop :=
  ∀ (n : LinkId) (s : State),
    (∃ t : State, exec (.linkReset n) s = .next t ∧
      look t.links n = { look s.links n with
        phase := .free, request := none, flags := 0#41, masks := BitVec.allOnes 41, inReset := true,
        ignoring := false } ∧
      (look t.links (otherLink n)) = (if ownsAny n s
        then { look s.links (otherLink n) with flags := (look s.links (otherLink n)).flags ||| BitVec.twoPow 41 37 }
        else look s.links (otherLink n)) ∧
      (∀ id : SegId, look t.slots id = if ownedBy n (look s.slots id) then ⟨.free, 0, 0, false⟩ else look s.slots id) ∧
      (∀ ch : ChanId, look t.tables ch = { look s.tables ch with
        editor := if (look s.tables ch).editor = some n then none else (look s.tables ch).editor }) ∧
      t.marks = s.marks.filter (fun r => !ownedBy n (look s.slots r.segment)) ∧
      t.writeBacks = s.writeBacks.filter (fun r => !ownedBy n (look s.slots r.segment)) ∧
      (WriteBackLaw s → t.writeBacks = s.writeBacks) ∧
      t.writeSide = writeSideAfter (fun r => ownedBy n (look s.slots r.segment)) t.marks t.writeBacks
        s.arbiter.port s.writeSide ∧
      t.free = (List.finRange 256).foldl (fun free id => match (look s.slots id).body with
        | .opened owner _ extent => if owner = n then freeInto extent free else free
        | _ => free) s.free ∧
      t.store = s.store ∧ t.powerUps = s.powerUps ∧ t.channels = s.channels ∧ t.prefetch = s.prefetch ∧
      t.trigger = s.trigger ∧ t.pins = s.pins ∧ t.patterns = s.patterns ∧ t.scrub = s.scrub ∧ t.log = s.log ∧
      t.monitor = s.monitor ∧
      t.arbiter = { s.arbiter with port := t.arbiter.port } ∧
      t.arbiter.port.map Transfer.addr = s.arbiter.port.map Transfer.addr) ∧
    ∀ selected : Bool,
      ((look s.links n).inReset = true → exec (.linkResetRelease n selected) s = .next { s with
        links := put s.links n { look s.links n with inReset := false, ignoring := selected } }) ∧
      ((look s.links n).inReset = false → exec (.linkResetRelease n selected) s = .next s)

/-- While LRSTn is held a link ignores every transfer, and a transfer begun under a reset is ignored in whole, the
ignoring ending with it (R176, R177), also where it has no complete byte (FRAME_ERROR with no bytes, log entry 32). -/
def Obligations.SilencedLinkIgnoresTransfers : Prop :=
  (∀ n : LinkId, (Instr.frameError n []).wf = true) ∧
  ∀ (c : Instr) (n : LinkId) (s : State),
    ((∃ tag code payload, c.frame = some (n, tag, code, payload)) ∨ (∃ bytes, c = .frameError n bytes) ∨
      ∃ count, c = .responseFetch n count) → c.wf = true →
    ((look s.links n).inReset = true → exec c s = .next s) ∧
    ((look s.links n).inReset = false → (look s.links n).ignoring = true →
      exec c s = .next { s with links := put s.links n { look s.links n with ignoring := false } })

/-- The framing checks (R167) on a transfer with a first byte: a kind byte that is neither 0xC1 nor 0xD2, or a command
frame of fewer than 5 bytes, of a payload length field above 2,056, or of another number of bytes after byte 4. A
frame that fails one sets FRAME_ERROR (position 40) in the link's own set whatever the link's state, and nothing else
of the part changes. Bytes that pass are no frame error, and the row leaves the state (the model's choice, log entry
5). A transfer with no complete byte changes nothing (R166; as a row, log entry 32). -/
def Obligations.FrameErrorByTheFramingChecks : Prop :=
  (∀ (n : LinkId) (s : State), Hears s n → exec (.frameError n []) s = .next s) ∧
  ∀ (n : LinkId) (kind : Byte) (rest : List Byte) (s : State), Hears s n →
    let field := (rest.getD 2 0#8).toNat + 256 * (rest.getD 3 0#8).toNat
    let fails := (kind ≠ 0xC1#8 ∧ kind ≠ 0xD2#8) ∨
      (kind = 0xC1#8 ∧ (rest.length < 4 ∨ 2056 < field ∨ rest.length - 4 ≠ field))
    (fails → exec (.frameError n (kind :: rest)) s =
      .next { s with links := heardAndFlagged n (1 + rest.length) 40 s.links }) ∧
    (¬ fails → exec (.frameError n (kind :: rest)) s = .next s ∧ (Instr.frameError n (kind :: rest)).wf = false)

/-- A well-framed command frame at a link that is EXECUTING or HOLDING is dropped, whichever command it is: only
COMMAND_DROPPED (position 39) of the link's own set changes (R168). -/
def Obligations.BusyLinkDropsFrames : Prop :=
  ∀ (n : LinkId) (tag code : Byte) (payload : List Byte) (s : State),
    Hears s n → (look s.links n).phase ≠ .free → payload.length ≤ 2056 →
    exec (.commandDropped n tag code payload) s =
      .next { s with links := heardAndFlagged n (5 + payload.length) 39 s.links } ∧
    ∀ c : Instr, c.frame = some (n, tag, code, payload) → c.wf = true →
      exec c s = .next { s with links := heardAndFlagged n (5 + payload.length) 39 s.links }

/-- A code that names no command is answered UNKNOWN_COMMAND, and a payload length the command's layout does not allow
is answered BAD_LENGTH; nothing else changes (R169 steps 1 and 2). The codes and lengths are those of spec 10 section
10.7.2, and no other code names a command. -/
def Obligations.UnknownCodesAndWrongLengths : Prop :=
  (∀ (n : LinkId) (tag code : Byte) (payload : List Byte) (s : State),
    Takes s n → payload.length ≤ 2056 → layoutAllows code payload.length = none →
    exec (.unknownCommand n tag code payload) s =
      .next { s with links := answered n payload.length tag .unknownCommand [] s.links }) ∧
  (∀ (c : Instr) (n : LinkId) (tag code : Byte) (payload : List Byte) (s : State),
    c.frame = some (n, tag, code, payload) → c.wf = true → Takes s n →
    layoutAllows code payload.length = some false →
    exec c s = .next { s with links := answered n payload.length tag .badLength [] s.links }) ∧
  (let fixed : List (Nat × Nat) := [(0x01, 0), (0x10, 4), (0x12, 5), (0x13, 1), (0x14, 1), (0x15, 7), (0x16, 1), (0x17, 4), (0x18, 0),
      (0x20, 17), (0x21, 2), (0x22, 4), (0x23, 3), (0x24, 1), (0x25, 1), (0x26, 3), (0x27, 1), (0x30, 2), (0x31, 2),
      (0x32, 2), (0x33, 6), (0x34, 6), (0x35, 6), (0x36, 1), (0x40, 10), (0x41, 2), (0x42, 1), (0x43, 2), (0x48, 4),
      (0x49, 0), (0x50, 4), (0x51, 0), (0x52, 0), (0x58, 4), (0x59, 0), (0x60, 0), (0x61, 6), (0x62, 6)];
    (∀ x ∈ fixed, ∀ len, layoutAllows (BitVec.ofNat 8 x.1) len = some (decide (len = x.2))) ∧
    ∀ code : Byte, code ≠ 0x11#8 → (∀ x ∈ fixed, code.toNat ≠ x.1) → ∀ len, layoutAllows code len = none) ∧
  ∀ len, layoutAllows 0x11#8 len = some (decide (7 ≤ len ∧ (len - 7) % 2 = 0))

/-- IDENTIFY (R174): accepted from either link, answered OK with the fixed figures, and it changes no state of the part
but the link's own. -/
def Obligations.IdentifyReportsTheFixedPart : Prop :=
  ∀ (n : LinkId) (tag : Byte) (s : State), Takes s n →
    exec (.identify n tag []) s = .next { s with
      links := answered n 0 tag .ok
        [0x16#8, 0x04#8, 1#8, 0#8, 1#8, 0x00#8, 0x40#8, 64#8, 4#8, 4#8, 8#8, 8#8, 0x08#8, 0x08#8] s.links }

/-- A fetch sends 0x00 under the kind byte, the ready byte and, from a HOLDING link, tag, status, payload length and
payload, then 0x00; the response is consumed when the transfer ran through its last byte, and otherwise stays held
(R171, R172). Nothing but the link changes. -/
def Obligations.FetchSendsTheHeldResponse : Prop :=
  ∀ (n : LinkId) (count : Nat) (s : State), Hears s n → 1 ≤ count →
    (∀ r : Response, (look s.links n).phase = .holding r →
      exec (.responseFetch n count) s = .next { s with links := put s.links n { look s.links n with
        sdo := ([0#8, 1#8, r.tag, statusByte r.status, BitVec.ofNat 8 r.payload.length,
          BitVec.ofNat 8 (r.payload.length / 256)] ++ r.payload ++ List.replicate count 0#8).take count
        phase := if 6 + r.payload.length ≤ count then .free else .holding r } }) ∧
    ((∀ r : Response, (look s.links n).phase ≠ .holding r) →
      exec (.responseFetch n count) s = .next { s with links := put s.links n { look s.links n with
        sdo := List.replicate count 0#8 } })

/-! ### The waveform library -/

/-- An accepted CREATE_SEGMENT (R5, R8, R9, R10): the lowest FREE id is OPEN with the requesting link its owner, its
extent comes from the list, LIBRARY_CHANGED is set in both sets, and the link executes the zero-fill, asking for the
extent's first line. -/
def Obligations.CreateSegmentOpensTheLowestFreeId : Prop :=
  ∀ (n : LinkId) (tag : Byte) (length : Nat) (id : SegId) (first : Nat) (rest : List Extent) (s : State),
    Takes s n → (look s.links n).request = none → linkInTransfer s n = false →
    64 ≤ length → length ≤ 1048576 →
    (look s.slots id).body = .free → (∀ j : SegId, j < id → (look s.slots j).body ≠ .free) →
    allocate (blocksFor length) s.free = some (first, rest) →
    exec (.createSegment n tag (leBytes 4 length)) s = .next { s with
      free := rest
      slots := put s.slots id ⟨.opened n length ⟨first, (length + 63) / 64⟩, 0, 0, true⟩
      links := nowExecuting n 4 tag (.zeroFill id (16 * first) (16 * (first + (length + 63) / 64)))
        (some (.zeroWrite (16 * first))) (inBothSets .libraryChanged s.links) }

/-- The refusals of the library's commands, in the order of their checks (R9, R12, R15, R16, R17, R18): each leaves
everything but the link's own record as it was. -/
def Obligations.LibraryCommandsAreRefused : Prop :=
  ∀ (n : LinkId) (tag : Byte) (s : State), Takes s n →
    let refused := fun (c : Instr) (len : Nat) (status : Status) (payload : List Byte) =>
      exec c s = .next { s with links := answered n len tag status payload s.links }
    (∀ length < 4294967296, length < 64 ∨ 1048576 < length →
      refused (.createSegment n tag (leBytes 4 length)) 4 .outOfRange []) ∧
    (∀ length, 64 ≤ length → length ≤ 1048576 →
      ((∀ id : SegId, (look s.slots id).body ≠ .free) →
        refused (.createSegment n tag (leBytes 4 length)) 4 .noId []) ∧
      ((∃ id : SegId, (look s.slots id).body = .free) → (∀ e ∈ s.free, e.count < (length + 63) / 64) →
        refused (.createSegment n tag (leBytes 4 length)) 4 .noSpace (leBytes 2 (largestFree s.free)))) ∧
    (∀ (id : SegId) (label : Nat),
      (∀ length extent, (look s.slots id).body = .opened (otherLink n) length extent →
        refused (.finishSegment n tag (oneByte id.val :: leBytes 4 label)) 5 .notOwner [] ∧
        refused (.abandonSegment n tag [oneByte id.val]) 1 .notOwner []) ∧
      (isOpen (look s.slots id) = false →
        refused (.finishSegment n tag (oneByte id.val :: leBytes 4 label)) 5 .wrongState [] ∧
        refused (.abandonSegment n tag [oneByte id.val]) 1 .wrongState []) ∧
      (isReady (look s.slots id) = false → refused (.deleteSegment n tag [oneByte id.val]) 1 .wrongState []) ∧
      (isReady (look s.slots id) = true → 0 < (look s.slots id).refCount →
        refused (.deleteSegment n tag [oneByte id.val]) 1 .inUse []) ∧
      (isReady (look s.slots id) = true → isReading (look s.links (otherLink n)) id = true →
        refused (.deleteSegment n tag [oneByte id.val]) 1 .inUse [])) ∧
    (∀ (id : SegId) (offset count : Nat) (samples : List Code),
      offset < 4294967296 → count < 65536 → samples.length ≤ 1024 →
      let write := fun k : Nat => Instr.writeSamples n tag
        (oneByte id.val :: (leBytes 4 offset ++ leBytes 2 k ++ samples.flatMap fun c => leBytes 2 c.toNat))
      let read := Instr.readSamples n tag (oneByte id.val :: (leBytes 4 offset ++ leBytes 2 count))
      (count ≠ samples.length → refused (write count) (7 + 2 * samples.length) .badLength []) ∧
      (samples = [] → refused (write 0) 7 .outOfRange []) ∧
      (count = 0 ∨ 1024 < count → refused read 7 .outOfRange []) ∧
      (samples ≠ [] → isOpen (look s.slots id) = false →
        refused (write samples.length) (7 + 2 * samples.length) .wrongState []) ∧
      (1 ≤ count → count ≤ 1024 → (look s.slots id).body = .free → refused read 7 .wrongState []) ∧
      (∀ length extent, (look s.slots id).body = .opened (otherLink n) length extent →
        (samples ≠ [] → refused (write samples.length) (7 + 2 * samples.length) .notOwner []) ∧
        (1 ≤ count → count ≤ 1024 → refused read 7 .notOwner [])) ∧
      (∀ length extent, (look s.slots id).body = .opened n length extent →
        (samples ≠ [] → length < offset + samples.length →
          refused (write samples.length) (7 + 2 * samples.length) .outOfRange []) ∧
        (1 ≤ count → count ≤ 1024 → length < offset + count → refused read 7 .outOfRange [])) ∧
      (∀ length extent label, (look s.slots id).body = .ready length extent label →
        1 ≤ count → count ≤ 1024 → length < offset + count → refused read 7 .outOfRange []))

/-- Allocation takes the first extent in list order that is large enough, whole or its lowest blocks, and fails only
where none is (R5); freeing adds exactly the extent's blocks to the list, and where the extent overlaps no free one
the list stays in order with no two free extents adjacent (R6). -/
def Obligations.ExtentsAreTakenFirstFitAndJoined : Prop :=
  (∀ (b : Nat) (l : List Extent),
    (∀ first rest, allocate b l = some (first, rest) → ∃ pre x post, l = pre ++ x :: post ∧
      (∀ e ∈ pre, e.count < b) ∧ b ≤ x.count ∧ first = x.first ∧
      rest = pre ++ (if x.count = b then post else ⟨x.first + b, x.count - b⟩ :: post)) ∧
    (allocate b l = none → ∀ e ∈ l, e.count < b)) ∧
  ∀ (e : Extent) (l : List Extent),
    (∀ b : Nat, ((freeInto e l).countP fun x => x.first ≤ b && b < x.first + x.count) =
      ((e :: l).countP fun x => x.first ≤ b && b < x.first + x.count)) ∧
    (gapped l = true → 1 ≤ e.count → (∀ x ∈ l, 1 ≤ x.count) →
      (∀ x ∈ l, x.first + x.count ≤ e.first ∨ e.first + e.count ≤ x.first) →
      gapped (freeInto e l) = true)

/-- Accepted WRITE_SAMPLES and READ_SAMPLES (R12, R13, R14, R18): the link executes the command over the segment's
affected lines, asking for the first: a whole line's write, a partial line's merge read, or a sample read. -/
def Obligations.SampleCommandsBeginTheirFirstLine : Prop :=
  ∀ (n : LinkId) (tag : Byte) (id : SegId) (offset length : Nat) (extent : Extent) (s : State),
    Takes s n → (look s.links n).request = none → linkInTransfer s n = false → length ≤ 1048576 →
    (∀ samples : List Code, (look s.slots id).body = .opened n length extent →
      1 ≤ samples.length → samples.length ≤ 1024 → offset + samples.length ≤ length →
      exec (.writeSamples n tag (oneByte id.val ::
          (leBytes 4 offset ++ leBytes 2 samples.length ++ samples.flatMap fun c => leBytes 2 c.toNat))) s =
        .next { s with
        links := nowExecuting n (7 + 2 * samples.length) tag
          (.write id (16 * extent.first) offset samples (offset / 4) ((offset + samples.length - 1) / 4) none)
          (some (if offset % 4 = 0 ∧ 4 ≤ samples.length
            then .lineWrite (16 * extent.first + offset / 4)
              (samples.getD 3 0#16 ++ samples.getD 2 0#16 ++ samples.getD 1 0#16 ++ samples.getD 0 0#16)
            else .mergeRead (16 * extent.first + offset / 4))) s.links }) ∧
    (∀ count : Nat, ((look s.slots id).body = .opened n length extent ∨
        ∃ label, (look s.slots id).body = .ready length extent label) →
      1 ≤ count → count ≤ 1024 → offset + count ≤ length →
      exec (.readSamples n tag (oneByte id.val :: (leBytes 4 offset ++ leBytes 2 count))) s =
        .next { s with
        links := nowExecuting n 7 tag
          (.read id (16 * extent.first) offset count (offset / 4) ((offset + count - 1) / 4) [])
          (some (.sampleRead (16 * extent.first + offset / 4))) s.links })

/-- Accepted FINISH_SEGMENT, ABANDON_SEGMENT and DELETE_SEGMENT (R2, R6, R8, R15, R16, R17, R144, R147, R151). The
finished slot is READY with the tag, all else of it kept. An abandoned or deleted one is FREE, its extent freed, its
pending marks and queued write-backs removed, the others keeping their order, and of a deleted segment a waiting scrub
request is withdrawn. A write-side request of it is withdrawn and the next presented (R143). LIBRARY_CHANGED is set in
both sets. -/
def Obligations.SegmentsBecomeReadyOrFree : Prop :=
  ∀ (n : LinkId) (tag : Byte) (id : SegId) (length : Nat) (extent : Extent) (s : State), Takes s n →
    (∀ label : BitVec 32, (look s.slots id).body = .opened n length extent →
      exec (.finishSegment n tag (oneByte id.val :: leBytes 4 label.toNat)) s = .next { s with
        slots := put s.slots id { look s.slots id with body := .ready length extent label }
        links := answered n 5 tag .ok [] (inBothSets .libraryChanged s.links) }) ∧
    (let marks := s.marks.filter fun r => r.segment ≠ id
    let writeBacks := s.writeBacks.filter fun r => r.segment ≠ id
    let writeSide := writeSideAfter (fun r => r.segment = id) marks writeBacks s.arbiter.port s.writeSide
    ((look s.slots id).body = .opened n length extent →
      exec (.abandonSegment n tag [oneByte id.val]) s = .next { s with
        slots := put s.slots id ⟨.free, 0, 0, false⟩
        free := freeInto extent s.free
        marks := marks
        writeBacks := writeBacks
        writeSide := writeSide
        links := answered n 1 tag .ok [] (inBothSets .libraryChanged s.links) }) ∧
    (∀ label : BitVec 32, (look s.slots id).body = .ready length extent label → (look s.slots id).refCount = 0 →
      isReading (look s.links (otherLink n)) id = false →
      exec (.deleteSegment n tag [oneByte id.val]) s = .next { s with
        slots := put s.slots id ⟨.free, 0, 0, false⟩
        free := freeInto extent s.free
        marks := marks
        writeBacks := writeBacks
        writeSide := writeSide
        scrub := { s.scrub with
          request := if scrubInTransfer s then s.scrub.request
            else s.scrub.request.filter fun a => !(16 * extent.first ≤ a && a < 16 * (extent.first + extent.count)) }
        links := answered n 1 tag .ok [] (inBothSets .libraryChanged s.links) }))

/-- QUERY_SEGMENT, FIND_TAG and LIBRARY_STATUS answer OK with the record, the ids and the counts as they stand, and
change nothing but the link's own record (R20, R21, R22). -/
def Obligations.LibraryQueriesReport : Prop :=
  ∀ (n : LinkId) (tag : Byte) (s : State), Takes s n →
    (∀ id : SegId, let x := look s.slots id
      let tail := leBytes 2 x.refCount ++ leBytes 2 x.poisoned
      let told := fun record => exec (.querySegment n tag [oneByte id.val]) s =
        .next { s with links := answered n 1 tag .ok record s.links }
      (x.body = .free → told ([oneByte id.val, 0#8, 0#8, boolByte x.filling] ++ List.replicate 13 0#8 ++ tail)) ∧
      (∀ owner length extent, x.body = .opened owner length extent →
        told ([oneByte id.val, 1#8, oneByte (owner.val + 1), boolByte x.filling] ++ leBytes 4 length ++
          leBytes 2 extent.first ++ leBytes 2 extent.count ++ List.replicate 5 0#8 ++ tail)) ∧
      (∀ length extent label, x.body = .ready length extent label →
        told ([oneByte id.val, 2#8, 0#8, boolByte x.filling] ++ leBytes 4 length ++ leBytes 2 extent.first ++
          leBytes 2 extent.count ++ [1#8] ++ leBytes 4 label.toNat ++ tail))) ∧
    (∀ label : BitVec 32, ∃ ids : List SegId,
      ids.Pairwise (· < ·) ∧
      (∀ id, id ∈ ids ↔ ∃ length extent, (look s.slots id).body = .ready length extent label) ∧
      exec (.findTag n tag (leBytes 4 label.toNat)) s = .next { s with
        links := answered n 4 tag .ok ([oneByte (min 16 ids.length), boolByte (decide (16 < ids.length))] ++
          (ids.take 16).map fun id => oneByte id.val) s.links }) ∧
    exec (.libraryStatus n tag []) s = .next { s with
      links := answered n 0 tag .ok
        (leBytes 2 (s.free.map Extent.count).sum ++ leBytes 2 ((s.free.map Extent.count).foldr max 0) ++
          leBytes 2 ((List.finRange 256).countP fun id => isOpen (look s.slots id)) ++
          leBytes 2 ((List.finRange 256).countP fun id => isReady (look s.slots id))) s.links }

/-! ### The ends of link transfers -/

/-- The end of a zero-fill write (R10, R11, R139): its line holds four zero codes, fresh check bits and a clear mark,
and every other line reads as before; a live command asks for the next line or, after the last, ends the filling and
answers OK with the id; the line of a command a link reset has stopped is still written. -/
def Obligations.ZeroFillWriteEndZeroesItsLine : Prop :=
  ∀ (n : LinkId) (a : Nat) (live : Bool) (s : State),
    s.arbiter.port = some (.link n (.zeroWrite a) live) → a < 262144 → (look s.links n).request = none →
    ∃ t : State, exec .zeroFillWriteEnd s = .next t ∧
      lineAt t a = ⟨0#64, 0#72, false⟩ ∧ (∀ b, b ≠ a → lineAt t b = lineAt s b) ∧
      t.arbiter = { s.arbiter with port := none } ∧ t.marks = s.marks ∧ t.log = s.log ∧ t.free = s.free ∧
      t.tables = s.tables ∧ t.channels = s.channels ∧ t.prefetch = s.prefetch ∧
      (look t.links (otherLink n)) = look s.links (otherLink n) ∧
      (∀ tag id next stop, live = true → (look s.links n).phase = .executing tag (.zeroFill id next stop) →
        (next + 1 < stop → t.slots = s.slots ∧ look t.links n = { look s.links n with
          phase := .executing tag (.zeroFill id (next + 1) stop), request := some (.zeroWrite (next + 1)) }) ∧
        (stop ≤ next + 1 → t.slots = put s.slots id { look s.slots id with filling := false } ∧
          look t.links n = { look s.links n with
            phase := .holding ⟨tag, .ok, [oneByte id.val]⟩
            flags := (look s.links n).flags ||| BitVec.twoPow 41 38 })) ∧
      (live = false → (look s.links n).phase = .free → t.slots = s.slots ∧ t.links = s.links)

/-- The ends of a WRITE_SAMPLES's transfers (R12, R13, R14). A line write stores its codes with fresh check bits and a
clear mark and leaves every other line; the command asks for the next line's write where the written range covers the
line, for its merge read where it does not, or answers OK after the last. A merge read leaves the store as the upset
left it and asks at once for the write of the merged line: new codes at the written positions, elsewhere what the read
delivered (0 for a poisoned line); it acts on its outcome as R140's column of merge reads says, its error logged with
source LINKn and nothing marked or offered. A transfer of a command that a link reset has stopped still writes or
checks its line, and no link's command or response moves by it. -/
def Obligations.WriteTransferEndsCarryTheCommandOn : Prop :=
  (∀ (n : LinkId) (a : Nat) (upset : LineBits) (tag : Byte) (id : SegId) (base offset line last : Nat)
    (samples : List Code) (merged : Option LineData) (s : State),
    (look s.links n).phase = .executing tag (.write id base offset samples line last merged) →
    (look s.links n).request = none → a < 262144 → line ≤ last →
    (∀ data : LineData, s.arbiter.port = some (.link n (.lineWrite a data) true) →
      ∃ t : State, exec (.writeSamplesTransferEnd upset) s = .next t ∧
        lineAt t a = ⟨data, 0#72, false⟩ ∧ (∀ b, b ≠ a → lineAt t b = lineAt s b) ∧
        t.arbiter = { s.arbiter with port := none } ∧ t.slots = s.slots ∧ t.log = s.log ∧
        (line < last → (look t.links n).phase =
          .executing tag (.write id base offset samples (line + 1) last none) ∧
          (if offset ≤ 4 * (line + 1) ∧ 4 * (line + 1) + 4 ≤ offset + samples.length then
            ∃ codes : LineData, (look t.links n).request = some (.lineWrite (base + (line + 1)) codes) ∧
              ∀ j < 4, sampleOf codes j = samples.getD (4 * (line + 1) + j - offset) 0#16
          else (look t.links n).request = some (.mergeRead (base + (line + 1)))) ∧
          (look t.links n).flags = (look s.links n).flags) ∧
        (line = last → look t.links n = { look s.links n with
          phase := .holding ⟨tag, .ok, []⟩, flags := (look s.links n).flags ||| BitVec.twoPow 41 38 })) ∧
    (s.arbiter.port = some (.link n (.mergeRead a) true) → wholeLine offset samples.length line = false →
      ∃ (t : State) (data : LineData), exec (.writeSamplesTransferEnd upset) s = .next t ∧
        t.store = (strike a upset s).store ∧ t.marks = s.marks ∧ t.writeBacks = s.writeBacks ∧
        t.slots = s.slots ∧ t.arbiter = { s.arbiter with port := none } ∧
        ReadActed (.link n) true a (strike a upset s) t ∧
        (look t.links n).phase = .executing tag (.write id base offset samples line last (some data)) ∧
        (look t.links n).request = some (.lineWrite (base + line) data) ∧
        ∀ j < 4, sampleOf data j =
          if offset ≤ 4 * line + j ∧ 4 * line + j < offset + samples.length
          then samples.getD (4 * line + j - offset) 0#16
          else sampleOf (readDelivery (strike a upset s) a).data j)) ∧
  ∀ (n : LinkId) (a : Nat) (upset : LineBits) (s : State), a < 262144 →
    (∀ data : LineData, s.arbiter.port = some (.link n (.lineWrite a data) false) →
      ∃ t : State, exec (.writeSamplesTransferEnd upset) s = .next t ∧
        lineAt t a = ⟨data, 0#72, false⟩ ∧ (∀ b, b ≠ a → lineAt t b = lineAt s b) ∧
        t.arbiter = { s.arbiter with port := none } ∧ t.slots = s.slots ∧ t.log = s.log ∧
        ∀ m : LinkId, look t.links m = { look s.links m with request := (look t.links m).request }) ∧
    (s.arbiter.port = some (.link n (.mergeRead a) false) →
      ∃ t : State, exec (.writeSamplesTransferEnd upset) s = .next t ∧
        t.store = (strike a upset s).store ∧ t.arbiter = { s.arbiter with port := none } ∧
        ReadActed (.link n) true a (strike a upset s) t ∧
        ∀ m : LinkId, (look t.links m).phase = (look s.links m).phase)

/-- The end of a READ_SAMPLES line (R18, R19, R140): the link has the line as the check delivers it; the command asks
for the next line, or answers OK with the samples asked for and one bitmap flag per line (packed as log entry 31
says). The stored data, check bits and store marks are as the upset left them, and the read acts on its outcome as
R140's column of sample reads says, with source LINKn; the read of a command that a link reset has stopped does that
alone. -/
def Obligations.ReadTransferEndDeliversItsLine : Prop :=
  (∀ (n : LinkId) (a : Nat) (upset : LineBits) (tag : Byte) (id : SegId) (base offset count line last : Nat)
    (got : List (LineData × Bool)) (s : State),
    (look s.links n).phase = .executing tag (.read id base offset count line last got) →
    (look s.links n).request = none → a < 262144 → s.arbiter.port = some (.link n (.sampleRead a) true) →
    let d := readDelivery (strike a upset s) a
    ∃ t : State, exec (.readSamplesLineEnd upset) s = .next t ∧
      t.store = (strike a upset s).store ∧ t.arbiter = { s.arbiter with port := none } ∧
      ReadActed (.link n) false a (strike a upset s) t ∧
      (line < last → (look t.links n).phase =
          .executing tag (.read id base offset count (line + 1) last (got ++ [(d.data, d.poisoned)])) ∧
        (look t.links n).request = some (.sampleRead (base + (line + 1)))) ∧
      (last ≤ line → (look t.links n).phase = .holding ⟨tag, .ok,
          ((((got ++ [(d.data, d.poisoned)]).flatMap fun g =>
            [sampleOf g.1 0, sampleOf g.1 1, sampleOf g.1 2, sampleOf g.1 3]).drop (offset % 4)).take count).flatMap
              (fun c => leBytes 2 c.toNat) ++ packBits ((got ++ [(d.data, d.poisoned)]).map Prod.snd)⟩ ∧
        (look t.links n).request = none ∧ (look t.links n).flags.getLsbD 38 = true)) ∧
  ∀ (n : LinkId) (a : Nat) (upset : LineBits) (s : State), a < 262144 →
    s.arbiter.port = some (.link n (.sampleRead a) false) →
    ∃ t : State, exec (.readSamplesLineEnd upset) s = .next t ∧
      t.store = (strike a upset s).store ∧ t.arbiter = { s.arbiter with port := none } ∧
      ReadActed (.link n) false a (strike a upset s) t ∧
      ∀ m : LinkId, (look t.links m).phase = (look s.links m).phase

/-! ### Prefetch, scrub, marks and write-backs -/

/-- The end of a prefetch read (R132): on the present path and not behind the play position its line is appended at the
FIFO's tail with its place and as the check delivers it; otherwise it is discarded; it acts on its outcome as R140's
column of prefetch reads says either way. A RUNNING or WAITING channel with room and no request then asks for the first
place not yet requested, or for the play position's where that has passed it (R131), unless it lies past the path's
end (R130), and the place after it on the path is the next (R129). The FIFOs of the other channels, every channel
record and every table stay. -/
def Obligations.PrefetchReadEndFillsItsPlace : Prop :=
  ∀ (ch : ChanId) (r : PrefetchRequest) (live : Bool) (upset : LineBits) (s : State),
    s.arbiter.port = some (.prefetch ch r live) → r.addr < 262144 →
    let d := readDelivery (strike r.addr upset s) r.addr
    ∃ t : State, exec (.prefetchReadEnd upset) s = .next t ∧
      (look t.prefetch ch).fifo =
        (if live = true ∧ (look s.prefetch ch).play ≤ r.pos.place
          then (look s.prefetch ch).fifo ++ [⟨r.pos.place, r.segment, r.pos.line, d.data, d.poisoned⟩]
          else (look s.prefetch ch).fifo) ∧
      (look t.prefetch ch).play = (look s.prefetch ch).play ∧
      (∀ c, c ≠ ch → look t.prefetch c = look s.prefetch c) ∧
      t.arbiter = { s.arbiter with port := none } ∧ t.channels = s.channels ∧ t.tables = s.tables ∧
      t.store = (strike r.addr upset s).store ∧ ReadActed (.prefetch ch) false r.addr (strike r.addr upset s) t ∧
      (let c := look s.channels ch
      let p := look s.prefetch ch
      let q := look t.prefetch ch
      let asks := (c.mode = .running ∨ c.mode = .waiting) ∧ p.waiting = none ∧ q.fifo.length < 64
      (¬ asks ∨ p.next = none → q.waiting = p.waiting ∧ q.next = p.next) ∧
      ∀ pos e, asks → (currentEntry s ch).isSome →
        p.next.map (fun x => if x.place < p.play then ⟨p.play, c.entry, c.passes, c.phase / 16777216 / 4⟩ else x) =
          some pos → entryIn s ch pos.entry = some e →
        (BeyondPath s ch c.stop pos.place → q.waiting = none ∧ q.next = p.next) ∧
        (¬ BeyondPath s ch c.stop pos.place →
          q.waiting = some ⟨pos, e.segment, segmentBase s e.segment + pos.line⟩ ∧
          PlaceAfter (look s.tables ch).active e (segmentLength s e.segment) pos q.next))

/-- The check of an unmarked line (R139): with no wrong bit it is clean, with one wrong bit it is single-bit at that
position, with two it is double-bit; a clean line and a corrected one deliver the codes last written, the others
codes 0 and poisoned. -/
def Obligations.SingleErrorsAreCorrectedAndDoubleDetected : Prop :=
  ∀ (s : State) (a : Nat), (lineAt s a).mark = false → (∀ r ∈ s.marks, r.addr ≠ a) →
    ((lineAt s a).faults = 0#72 →
      classify s a = .checked .clean ∧ readDelivery s a = ⟨(lineAt s a).data, false⟩) ∧
    (∀ p : Fin 72, (lineAt s a).faults = BitVec.twoPow 72 p.val →
      classify s a = .checked (.single p) ∧ readDelivery s a = ⟨(lineAt s a).data, false⟩) ∧
    (∀ p q : Fin 72, p ≠ q → (lineAt s a).faults = BitVec.twoPow 72 p.val ||| BitVec.twoPow 72 q.val →
      classify s a = .checked .double ∧ readDelivery s a = ⟨0#64, true⟩)

/-- The end of a scrub read of a READY segment's line that nothing has upset since (R140, R141, R142, R145): nothing
more where the line is marked or clean; a logged CORRECTABLE error and a write-back offered where one bit is wrong; a
logged UNCORRECTABLE error and the line marked where two are. The write side presents its next request where it has
none (R143), a waiting write-back of a line now marked withdrawn (R147). With any upset and any owner the read acts as
R140's column of scrub reads says. -/
def Obligations.ScrubReadEndActsOnItsOutcome : Prop :=
  (∀ (a : Nat) (upset : LineBits) (s : State), s.arbiter.port = some (.scrub a) → a < 262144 →
    ∃ t : State, exec (.scrubReadEnd upset) s = .next t ∧ ReadActed .scrub false a (strike a upset s) t ∧
      t.store = (strike a upset s).store ∧ t.arbiter = { s.arbiter with port := none } ∧
      t.scrub = { s.scrub with request := none } ∧ t.channels = s.channels ∧ t.prefetch = s.prefetch) ∧
  ∀ (a : Nat) (id : SegId) (s : State),
    s.arbiter.port = some (.scrub a) → a < 262144 → ownerOf s a = some id →
    isReady (look s.slots id) = true → (look s.slots id).filling = false →
    let l := lineAt s a
    let ended := fun (t : State) => { t with
      arbiter := { s.arbiter with port := none }, scrub := { s.scrub with request := none } }
    (l.mark = true ∨ (∃ r ∈ s.marks, r.addr = a) ∨ l.faults = 0#72 →
      exec (.scrubReadEnd 0#72) s = .next { ended s with
        writeSide := writeSideAfter keepsAll s.marks s.writeBacks none s.writeSide }) ∧
    (∀ p : Fin 72, l.mark = false → (∀ r ∈ s.marks, r.addr ≠ a) → l.faults = BitVec.twoPow 72 p.val →
      let writeBacks := if (∃ r ∈ s.writeBacks, r.addr = a) ∨ 8 ≤ s.writeBacks.length then s.writeBacks
        else s.writeBacks ++ [⟨a, id, l.data⟩]
      exec (.scrubReadEnd 0#72) s = .next { ended s with
        log := countError .correctable (logRecord ⟨.correctable, .scrub, a, id, some p⟩ s.log)
        links := inBothSets .corrected s.links
        writeBacks := writeBacks
        writeSide := writeSideAfter keepsAll s.marks writeBacks none s.writeSide }) ∧
    (∀ p q : Fin 72, p ≠ q → l.mark = false → (∀ r ∈ s.marks, r.addr ≠ a) →
      l.faults = BitVec.twoPow 72 p.val ||| BitVec.twoPow 72 q.val →
      let full := 4 ≤ s.marks.length
      let marks := if full then s.marks else s.marks ++ [⟨a, id⟩]
      let writeBacks := if full then s.writeBacks else s.writeBacks.filter fun r => r.addr ≠ a
      exec (.scrubReadEnd 0#72) s = .next { ended s with
        log := countError .uncorrectable (logRecord ⟨.uncorrectable, .scrub, a, id, none⟩ s.log)
        links := inBothSets .uncorrectable s.links
        marks := marks
        slots := if full then s.slots else put s.slots id
          { look s.slots id with poisoned := min ((look s.slots id).poisoned + 1) 16384 }
        writeBacks := writeBacks
        writeSide := writeSideAfter (fun r => !full && isWriteBackOf a r) marks writeBacks none s.writeSide })

/-- The ends of the integrity unit's writes: a mark write sets its line's mark, leaves data and check bits, and takes
the record off the list (R143); a correction write-back stores its codes with fresh check bits and a clear mark
(R146). Every other line reads as before, the log, the counts and the queue stay, and the write side presents its next
request (R143). -/
def Obligations.MarkWritesAndWriteBacks : Prop :=
  ∀ s : State,
    (∀ r : MarkRecord, s.arbiter.port = some (.mark r) → r.addr < 262144 →
      ∃ t, exec .markWriteEnd s = .next t ∧ lineAt t r.addr = { lineAt s r.addr with mark := true } ∧
        (∀ b, b ≠ r.addr → lineAt t b = lineAt s b) ∧ t.marks = s.marks.filter (fun q => q.addr ≠ r.addr) ∧
        t.writeBacks = s.writeBacks ∧ t.slots = s.slots ∧ t.log = s.log ∧
        t.writeSide = writeSideAfter keepsAll t.marks s.writeBacks none s.writeSide ∧
        t.arbiter = { s.arbiter with port := none }) ∧
    (∀ r : WriteBack, s.arbiter.port = some (.writeBack r) → r.addr < 262144 →
      ∃ t, exec .writeBackEnd s = .next t ∧ lineAt t r.addr = ⟨r.data, 0#72, false⟩ ∧
        (∀ b, b ≠ r.addr → lineAt t b = lineAt s b) ∧ t.marks = s.marks ∧ t.writeBacks = s.writeBacks ∧
        t.writeSide = writeSideAfter keepsAll s.marks s.writeBacks none s.writeSide ∧
        t.slots = s.slots ∧ t.log = s.log ∧ t.arbiter = { s.arbiter with port := none })

/-- How an error enters the log (R153): the counter of its class, saturating, its flag in both links' sets, and the
four rows of the rule's table. -/
def Obligations.ErrorsEnterTheLog : Prop :=
  ∀ (r : ErrorRecord) (s : State), ∃ log : ErrorLog,
    logError r s = { s with
      log := log
      links := inBothSets (match r.cls with
        | .correctable => .corrected
        | .uncorrectable => .uncorrectable) s.links } ∧
    (r.cls = .correctable →
      log.correctable = min (s.log.correctable + 1) 65535 ∧ log.uncorrectable = s.log.uncorrectable) ∧
    (r.cls = .uncorrectable →
      log.uncorrectable = min (s.log.uncorrectable + 1) 65535 ∧ log.correctable = s.log.correctable) ∧
    (s.log.first = none → log.first = some r ∧ log.successors = s.log.successors) ∧
    ∀ f, s.log.first = some f →
      (f.cls = .correctable → r.cls = .uncorrectable →
        log.first = some r ∧ log.successors = s.log.successors ||| BitVec.twoPow 14 (sourceNumber f.source)) ∧
      (f.cls = .correctable → r.cls = .correctable →
        log.first = some f ∧ log.successors = s.log.successors ||| BitVec.twoPow 14 (sourceNumber r.source)) ∧
      (f.cls = .uncorrectable → log.first = some f ∧ log.successors =
        s.log.successors ||| BitVec.twoPow 14
          ((if r.cls = .correctable then 0 else 7) + sourceNumber r.source))

/-- One grant decision (R122, R124 to R127, R146): none while the port is busy or nothing waits; otherwise the first
class that has a request, within it the rule's choice, its pointer or record moved and no other. The grant of a link
write or zero-fill takes the line's record off the pending-mark list and withdraws its waiting mark write, and of a link
write of a marked line the owning segment's count falls by 1 (R3, R144; at the grant, log entry 11). -/
def Obligations.GrantsFollowTheClasses : Prop :=
  ∀ s : State,
    let urgent := fun ch : ChanId => (look s.prefetch ch).waiting.isSome ∧ (look s.prefetch ch).fifo.length < 16
    let calm := fun ch : ChanId => (look s.prefetch ch).waiting.isSome ∧ 16 ≤ (look s.prefetch ch).fifo.length
    (s.arbiter.port ≠ none → exec .storeGrant s = .next s) ∧
    (s.arbiter.port = none →
      (∀ (k : Fin 4) (r : PrefetchRequest), let ch := s.arbiter.urgentPtr + k
        urgent ch → (look s.prefetch ch).waiting = some r → (∀ j < k, ¬ urgent (s.arbiter.urgentPtr + j)) →
        exec .storeGrant s = .next { s with
          prefetch := put s.prefetch ch { look s.prefetch ch with waiting := none }
          arbiter := { s.arbiter with port := some (.prefetch ch r true), urgentPtr := ch + 1 } }) ∧
      ((∀ ch, ¬ urgent ch) →
        (∀ (n : LinkId) (x : LinkXfer), (look s.links n).request = some x →
          ((look s.links (otherLink n)).request = none ∨ s.arbiter.lastLink = otherLink n) →
          ∃ t, exec .storeGrant s = .next t ∧
            t.arbiter = { s.arbiter with port := some (.link n x true), lastLink := n } ∧
            look t.links n = { look s.links n with request := none } ∧
            look t.links (otherLink n) = look s.links (otherLink n) ∧ t.prefetch = s.prefetch ∧
            t.store = s.store ∧ t.scrub = s.scrub ∧ t.writeBacks = s.writeBacks ∧
            t.marks = (match x with
              | .zeroWrite a => s.marks.filter fun r => r.addr ≠ a
              | .lineWrite a _ => s.marks.filter fun r => r.addr ≠ a
              | _ => s.marks) ∧
            t.writeSide = (match x with
              | .zeroWrite a => writeSideAfter (isMarkOf a) t.marks s.writeBacks none s.writeSide
              | .lineWrite a _ => writeSideAfter (isMarkOf a) t.marks s.writeBacks none s.writeSide
              | _ => s.writeSide) ∧
            (∀ id : SegId, look t.slots id = { look s.slots id with
              poisoned := (look s.slots id).poisoned - (match x with
                | .lineWrite a _ => if ownerOf s a = some id ∧
                    ((lineAt s a).mark = true ∨ ∃ r ∈ s.marks, r.addr = a) then 1 else 0
                | _ => 0) }) ∧
            t = { s with links := t.links, arbiter := t.arbiter, marks := t.marks, slots := t.slots,
                         writeSide := t.writeSide }) ∧
        ((∀ n : LinkId, (look s.links n).request = none) →
          (∀ (k : Fin 4) (r : PrefetchRequest), let ch := s.arbiter.calmPtr + k
            calm ch → (look s.prefetch ch).waiting = some r → (∀ j < k, ¬ calm (s.arbiter.calmPtr + j)) →
            exec .storeGrant s = .next { s with
              prefetch := put s.prefetch ch { look s.prefetch ch with waiting := none }
              arbiter := { s.arbiter with port := some (.prefetch ch r true), calmPtr := ch + 1 } }) ∧
          ((∀ ch, ¬ calm ch) →
            (∀ a, s.scrub.request = some a → (s.writeSide = none ∨ s.arbiter.lastClass4 = .writeSide) →
              exec .storeGrant s = .next { s with
                arbiter := { s.arbiter with port := some (.scrub a), lastClass4 := .scrubber } }) ∧
            ((s.scrub.request = none ∨ s.arbiter.lastClass4 = .scrubber) →
              (∀ r, s.writeSide = some (.mark r) → exec .storeGrant s = .next { s with
                writeSide := none
                arbiter := { s.arbiter with port := some (.mark r), lastClass4 := .writeSide } }) ∧
              (∀ r, s.writeSide = some (.writeBack r) → exec .storeGrant s = .next { s with
                writeSide := none
                writeBacks := s.writeBacks.filter fun q => q.addr ≠ r.addr
                arbiter := { s.arbiter with port := some (.writeBack r), lastClass4 := .writeSide } })) ∧
            (s.scrub.request = none → s.writeSide = none → exec .storeGrant s = .next s)))))

/-- The sample store's frame (R139, R122): no command but the end of a store transfer and a power-on reset changes a
line; the end of a transfer changes no line but its own, and with no transfer on the port nothing at all (the model's
choice, log entry 5); and the end of a read that nothing has upset changes no line. -/
def Obligations.OnlyTransferEndsChangeTheStore : Prop :=
  ∀ (c : Instr) (s t : State), exec c s = .next t →
    (c.endsTransfer = false → (∀ selected, c ≠ .powerOnReset selected) → ∀ a, lineAt t a = lineAt s a) ∧
    (c.endsTransfer = true → s.arbiter.port = none → t = s) ∧
    (c.endsTransfer = true → ∀ x ∈ s.arbiter.port, ∀ a, a ≠ x.addr → lineAt t a = lineAt s a) ∧
    (c = .readSamplesLineEnd 0#72 ∨ c = .prefetchReadEnd 0#72 ∨ c = .scrubReadEnd 0#72 →
      ∀ a, lineAt t a = lineAt s a)

/-! ### Sequence tables -/

/-- An accepted WRITE_ENTRY (R26, R28, R29, R30): the staged slot holds the entry, a step override written as 0 stored
as 1 and one above 16,777,216 as 16,777,216; the link is the editor, and of the reference counts exactly those of the
segment named before and the one named now move; count, end action, ACTIVE bank and the channel stay. What stands in
the record after an absent indicator (`skipped`) is not examined (R178). -/
def Obligations.WriteEntrySetsTheStagedSlot : Prop :=
  ∀ (n : LinkId) (tag : Byte) (ch : ChanId) (x : SlotIx) (e : Entry) (skipped : List Byte) (s : State),
    skipped.length = 7 →
    Takes s n → (look s.channels ch).commit = none → (look s.tables ch).editor ≠ some (otherLink n) →
    isReady (look s.slots e.segment) = true → e.repeats < 65536 → (∀ st ∈ e.step, st < 4294967296) →
    let stored := { e with step := e.step.map fun st => if st = 0 then 1 else min st 16777216 }
    let record := [oneByte e.segment.val] ++ leBytes 2 e.repeats ++
      [unitByte e.gate, boolByte (e.waitLevel = .park), oneByte e.markers.toNat] ++
      (match e.jump with
        | none => 0#8 :: skipped.take 3
        | some j => [1#8, oneByte j.cond.val, boolByte (j.timing = .atPassEnd), oneByte j.target.val]) ++
      (match e.step with
        | none => 0#8 :: skipped.drop 3
        | some st => 1#8 :: leBytes 4 st)
    let old := (look (look s.tables ch).staged.slots x).map Entry.segment
    ∃ slots : Vector Slot 256,
      exec (.writeEntry n tag (oneByte ch.val :: oneByte x.val :: record)) s = .next { s with
        slots := slots
        tables := put s.tables ch { look s.tables ch with
          editor := some n
          staged := { (look s.tables ch).staged with slots := put (look s.tables ch).staged.slots x (some stored) } }
        links := answered n 17 tag .ok [] s.links } ∧
      ∀ id, look slots id = { look s.slots id with
        refCount := if old = some e.segment then (look s.slots id).refCount
          else (look s.slots id).refCount - (if old = some id then 1 else 0) + (if id = e.segment then 1 else 0) }

/-- Accepted CLEAR_ENTRY and SET_TABLE_END (R28, R31, R32): the slot is EMPTY and its segment's count falls by 1, or
the staged count and end action are set and no count moves; the link is the editor. -/
def Obligations.ClearEntryAndSetTableEnd : Prop :=
  ∀ (n : LinkId) (tag : Byte) (ch : ChanId) (s : State),
    Takes s n → (look s.channels ch).commit = none → (look s.tables ch).editor ≠ some (otherLink n) →
    (∀ x : SlotIx, let old := (look (look s.tables ch).staged.slots x).map Entry.segment
      ∃ slots : Vector Slot 256,
        exec (.clearEntry n tag [oneByte ch.val, oneByte x.val]) s = .next { s with
          slots := slots
          tables := put s.tables ch { look s.tables ch with
            editor := some n
            staged := { (look s.tables ch).staged with slots := put (look s.tables ch).staged.slots x none } }
          links := answered n 2 tag .ok [] s.links } ∧
        ∀ id, look slots id = { look s.slots id with
          refCount := (look s.slots id).refCount - (if old = some id then 1 else 0) }) ∧
    (∀ (count : Fin 65) (index : Byte),
      exec (.setTableEnd n tag [oneByte ch.val, oneByte count.val, 0#8, index]) s = .next { s with
        tables := put s.tables ch { look s.tables ch with
          editor := some n
          staged := { (look s.tables ch).staged with count := count.val, endAction := .stop } }
        links := answered n 4 tag .ok [] s.links }) ∧
    ∀ (count : Fin 65) (index : SlotIx),
      exec (.setTableEnd n tag [oneByte ch.val, oneByte count.val, 1#8, oneByte index.val]) s = .next { s with
        tables := put s.tables ch { look s.tables ch with
          editor := some n
          staged := { (look s.tables ch).staged with count := count.val, endAction := .loop index } }
        links := answered n 4 tag .ok [] s.links }

/-- The refusals of the table commands (R25, R26, R29, R30, R31, R32, R34, R39, R41, R42, R43): OUT_OF_RANGE for a
channel outside 0..3 and for an index, a count, an end action, a point or a bank outside its values, then
COMMIT_PENDING while a commit is pending, then STAGED_BUSY for the link that is not the editor, and of a WRITE_ENTRY
OUT_OF_RANGE for an entry with a gate, wait level, markers byte, jump field or presence byte outside its values, then
NO_SEGMENT for an entry whose segment is not READY. A refusal changes nothing but the link's own record. -/
def Obligations.StagedBankCommandsAreRefused : Prop :=
  ∀ (n : LinkId) (tag : Byte) (s : State), Takes s n →
    let refused := fun (c : Instr) (len : Nat) (status : Status) =>
      exec c s = .next { s with links := answered n len tag status [] s.links }
    (∀ (ch : ChanId) (x : SlotIx) (record : List Byte) (count : Fin 65) (index target : SlotIx) (point : Bool),
      record.length = 15 →
      let all := fun status : Status =>
        refused (.writeEntry n tag (oneByte ch.val :: oneByte x.val :: record)) 17 status ∧
        refused (.clearEntry n tag [oneByte ch.val, oneByte x.val]) 2 status ∧
        refused (.setTableEnd n tag [oneByte ch.val, oneByte count.val, 1#8, oneByte index.val]) 4 status ∧
        refused (.commitTable n tag [oneByte ch.val, boolByte point, oneByte target.val]) 3 status ∧
        refused (.discardStaged n tag [oneByte ch.val]) 1 status
      ((look s.channels ch).commit.isSome → all .commitPending) ∧
      ((look s.channels ch).commit = none → (look s.tables ch).editor = some (otherLink n) → all .stagedBusy)) ∧
    (∀ (ch a b c : Byte) (record : List Byte), record.length = 15 →
      (4 ≤ ch.toNat ∨ 64 ≤ a.toNat →
        refused (.writeEntry n tag (ch :: a :: record)) 17 .outOfRange ∧
        refused (.clearEntry n tag [ch, a]) 2 .outOfRange) ∧
      (4 ≤ ch.toNat ∨ 65 ≤ a.toNat ∨ 2 ≤ b.toNat ∨ (b = 1#8 ∧ 64 ≤ c.toNat) →
        refused (.setTableEnd n tag [ch, a, b, c]) 4 .outOfRange) ∧
      (4 ≤ ch.toNat ∨ 2 ≤ a.toNat ∨ 64 ≤ b.toNat →
        refused (.commitTable n tag [ch, a, b]) 3 .outOfRange ∧
        refused (.readEntry n tag [ch, a, b]) 3 .outOfRange) ∧
      (4 ≤ ch.toNat →
        refused (.cancelCommit n tag [ch]) 1 .outOfRange ∧
        refused (.discardStaged n tag [ch]) 1 .outOfRange ∧
        refused (.tableStatus n tag [ch]) 1 .outOfRange)) ∧
    (∀ (ch : ChanId) (x : SlotIx) (record : List Byte), record.length = 15 →
      (look s.channels ch).commit = none → (look s.tables ch).editor ≠ some (otherLink n) →
      let at' := fun i : Nat => (record.getD i 0#8).toNat
      (5 ≤ at' 3 ∨ 2 ≤ at' 4 ∨ 16 ≤ at' 5 ∨ 2 ≤ at' 6 ∨
        (at' 6 = 1 ∧ (4 ≤ at' 7 ∨ 2 ≤ at' 8 ∨ 64 ≤ at' 9)) ∨ 2 ≤ at' 10) →
      refused (.writeEntry n tag (oneByte ch.val :: oneByte x.val :: record)) 17 .outOfRange) ∧
    (∀ (ch : ChanId) (x : SlotIx) (e : Entry), (look s.channels ch).commit = none →
      (look s.tables ch).editor ≠ some (otherLink n) → isReady (look s.slots e.segment) = false →
      refused (.writeEntry n tag (oneByte ch.val :: oneByte x.val :: entryRecord e)) 17 .noSegment)

/-- Validation (R35) accepts exactly the banks whose count is at least 1, whose slots below the count are filled with
jump targets below the count, whose loop index and whose commit target are below the count. The first check that fails
is the reason carried: NO_ENTRIES of an empty bank; EMPTY_SLOT or JUMP_TARGET with the lowest bad slot; then LOOP_INDEX
with the loop index; then COMMIT_TARGET with the target. -/
def Obligations.ValidationAcceptsExactlyPlayableBanks : Prop :=
  ∀ (b : Bank) (target : SlotIx), b.count ≤ 64 →
    (validate b target = none ↔
      1 ≤ b.count ∧
      (∀ x : SlotIx, x.val < b.count →
        ∃ e, look b.slots x = some e ∧ ∀ j ∈ e.jump, j.target.val < b.count) ∧
      (∀ i, b.endAction = .loop i → i.val < b.count) ∧ target.val < b.count) ∧
    (b.count = 0 → validate b target = some (0, 0)) ∧
    (∀ x : SlotIx, x.val < b.count →
      (∀ y : SlotIx, y < x → ∃ e, look b.slots y = some e ∧ ∀ j ∈ e.jump, j.target.val < b.count) →
      (look b.slots x = none → validate b target = some (1, x.val)) ∧
      (∀ e, look b.slots x = some e → ∀ j ∈ e.jump, b.count ≤ j.target.val → validate b target = some (2, x.val))) ∧
    (1 ≤ b.count →
      (∀ x : SlotIx, x.val < b.count → ∃ e, look b.slots x = some e ∧ ∀ j ∈ e.jump, j.target.val < b.count) →
      (∀ i, b.endAction = .loop i → b.count ≤ i.val → validate b target = some (3, i.val)) ∧
      ((∀ i, b.endAction = .loop i → i.val < b.count) → b.count ≤ target.val →
        validate b target = some (4, target.val)))

/-- An accepted COMMIT_TABLE (R34 to R38, R64): on an IDLE channel, or on a WAITING one with AT_ENTRY_END, the banks are
swapped at acceptance and the response is TAKEN; a WAITING channel then begins the target at phase 0.0 on a flushed
FIFO. Otherwise the commit is recorded and the response is PENDING. The editor is absent in every case. A STAGED bank
that validation finds faulty is refused INVALID_TABLE with the reason and the index. -/
def Obligations.CommitIsTakenOrHeld : Prop :=
  ∀ (n : LinkId) (tag : Byte) (ch : ChanId) (late : Bool) (target : SlotIx) (s : State),
    Takes s n → (look s.channels ch).commit = none → (look s.tables ch).editor ≠ some (otherLink n) →
    let c := look s.channels ch
    let t := look s.tables ch
    let done := exec (.commitTable n tag [oneByte ch.val, boolByte late, oneByte target.val]) s
    let taken := inBothSets (.commitTaken ch) s.links
    (∀ reason index, validate t.staged target = some (reason, index) →
      done = .next { s with links := answered n 3 tag .invalidTable [oneByte reason, oneByte index] s.links }) ∧
    (validate t.staged target = none →
      (c.mode = .idle → done = .next { s with
        tables := put s.tables ch (swapped t)
        links := answered n 3 tag .taken [] taken }) ∧
      (c.mode = .running ∨ c.mode = .halted ∨ (c.mode = .waiting ∧ late = true) → done = .next { s with
        tables := put s.tables ch { t with editor := none }
        channels := put s.channels ch { c with
          commit := some ⟨if late then .atTableEnd else .atEntryEnd, target⟩ }
        links := answered n 3 tag .pending [] s.links }) ∧
      (c.mode = .waiting → late = false → c.stop = none →
        let e := look t.staged.slots target
        let gated := (e.bind Entry.gate).isSome
        ∃ (p : Prefetch) (port : Option Transfer), done = .next { s with
          tables := put s.tables ch (swapped t)
          channels := put s.channels ch { c with
            mode := if gated then .waiting else .running
            entry := target
            passes := 0
            armed := none
            phase := 0
            currentStep := (e.bind Entry.step).getD c.defaultStep
            passClipped := false
            underrunEpisode := !gated && c.underrunEpisode }
          prefetch := put s.prefetch ch p
          arbiter := { s.arbiter with port := port }
          links := answered n 3 tag .taken [] (if gated then inBothSets (.waitBegan ch) taken else taken) } ∧
        p.fifo = [] ∧ p.play = 0 ∧ port.map Transfer.addr = s.arbiter.port.map Transfer.addr ∧
        (prefetchInTransfer s ch = false → p.waiting = e.map fun x =>
          ⟨⟨0, target, 0, 0⟩, x.segment, segmentBase s x.segment⟩)))

/-- CANCEL_COMMIT (R40) removes a pending commit and nothing else, or is refused NOT_PENDING. An accepted DISCARD_STAGED
(R28, R41) makes the STAGED bank a copy of the ACTIVE one with the editor absent; under the reference-count law each
segment's count moves by what the copy names more or less of it. -/
def Obligations.CancelCommitAndDiscardStaged : Prop :=
  ∀ (n : LinkId) (tag : Byte) (ch : ChanId) (s : State), Takes s n →
    let c := look s.channels ch
    let t := look s.tables ch
    (∀ k, c.commit = some k → exec (.cancelCommit n tag [oneByte ch.val]) s = .next { s with
      channels := put s.channels ch { c with commit := none }
      links := answered n 1 tag .ok [] s.links }) ∧
    (c.commit = none → exec (.cancelCommit n tag [oneByte ch.val]) s =
      .next { s with links := answered n 1 tag .notPending [] s.links }) ∧
    (c.commit = none → t.editor ≠ some (otherLink n) → ∃ slots : Vector Slot 256,
      exec (.discardStaged n tag [oneByte ch.val]) s = .next { s with
        slots := slots
        tables := put s.tables ch { t with staged := t.active, editor := none }
        links := answered n 1 tag .ok [] s.links } ∧
      ∀ id, look slots id = { look s.slots id with refCount := (look slots id).refCount } ∧
        (RefLaw s → (look slots id).refCount =
          (look s.slots id).refCount + bankRefs t.active id - bankRefs t.staged id))

/-- READ_ENTRY, TABLE_STATUS, CHANNEL_STATUS and CHANNEL_SETTINGS answer OK from either link in any channel state with
the record as it stands at acceptance, laid out as spec 10 section 10.7.2 says (R42, R43, R69, R91); the counters are
cleared after they are reported when that is asked, and nothing else changes. A channel outside 0..3 is OUT_OF_RANGE,
and so is an undefined clear byte (log entry 16). -/
def Obligations.TableAndChannelReports : Prop :=
  ∀ (n : LinkId) (tag : Byte) (ch : ChanId) (s : State), Takes s n →
    let refused := fun (i : Instr) (len : Nat) =>
      exec i s = .next { s with links := answered n len tag .outOfRange [] s.links }
    (∀ a b : Byte, (4 ≤ a.toNat ∨ 2 ≤ b.toNat → refused (.channelStatus n tag [a, b]) 2) ∧
      (4 ≤ a.toNat → refused (.channelSettings n tag [a]) 1)) ∧
    let c := look s.channels ch
    let t := look s.tables ch
    let f := look s.prefetch ch
    let told := fun (i : Instr) (len : Nat) (report : List Byte) =>
      exec i s = .next { s with links := answered n len tag .ok report s.links }
    let bank := fun b : Bank => [oneByte b.count] ++ (match b.endAction with
      | .stop => [0#8, 0#8]
      | .loop i => [1#8, oneByte i.val]) ++ [oneByte ((List.finRange 64).countP fun i => (look b.slots i).isSome)]
    let commit := (match c.commit with
      | none => [0#8, 0#8, 0#8]
      | some k => [1#8, boolByte (k.point = .atTableEnd), oneByte k.target.val])
    let status := [modeByte c.mode, oneByte c.entry.val] ++ leBytes 2 c.passes ++ leBytes 3 (c.phase / 16777216) ++
      leBytes 3 (c.phase % 16777216) ++ (match c.armed with
        | none => [0#8, 0#8]
        | some x => [1#8, oneByte x.val]) ++ [stopByte c.stop] ++ commit ++
      [boolByte c.pendingScale.isSome, boolByte c.pendingRate.isSome, oneByte f.fifo.length,
        boolByte (f.fifo.length < 16)] ++ leBytes 2 c.clips ++ leBytes 4 c.underruns ++ leBytes 4 c.substitutions
    (∀ (staged : Bool) (x : SlotIx),
      let entry := look (if staged then t.staged else t.active).slots x
      (entry = none →
        told (.readEntry n tag [oneByte ch.val, boolByte staged, oneByte x.val]) 3 (List.replicate 16 0#8)) ∧
      ∀ e, entry = some e → told (.readEntry n tag [oneByte ch.val, boolByte staged, oneByte x.val]) 3
        ([1#8, oneByte e.segment.val] ++ leBytes 2 e.repeats ++
          [unitByte e.gate, boolByte (e.waitLevel = .park), oneByte e.markers.toNat] ++
          (match e.jump with
            | none => List.replicate 4 0#8
            | some j => [1#8, oneByte j.cond.val, boolByte (j.timing = .atPassEnd), oneByte j.target.val]) ++
          (match e.step with
            | none => List.replicate 5 0#8
            | some st => 1#8 :: leBytes 4 st))) ∧
    told (.tableStatus n tag [oneByte ch.val]) 1
      (bank t.active ++ bank t.staged ++ [linkByte t.editor] ++ commit ++ leBytes 2 t.swaps.toNat) ∧
    told (.channelStatus n tag [oneByte ch.val, 0#8]) 2 status ∧
    exec (.channelStatus n tag [oneByte ch.val, 1#8]) s = .next { s with
      channels := put s.channels ch { c with clips := 0, underruns := 0, substitutions := 0 }
      links := answered n 2 tag .ok status s.links } ∧
    told (.channelSettings n tag [oneByte ch.val]) 1
      ([boolByte (c.interpolation = .nearest), unitByte c.sumSource] ++ leBytes 2 c.park.toNat ++
        [boolByte c.haltOnLoss] ++ leBytes 4 c.defaultStep ++ leBytes 4 c.currentStep ++
        leBytes 2 c.scale.gain.toNat ++ leBytes 2 c.scale.offset.toNat ++
        (match c.pendingScale with
          | none => List.replicate 5 0#8
          | some x => 1#8 :: (leBytes 2 x.gain.toNat ++ leBytes 2 x.offset.toNat)) ++
        (match c.pendingRate with
          | none => List.replicate 5 0#8
          | some r => 1#8 :: leBytes 4 r) ++
        leBytes 2 c.last.toNat ++ [boolByte c.clipEpisode, boolByte c.underrunEpisode])

/-! ### Channels -/

/-- An accepted START (R48, R49, R50, R115, R116, R134): every channel of the set begins the entry at phase 0.0 on a
flushed FIFO with its played pattern low and STARTED set, its last code the park code (R47, R82; log entry 29), its
PASS_TOGGLE pins at their initial level, and its path's place 0 asked for where no read of it is in transfer; the
channels outside the set stay as they were. -/
def Obligations.StartBeginsEveryChannelOfTheSet : Prop :=
  ∀ (n : LinkId) (tag : Byte) (set : BitVec 4) (x : SlotIx) (s : State),
    Takes s n → PendingLaw s → set ≠ 0#4 →
    (∀ ch : ChanId, set.getLsbD ch.val = true → (look s.channels ch).mode = .idle ∧
      x.val < (look s.tables ch).active.count ∧
      ((look s.channels ch).haltOnLoss = true → s.monitor.locked = true)) →
    let entry := fun ch : ChanId => look (look s.tables ch).active.slots x
    let gated := fun ch : ChanId => ((entry ch).bind Entry.gate).isSome
    ∃ t : State, exec (.start n tag [oneByte set.toNat, oneByte x.val]) s = .next t ∧
      t = { s with channels := t.channels, prefetch := t.prefetch, patterns := t.patterns, pins := t.pins,
                   links := t.links, arbiter := { s.arbiter with port := t.arbiter.port } } ∧
      t.arbiter.port.map Transfer.addr = s.arbiter.port.map Transfer.addr ∧
      (∀ ch : ChanId,
        (set.getLsbD ch.val = false → look t.channels ch = look s.channels ch ∧
          look t.prefetch ch = look s.prefetch ch ∧ look t.patterns ch = look s.patterns ch) ∧
        (set.getLsbD ch.val = true →
          (let c := look s.channels ch
          look t.channels ch = { c with
            mode := if gated ch then .waiting else .running
            entry := x
            passes := 0
            armed := none
            phase := 0
            currentStep := ((entry ch).bind Entry.step).getD c.defaultStep
            last := c.park
            passClipped := false
            underrunEpisode := !gated ch && c.underrunEpisode }) ∧
          (look t.prefetch ch).fifo = [] ∧ (look t.prefetch ch).play = 0 ∧ look t.patterns ch = 0#4 ∧
          (prefetchInTransfer s ch = false → (look t.prefetch ch).waiting = (entry ch).map fun e =>
            ⟨⟨0, x, 0, 0⟩, e.segment, segmentBase s e.segment⟩))) ∧
      (∀ i : PinId,
        look t.pins i = match (look s.pins i).source with
          | .passToggle ch initial =>
            if set.getLsbD ch.val then { look s.pins i with toggle := initial } else look s.pins i
          | _ => look s.pins i) ∧
      (∀ m : LinkId, look t.links m = { look s.links m with
        phase := if m = n then .holding ⟨tag, .ok, []⟩ else (look s.links m).phase
        sdo := if m = n then List.replicate 7 0#8 else (look s.links m).sdo
        flags := (look t.links m).flags }) ∧
      ∀ (m : LinkId) (p : Nat), (look t.links m).flags.getLsbD p = true ↔
        (look s.links m).flags.getLsbD p = true ∨ (m = n ∧ p = 38) ∨
          ∃ ch : ChanId, set.getLsbD ch.val = true ∧ (p = 7 * ch.val ∨ (gated ch = true ∧ p = 7 * ch.val + 2))

/-- START is all-or-nothing (R49): the first check that any channel of the set fails decides the status, the lowest
channel that fails it is carried, and no channel changes. An empty set, a set byte above 15 or an index above 63 is
OUT_OF_RANGE, of a START and so of a STOP with a mode none of the three (R51). -/
def Obligations.StartIsAllOrNothing : Prop :=
  ∀ (n : LinkId) (tag : Byte) (s : State), Takes s n →
    let refused := fun (c : Instr) (status : Status) (payload : List Byte) =>
      exec c s = .next { s with links := answered n 2 tag status payload s.links }
    let busy := fun ch : ChanId => (look s.channels ch).mode ≠ .idle
    let empty := fun ch : ChanId => (look s.tables ch).active.count = 0
    let beyond := fun (x : SlotIx) (ch : ChanId) => (look s.tables ch).active.count ≤ x.val
    let noClock := fun ch : ChanId => (look s.channels ch).haltOnLoss = true ∧ s.monitor.locked = false
    (∀ a b : Byte, a = 0#8 ∨ 16 ≤ a.toNat ∨ 64 ≤ b.toNat → refused (.start n tag [a, b]) .outOfRange []) ∧
    (∀ a b : Byte, a = 0#8 ∨ 16 ≤ a.toNat ∨ 3 ≤ b.toNat → refused (.stop n tag [a, b]) .outOfRange []) ∧
    ∀ (set : BitVec 4) (x : SlotIx) (ch : ChanId), set.getLsbD ch.val = true →
      let lowest := fun fails : ChanId → Prop => fails ch ∧ ∀ j < ch, set.getLsbD j.val = true → ¬ fails j
      let none' := fun fails : ChanId → Prop => ∀ j : ChanId, set.getLsbD j.val = true → ¬ fails j
      let start := Instr.start n tag [oneByte set.toNat, oneByte x.val]
      (lowest busy → refused start .wrongState [oneByte ch.val]) ∧
      (none' busy → lowest empty → refused start .emptyTable [oneByte ch.val]) ∧
      (none' busy → none' empty → lowest (beyond x) → refused start .outOfRange [oneByte ch.val]) ∧
      (none' busy → none' empty → none' (beyond x) → lowest noClock → refused start .noClock [oneByte ch.val])

/-- An accepted STOP treats each channel of its set by its state (R51, R58): no effect on an IDLE one; a WAITING or
HALTED one enters IDLE, its pending scale, rate and commit disposed of and ENDED set, its current step kept (log entry
13); a RUNNING one holds the pending stop in place of any other, and its waiting prefetch request is withdrawn where it
lies past the path's new end (R130). -/
def Obligations.StopActsByState : Prop :=
  ∀ (n : LinkId) (tag : Byte) (set : BitVec 4) (mode : StopMode) (s : State),
    Takes s n → set ≠ 0#4 →
    let b := (match mode with
      | .immediate => 0#8
      | .atPassEnd => 1#8
      | .atEntryEnd => 2#8)
    let ends := fun ch : ChanId => set.getLsbD ch.val = true ∧
      ((look s.channels ch).mode = .waiting ∨ (look s.channels ch).mode = .halted)
    ∃ t : State, exec (.stop n tag [oneByte set.toNat, b]) s = .next t ∧
      t = { s with channels := t.channels, tables := t.tables, prefetch := t.prefetch, patterns := t.patterns,
                   links := t.links, arbiter := { s.arbiter with port := t.arbiter.port } } ∧
      t.arbiter.port.map Transfer.addr = s.arbiter.port.map Transfer.addr ∧
      (∀ ch : ChanId, let c := look s.channels ch
        (set.getLsbD ch.val = false ∨ c.mode = .idle →
          look t.channels ch = c ∧ look t.tables ch = look s.tables ch ∧
          look t.prefetch ch = look s.prefetch ch ∧ look t.patterns ch = look s.patterns ch) ∧
        (ends ch →
          look t.channels ch = { c with
            mode := .idle
            stop := none
            armed := none
            commit := none
            scale := c.pendingScale.getD c.scale
            pendingScale := none
            defaultStep := c.pendingRate.getD c.defaultStep
            pendingRate := none
            underrunEpisode := false } ∧
          look t.tables ch = (if c.commit.isSome then swapped (look s.tables ch) else look s.tables ch) ∧
          (look t.prefetch ch).fifo = [] ∧ (look t.prefetch ch).waiting = none ∧ look t.patterns ch = 0#4) ∧
        (set.getLsbD ch.val = true → c.mode = .running →
          look t.channels ch = { c with stop := some mode } ∧ look t.tables ch = look s.tables ch ∧
          (look t.prefetch ch).fifo = (look s.prefetch ch).fifo ∧ look t.patterns ch = look s.patterns ch ∧
          (look t.prefetch ch).play = (look s.prefetch ch).play ∧
          ∀ r, (look s.prefetch ch).waiting = some r → (currentEntry s ch).isSome →
            (BeyondPath s ch (some mode) r.pos.place → (look t.prefetch ch).waiting = none ∧
              (look t.prefetch ch).next = some r.pos) ∧
            (¬ BeyondPath s ch (some mode) r.pos.place → look t.prefetch ch = look s.prefetch ch))) ∧
      (∀ m : LinkId, look t.links m = { look s.links m with
        phase := if m = n then .holding ⟨tag, .ok, []⟩ else (look s.links m).phase
        sdo := if m = n then List.replicate 7 0#8 else (look s.links m).sdo
        flags := (look t.links m).flags }) ∧
      ∀ (m : LinkId) (p : Nat), (look t.links m).flags.getLsbD p = true ↔
        (look s.links m).flags.getLsbD p = true ∨ (m = n ∧ p = 38) ∨
          ∃ ch : ChanId, ends ch ∧ (p = 7 * ch.val + 1 ∨ ((look s.channels ch).commit.isSome ∧ p = 7 * ch.val + 3))

/-- SET_SCALE, SET_RATE and SET_CHANNEL_CONFIG (R73, R86, R87, R90): set at once or held for the next pass end by the
channel's state and the timing, a held update replaced and an immediate one removing it; a step stored within
1..16,777,216 and carried in the response; the configuration only of an IDLE channel and never its own sum source. A
channel outside 0..3, an undefined timing, interpolation or sum source is OUT_OF_RANGE, and so is an undefined
halt-on-loss byte (log entry 16). -/
def Obligations.ScaleRateAndConfigurationUpdates : Prop :=
  ∀ (n : LinkId) (tag : Byte) (ch : ChanId) (s : State), Takes s n →
    let c := look s.channels ch
    let waits := fun held : Bool => c.mode = .halted ∨ (held = true ∧ c.mode ≠ .idle)
    let refused := fun i : Instr => exec i s = .next { s with links := answered n 6 tag .outOfRange [] s.links }
    (∀ (a w : Byte) (value : List Byte), value.length = 4 → 4 ≤ a.toNat ∨ 2 ≤ w.toNat →
      refused (.setScale n tag (a :: (value ++ [w]))) ∧ refused (.setRate n tag (a :: (value ++ [w])))) ∧
    (∀ a interpolation source low high halt : Byte,
      4 ≤ a.toNat ∨ 2 ≤ interpolation.toNat ∨ 5 ≤ source.toNat ∨ 2 ≤ halt.toNat →
      refused (.setChannelConfig n tag [a, interpolation, source, low, high, halt])) ∧
    (∀ (gain offset : BitVec 16) (held : Bool),
      exec (.setScale n tag (oneByte ch.val :: (leBytes 2 gain.toNat ++ leBytes 2 offset.toNat ++ [boolByte held]))) s =
        .next { s with
          channels := put s.channels ch (if waits held then { c with pendingScale := some ⟨gain, offset⟩ }
            else { c with scale := ⟨gain, offset⟩, pendingScale := none })
          links := answered n 6 tag .ok [] s.links }) ∧
    (∀ (field : Nat) (held : Bool), field < 4294967296 →
      let step := if field = 0 then 1 else min field 16777216
      let override := ((look (look s.tables ch).active.slots c.entry).bind Entry.step)
      exec (.setRate n tag (oneByte ch.val :: (leBytes 4 field ++ [boolByte held]))) s = .next { s with
        channels := put s.channels ch (
          if waits held then { c with pendingRate := some step }
          else if c.mode = .idle then { c with defaultStep := step, pendingRate := none }
          else { c with defaultStep := step, currentStep := override.getD step, pendingRate := none })
        links := answered n 6 tag .ok (leBytes 4 step) s.links }) ∧
    (∀ (nearest halt : Bool) (source : Option ChanId) (park : Code),
      let done := exec (.setChannelConfig n tag ([oneByte ch.val, boolByte nearest, unitByte source] ++
        leBytes 2 park.toNat ++ [boolByte halt])) s
      (source = some ch → done = .next { s with links := answered n 6 tag .outOfRange [] s.links }) ∧
      (source ≠ some ch → c.mode ≠ .idle →
        done = .next { s with links := answered n 6 tag .channelRunning [] s.links }) ∧
      (source ≠ some ch → c.mode = .idle → done = .next { s with
        channels := put s.channels ch { c with
          interpolation := if nearest then .nearest else .linear
          sumSource := source
          park := park
          haltOnLoss := halt }
        links := answered n 6 tag .ok [] s.links }))

/-! ### The output tick -/

/-- One output tick completes (R47, R93, R94, R112, R158): every port path and marker path moves one place and its
oldest place is presented, the sampled pins enter the delay line and its oldest place and the last tick's pass-end
pulses are seen, and the edge is counted. No segment, store line, mark, write-back, scrub or error record changes, each
channel's tables stay or are swapped, and the links change in their flags only, none of which is cleared. An IDLE or
HALTED channel hands over its park code and changes in nothing else, nor in its flags. -/
def Obligations.OutputTickMovesEveryPath : Prop :=
  ∀ (levels : BitVec 8) (s : State), ∃ t : State,
    exec (.outputTick levels) s = .next t ∧
    t = { s with tables := t.tables, channels := t.channels, prefetch := t.prefetch, trigger := t.trigger,
                 pins := t.pins, patterns := t.patterns, links := t.links,
                 arbiter := { s.arbiter with port := t.arbiter.port },
                 monitor := { s.monitor with edges := min (s.monitor.edges + 1) 65535 } } ∧
    t.arbiter.port.map Transfer.addr = s.arbiter.port.map Transfer.addr ∧
    t.trigger.delay = levels :: s.trigger.delay.dropLast ∧
    t.trigger.seen = s.trigger.pulses ++ s.trigger.delay.getLastD 0#8 ∧
    (∀ ch : ChanId,
      (look t.channels ch).presented = (look s.channels ch).path.getLastD 0#16 ∧
      (look t.channels ch).path = (look t.channels ch).last :: (look s.channels ch).path.dropLast ∧
      (look t.tables ch = look s.tables ch ∨ look t.tables ch = swapped (look s.tables ch)) ∧
      ((look s.channels ch).mode = .idle ∨ (look s.channels ch).mode = .halted →
        look t.channels ch = { look s.channels ch with
          last := (look s.channels ch).park, presented := (look t.channels ch).presented
          path := (look t.channels ch).path } ∧
        look t.tables ch = look s.tables ch ∧ look t.prefetch ch = look s.prefetch ch ∧
        look t.patterns ch = look s.patterns ch ∧ FlagsKept ch s t)) ∧
    (∀ i : PinId,
      (look t.pins i).presented = (look s.pins i).path.getLastD false ∧
      (look t.pins i).path = (look t.pins i).computed :: (look s.pins i).path.dropLast ∧
      (look t.pins i).source = (look s.pins i).source) ∧
    ∀ n : LinkId, look t.links n = { look s.links n with flags := (look t.links n).flags } ∧
      ∀ p : Nat, (look s.links n).flags.getLsbD p = true → (look t.links n).flags.getLsbD p = true

/-- The code a channel hands over at a tick (R47, R52, R75 to R79, R81, R83, R85): the park code when IDLE, HALTED,
stopped IMMEDIATE or waiting at PARK; the last code when waiting at HOLD; when RUNNING the rounded and clamped sum of
its own value and that of its sum source, or the last code when a needed line is missing (underrun) or poisoned. The
gate-release tick is the entry's tick at phase 0.0 (R60). A RUNNING tick's counters, its clip episode with pass clipped
(R79, R80), its underrun episode (R83, R84) and the flags CLIP_BEGAN and UNDERRUN_BEGAN follow its value. -/
def Obligations.TickHandsOverByState : Prop :=
  ∀ (levels : BitVec 8) (ch : ChanId) (s t : State), exec (.outputTick levels) s = .next t →
    let c := look s.channels ch
    let f := look s.prefetch ch
    let i := c.phase / 16777216
    let last := (look t.channels ch).last
    (c.mode = .idle ∨ c.mode = .halted ∨ (c.mode = .running ∧ c.stop = some .immediate) → last = c.park) ∧
    (∀ e, c.mode = .waiting → currentEntry s ch = some e → (∀ k, e.gate = some k → firesAt s levels k = false) →
      last = (if e.waitLevel = .park then c.park else c.last)) ∧
    (∀ e, c.mode = .running → c.stop ≠ some .immediate → currentEntry s ch = some e →
      (∀ m, c.sumSource = some m → (look s.channels m).mode ≠ .running ∧ (look s.channels m).mode ≠ .waiting) →
      (heldAt f f.play = none → last = c.last ∧
        (look t.channels ch).underruns = min (c.underruns + 1) 4294967295) ∧
      ∀ l, heldAt f f.play = some l →
        let a := sampleOf l.data (i % 4)
        let follows := e.repeats = 0 ∨ c.passes + 1 < e.repeats
        let elsewhere := (i + 1 < segmentLength s e.segment ∧ (i + 1) % 4 = 0) ∨
          (segmentLength s e.segment ≤ i + 1 ∧ follows)
        let code := fun v : Int => BitVec.ofInt 16
          (clampCode (roundValue (v * c.scale.gain.toInt + c.scale.offset.toInt * 1073741824)))
        let poison := last = c.last ∧ (look t.channels ch).substitutions = min (c.substitutions + 1) 4294967295
        let between := fun b : Code =>
          code (a.toInt * 65536 + (b.toInt - a.toInt) * ((c.phase % 16777216 / 256 : Nat) : Int))
        (c.interpolation = .nearest → (l.poisoned = true → poison) ∧
          (l.poisoned = false → last = code (a.toInt * 65536))) ∧
        (c.interpolation = .linear → ¬ elsewhere → (l.poisoned = true → poison) ∧
          (l.poisoned = false → last = between
            (if i + 1 < segmentLength s e.segment then sampleOf l.data ((i + 1) % 4) else a))) ∧
        (c.interpolation = .linear → elsewhere →
          (heldAt f (f.play + 1) = none → last = c.last ∧
            (look t.channels ch).underruns = min (c.underruns + 1) 4294967295) ∧
          ∀ l', heldAt f (f.play + 1) = some l' →
            (l.poisoned = true ∨ l'.poisoned = true → poison) ∧
            (l.poisoned = false → l'.poisoned = false → last = between (sampleOf l'.data 0)))) ∧
    (∀ e, currentEntry s ch = some e →
      ((c.mode = .running ∧ c.stop ≠ some .immediate) ∨
        (c.mode = .waiting ∧ ∃ k, e.gate = some k ∧ firesAt s levels k = true)) →
      let d := look t.channels ch
      let v := played s levels ch
      let sum := fun own : Int => own + (match c.sumSource with
        | none => 0
        | some m => contribution (played s levels m))
      let clipped := (match v with
        | .computed own => decide (roundValue (sum own) < -32768 ∨ 32767 < roundValue (sum own))
        | _ => false)
      let passEnd := t.trigger.pulses.getLsbD ch.val
      let jumps := c.mode = .running ∧ ∃ j ∈ e.jump, j.timing = .immediate ∧ firesAt s levels j.cond = true
      v ≠ .silent ∧
      last = (match v with
        | .computed own => BitVec.ofInt 16 (clampCode (roundValue (sum own)))
        | _ => c.last) ∧
      d.clips = (if clipped then min (c.clips + 1) 65535 else c.clips) ∧
      d.underruns = (if v = .underrun then min (c.underruns + 1) 4294967295 else c.underruns) ∧
      d.substitutions = (if v = .poison then min (c.substitutions + 1) 4294967295 else c.substitutions) ∧
      d.underrunEpisode = (match v with
        | .underrun => decide (d.mode = .running)
        | .poison => c.underrunEpisode && decide (d.mode = .running)
        | _ => false) ∧
      (passEnd = true → d.passClipped = false ∧
        d.clipEpisode = ((c.clipEpisode || clipped) && (c.passClipped || clipped))) ∧
      (passEnd = false → ¬ jumps → d.passClipped = (c.passClipped || clipped) ∧
        d.clipEpisode = (c.clipEpisode || clipped)) ∧
      ∀ n : LinkId,
        (look t.links n).flags.getLsbD (7 * ch.val + 4) =
          ((look s.links n).flags.getLsbD (7 * ch.val + 4) || (decide (v = .underrun) && !c.underrunEpisode)) ∧
        (look t.links n).flags.getLsbD (7 * ch.val + 5) =
          ((look s.links n).flags.getLsbD (7 * ch.val + 5) || (clipped && !c.clipEpisode)))

/-- The arithmetic of a tick: the values of LINEAR and NEAREST and the weight (R76), and one rounding to the nearest
integer with halves away from zero, then the clamp (R79); the sum of R78 takes a source's own value, or 0 where it
computes none. The value of a RUNNING channel's tick: the samples and lines it needs (R75), its own value (R77), or
the hold where one is missing (R83) or poisoned (R85). -/
def Obligations.InterpolationRoundingAndClamp : Prop :=
  (∀ (a b : Code) (fraction : Nat), fraction < 16777216 →
    interpolate a b fraction = a.toInt * 65536 + (b.toInt - a.toInt) * (fraction / 256 : Nat) ∧
    min a.toInt b.toInt * 65536 ≤ interpolate a b fraction ∧
    interpolate a b fraction ≤ max a.toInt b.toInt * 65536 ∧
    (interpolate a b fraction = b.toInt * 65536 → a = b) ∧ nearestValue a = a.toInt * 65536) ∧
  (∀ z : Int, 2 * (z - roundValue z * 1073741824).natAbs ≤ 1073741824 ∧
    (2 * (z - roundValue z * 1073741824).natAbs = 1073741824 → z.natAbs < (roundValue z * 1073741824).natAbs)) ∧
  (∀ n : Int, -32768 ≤ clampCode n ∧ clampCode n ≤ 32767 ∧ (-32768 ≤ n → n ≤ 32767 → clampCode n = n) ∧
    (32767 < n → clampCode n = 32767) ∧ (n < -32768 → clampCode n = -32768)) ∧
  (∀ (values : ChanId → TickValue) (own : Int) (m : ChanId),
    tickSum values own none = own ∧ (∀ y, values m = .computed y → tickSum values own (some m) = own + y) ∧
    ((∀ y, values m ≠ .computed y) → tickSum values own (some m) = own)) ∧
  ∀ (s : State) (ch : ChanId) (e : Entry), (look s.channels ch).mode = .running → currentEntry s ch = some e →
    let c := look s.channels ch
    let f := look s.prefetch ch
    let i := c.phase / 16777216
    let length := segmentLength s e.segment
    let w := c.phase % 16777216 / 256
    let elsewhere := (i + 1 < length ∧ (i + 1) % 4 = 0) ∨
      (length ≤ i + 1 ∧ (e.repeats = 0 ∨ c.passes + 1 < e.repeats))
    let own := fun v : Int => TickValue.computed (v * c.scale.gain.toInt + c.scale.offset.toInt * 1073741824)
    (heldAt f f.play = none → tickValue s ch = .underrun) ∧
    ∀ l, heldAt f f.play = some l →
      let a := (sampleOf l.data (i % 4)).toInt
      (c.interpolation = .nearest → tickValue s ch = if l.poisoned then .poison else own (a * 65536)) ∧
      (c.interpolation = .linear → ¬ elsewhere →
        let b := (sampleOf l.data (if i + 1 < length then (i + 1) % 4 else i % 4)).toInt
        tickValue s ch = if l.poisoned then .poison else own (a * 65536 + (b - a) * (w : Int))) ∧
      (c.interpolation = .linear → elsewhere →
        (heldAt f (f.play + 1) = none → tickValue s ch = .underrun) ∧
        ∀ l', heldAt f (f.play + 1) = some l' →
          let b := (sampleOf l'.data 0).toInt
          tickValue s ch = if l.poisoned || l'.poisoned then .poison else own (a * 65536 + (b - a) * (w : Int)))

/-- A RUNNING tick without a pass end advances the phase by the step in effect and leaves the place in the table, an
AT_PASS_END jump's firing arming it (R63, R74), and the play position moves where the phase enters the next line, the
lines behind it released (R133). A WAITING tick at which the gate fires is the entry's first RUNNING tick, at phase 0.0
(R60), and no firing acts on its jump (log entry 12). An IMMEDIATE jump's firing ends the entry at that tick (R62): a
stop AT_PASS_END stays pending into the target, and a gated target sends the channel to IDLE with it (R48; log entry
23). A jump, a swap and an entry into IDLE flush the FIFO (R134). A pending scale and rate stay pending but for an entry
into IDLE, which applies them and takes a pending commit (R58, R88), its current step kept (R73; log entry 13). The
flags follow the outcome (R180), WAITING and WAIT_BEGAN coming about in the tick's own step (log entry 30). -/
def Obligations.TicksAdvanceReleaseAndJump : Prop :=
  ∀ (levels : BitVec 8) (ch : ChanId) (e : Entry) (s t : State), exec (.outputTick levels) s = .next t →
    currentEntry s ch = some e →
    let c := look s.channels ch
    let d := look t.channels ch
    let whole := segmentLength s e.segment * 16777216
    let f := look s.prefetch ch
    let g := look t.prefetch ch
    let kept := look t.tables ch = look s.tables ch ∧ d.commit = c.commit
    let swaps := look t.tables ch = swapped (look s.tables ch) ∧ d.commit = none
    let moves := fun (before after : Nat) =>
      if before / 67108864 = after / 67108864 then g.play = f.play ∧ g.fifo = f.fifo
      else g.play = f.play + 1 ∧ g.fifo = f.fifo.filter fun l => f.play + 1 ≤ l.place
    let flushed := g.play = 0 ∧ g.fifo = []
    let idles := d.mode = .idle ∧ d.stop = none ∧ d.armed = none ∧ flushed ∧ UpdatesApplied c d ∧
      (if c.commit.isSome then swaps else kept)
    (c.mode = .waiting → (∃ k, e.gate = some k ∧ firesAt s levels k = true) → c.currentStep < whole →
      d.mode = .running ∧ d.phase = c.currentStep ∧ d.entry = c.entry ∧ d.passes = c.passes ∧ d.armed = c.armed ∧
      d.currentStep = c.currentStep ∧ d.stop = c.stop ∧ UpdatesKept c d ∧ kept ∧ OutcomeFlags ch s t ∧
      moves 0 c.currentStep) ∧
    (c.mode = .waiting → (∀ k, e.gate = some k → firesAt s levels k = false) →
      d = { c with last := d.last, presented := d.presented, path := d.path } ∧ kept ∧ FlagsKept ch s t ∧
      g.play = f.play ∧ g.fifo = f.fifo) ∧
    (c.mode = .running → c.stop ≠ some .immediate → c.phase + c.currentStep < whole →
      OutcomeFlags ch s t ∧
      ((∀ j ∈ e.jump, j.timing = .atPassEnd ∨ firesAt s levels j.cond = false) →
        d.mode = .running ∧ d.phase = c.phase + c.currentStep ∧ d.entry = c.entry ∧ d.passes = c.passes ∧
        d.stop = c.stop ∧ d.currentStep = c.currentStep ∧ UpdatesKept c d ∧ kept ∧
        moves c.phase (c.phase + c.currentStep) ∧
        d.armed = (match e.jump with
          | none => c.armed
          | some j => if firesAt s levels j.cond then some j.target else c.armed)) ∧
      (∀ j, e.jump = some j → j.timing = .immediate → firesAt s levels j.cond = true →
        flushed ∧ d.passes = (if c.stop = some .atEntryEnd then c.passes else 0) ∧
        (c.stop = some .atEntryEnd → idles ∧ d.currentStep = c.currentStep) ∧
        (c.stop = some .atPassEnd →
          let target := (match c.commit with
            | some ⟨.atEntryEnd, x⟩ => x
            | _ => j.target)
          let entered := (match c.commit with
            | some ⟨.atEntryEnd, x⟩ => look (look s.tables ch).staged.slots x
            | _ => entryIn s ch j.target)
          d.entry = target ∧ d.armed = none ∧ d.phase = 0 ∧
          ((entered.bind Entry.gate) = none → d.mode = .running ∧ d.stop = some .atPassEnd ∧ UpdatesKept c d ∧
            (match c.commit with
            | some ⟨.atEntryEnd, _⟩ => swaps
            | _ => kept)) ∧
          ((entered.bind Entry.gate).isSome → idles)) ∧
        (c.stop = none → (∀ k ∈ c.commit, k.point = .atTableEnd) →
          Begun d (entryIn s ch j.target) j.target 0 ∧ d.stop = none ∧ UpdatesKept c d ∧ kept) ∧
        (∀ target, c.stop = none → c.commit = some ⟨.atEntryEnd, target⟩ →
          Begun d (look (look s.tables ch).staged.slots target) target 0 ∧ d.stop = none ∧ UpdatesKept c d ∧
          swaps))) ∧
    (c.mode = .running → c.stop = some .immediate →
      idles ∧ look t.patterns ch = 0#4 ∧ d.entry = c.entry ∧ d.passes = c.passes ∧ d.phase = c.phase ∧
      d.currentStep = c.currentStep ∧ OutcomeFlags ch s t)

/-- A pass end (R53 to R57, R94): its pulse is emitted; a stop AT_PASS_END sends the channel to IDLE; an entry with
passes left, or with repeats 0 and nothing that ends it, goes on at the carried phase; at an entry end the first of
stop, commit, jump, next entry and the table end applies, and only the next entry and the loop index begin at the
carried phase. The jump is the armed one, or one whose condition fires at this very tick: an AT_PASS_END jump is armed
before the decision (R63), and an IMMEDIATE one ends the entry and stands in for the armed jump (R62). The play
position moves one place where the channel stays on its path (R133), and otherwise the FIFO is flushed (R134). A
pending scale and rate are applied and removed before the decision (R53, R88), the current step chosen again (R73; log
entry 13). The flags follow the outcome (R180), WAITING and WAIT_BEGAN coming about in the tick's own step (log entry
30). -/
def Obligations.PassEndsDecideWhatFollows : Prop :=
  ∀ (levels : BitVec 8) (ch : ChanId) (e : Entry) (s t : State), exec (.outputTick levels) s = .next t →
    currentEntry s ch = some e →
    let c := look s.channels ch
    let d := look t.channels ch
    let b := (look s.tables ch).active
    let kept := look t.tables ch = look s.tables ch ∧ d.commit = c.commit
    let swaps := look t.tables ch = swapped (look s.tables ch) ∧ d.commit = none
    let f := look s.prefetch ch
    let g := look t.prefetch ch
    let onPath := g.play = f.play + 1 ∧ g.fifo = f.fifo.filter fun l => f.play + 1 ≤ l.place
    let flushed := g.play = 0 ∧ g.fifo = []
    let armed := (match e.jump with
      | none => c.armed
      | some j => if firesAt s levels j.cond then some j.target else c.armed)
    let carried := c.phase + c.currentStep - segmentLength s e.segment * 16777216
    let stepThere := (match c.pendingRate with
      | none => c.currentStep
      | some r => e.step.getD r)
    let idles := d.mode = .idle ∧ d.stop = none ∧ d.armed = none ∧ d.currentStep = stepThere ∧ d.phase = carried ∧
      d.entry = c.entry ∧ d.passes = min (c.passes + 1) 65535 ∧ flushed ∧ (if c.commit.isSome then swaps else kept)
    c.mode = .running → c.stop ≠ some .immediate →
    segmentLength s e.segment * 16777216 ≤ c.phase + c.currentStep →
    t.trigger.pulses.getLsbD ch.val = true ∧ UpdatesApplied c d ∧ OutcomeFlags ch s t ∧
    (c.stop = some .atPassEnd → idles) ∧
    (c.stop ≠ some .atPassEnd →
      let passes := min (c.passes + 1) 65535
      let ends := (e.repeats ≠ 0 ∧ passes = e.repeats) ∨ armed.isSome ∨ (e.repeats = 0 ∧
        (c.stop = some .atEntryEnd ∨ ∃ target, c.commit = some ⟨.atEntryEnd, target⟩))
      (¬ ends → d.mode = .running ∧ d.phase = carried ∧ d.passes = passes ∧ d.entry = c.entry ∧
        d.stop = c.stop ∧ d.armed = none ∧ d.currentStep = stepThere ∧ kept ∧ onPath) ∧
      (ends → c.stop = some .atEntryEnd → idles) ∧
      (ends → c.stop = none → d.stop = none ∧
        (∀ target, c.commit = some ⟨.atEntryEnd, target⟩ → Begun d (look (look s.tables ch).staged.slots target) target 0 ∧
          swaps ∧ flushed) ∧
        ((∀ k ∈ c.commit, k.point = .atTableEnd) →
          (∀ target, armed = some target → Begun d (look b.slots target) target 0 ∧ kept ∧ flushed) ∧
          (armed = none →
            (∀ next : SlotIx, next.val = c.entry.val + 1 → next.val < b.count →
              Begun d (look b.slots next) next carried ∧ kept ∧ onPath) ∧
            (b.count ≤ c.entry.val + 1 →
              (∀ target, c.commit = some ⟨.atTableEnd, target⟩ →
                Begun d (look (look s.tables ch).staged.slots target) target 0 ∧ swaps ∧ flushed) ∧
              (c.commit = none →
                (∀ x, b.endAction = .loop x → Begun d (look b.slots x) x carried ∧ kept ∧ onPath) ∧
                (b.endAction = .stop → idles)))))))

/-- The four events within a tick are the tick at which each comes about: a condition's firing, a holdoff running down
to 0, a pass end and a marker pulse's end (the model's choice, log entry 4); where the event does not come about at
that tick the state stays (log entry 5). A tick at which one does has its own effect besides. -/
def Obligations.EventsWithinTheTick : Prop :=
  ∀ (levels : BitVec 8) (s : State), ∃ t : State, exec (.outputTick levels) s = .next t ∧
    (∀ k : CondId, let c := look s.trigger.conds k; let d := look t.trigger.conds k
      (firesAt s levels k = true → exec (.conditionFiring k levels) s = .next t ∧
        d.firings = c.firings + 1#32 ∧ d.holdoffLeft = c.holdoff ∧
        ∀ n : LinkId, (look t.links n).flags.getLsbD (28 + k.val) = true) ∧
      (firesAt s levels k = false → exec (.conditionFiring k levels) s = .next s ∧ d.firings = c.firings) ∧
      (firesAt s levels k = false → c.holdoffLeft = 1 →
        exec (.holdoffExpiry k levels) s = .next t ∧ d.holdoffLeft = 0) ∧
      (firesAt s levels k = true ∨ c.holdoffLeft ≠ 1 → exec (.holdoffExpiry k levels) s = .next s)) ∧
    (∀ ch : ChanId, exec (.passEnd ch levels) s = .next (if t.trigger.pulses.getLsbD ch.val then t else s)) ∧
    ∀ i : PinId,
      (∀ k width, (look s.pins i).source = .firePulse k width →
        let p := if firesAt s levels k then width else (look s.pins i).pulse
        (p = 1 → exec (.markerPulseEnd i levels) s = .next t ∧ (look t.pins i).computed = true ∧
          (look t.pins i).pulse = 0) ∧
        (p ≠ 1 → exec (.markerPulseEnd i levels) s = .next s)) ∧
      ((∀ k width, (look s.pins i).source ≠ .firePulse k width) → exec (.markerPulseEnd i levels) s = .next s)

/-! ### Trigger conditions and markers -/

/-- The evaluation of a condition at a tick (R96 to R100, R106, R108): the match over the sources its mask selects, the
qualifying transition of its mode, counted only with no holdoff left, the firing at the N-th and at a software request,
and its record afterwards; of a disabled one only the holdoff runs down. FIREDk is set in both sets at a firing. -/
def Obligations.ConditionsAreEvaluatedAtTheTick : Prop :=
  ∀ (levels : BitVec 8) (k : CondId) (s t : State), exec (.outputTick levels) s = .next t →
    let c := look s.trigger.conds k
    let d := look t.trigger.conds k
    (c.enabled = false → d = { c with holdoffLeft := c.holdoffLeft - 1 } ∧
      ∀ n : LinkId, (look t.links n).flags.getLsbD (28 + k.val) = (look s.links n).flags.getLsbD (28 + k.val)) ∧
    (c.enabled = true → ∀ now : Bool,
      (now = true ↔ ∀ i : Fin 12, c.mask.getLsbD i.val = true →
        t.trigger.seen.getLsbD i.val = c.reference.getLsbD i.val) →
      let counted := c.holdoffLeft = 0 ∧ ((c.mode = .arrive ∧ c.previous = false ∧ now = true) ∨
        (c.mode = .depart ∧ c.previous = true ∧ now = false))
      let natural := counted ∧ c.prescaler ≤ c.count + 1
      let fires := natural ∨ c.request = true
      d = { c with
        previous := now
        count := if natural then 0 else if counted then c.count + 1 else c.count
        holdoffLeft := if fires then c.holdoff else c.holdoffLeft - 1
        request := false
        firings := if fires then c.firings + 1#32 else c.firings } ∧
      ∀ n : LinkId, (look t.links n).flags.getLsbD (28 + k.val) =
        ((look s.links n).flags.getLsbD (28 + k.val) || decide fires))

/-- SET_CONDITION, SET_CONDITION_ENABLE and FIRE_CONDITION (R103, R105, R106, R107): what each sets and what it leaves
of the condition, their range checks, the mode's among them, and WRONG_STATE for a software firing of a disabled
condition. CONDITION_STATUS of a condition outside 0..3 is OUT_OF_RANGE (R110), and so is an undefined clear byte,
which no rule checks (the model's choice, log entry 16). -/
def Obligations.ConditionCommands : Prop :=
  ∀ (n : LinkId) (tag : Byte) (s : State), Takes s n →
    let answer := fun (i : Instr) (len : Nat) (status : Status) =>
      exec i s = .next { s with links := answered n len tag status [] s.links }
    (∀ (k : CondId) (mask reference prescaler holdoff : Nat) (arrive : Bool),
      mask < 65536 → reference < 65536 → prescaler < 65536 → holdoff < 65536 →
      let i := Instr.setCondition n tag (oneByte k.val :: (leBytes 2 mask ++ leBytes 2 reference ++
        [boolByte arrive] ++ leBytes 2 prescaler ++ leBytes 2 holdoff))
      (4095 < mask ∨ 4095 < reference ∨ 256 < prescaler → answer i 10 .outOfRange) ∧
      (mask ≤ 4095 → reference ≤ 4095 → prescaler ≤ 256 → exec i s = .next { s with
        trigger := { s.trigger with conds := put s.trigger.conds k { look s.trigger.conds k with
          mask := BitVec.ofNat 12 mask
          reference := BitVec.ofNat 12 reference
          mode := if arrive then .arrive else .depart
          prescaler := if prescaler = 0 then 1 else prescaler
          holdoff := holdoff
          count := 0 } }
        links := answered n 10 tag .ok [] s.links })) ∧
    (∀ k : CondId, let c := look s.trigger.conds k
      (∀ enable : Bool, enable = c.enabled → answer (.setConditionEnable n tag [oneByte k.val, boolByte enable]) 2 .ok) ∧
      (c.enabled = false → ∀ now : Bool,
        (now = true ↔ ∀ i : Fin 12, c.mask.getLsbD i.val = true →
          s.trigger.seen.getLsbD i.val = c.reference.getLsbD i.val) →
        exec (.setConditionEnable n tag [oneByte k.val, 1#8]) s = .next { s with
          trigger := { s.trigger with conds := put s.trigger.conds k { c with enabled := true, previous := now } }
          links := answered n 2 tag .ok [] s.links }) ∧
      (c.enabled = true → exec (.setConditionEnable n tag [oneByte k.val, 0#8]) s = .next { s with
        trigger := { s.trigger with conds := put s.trigger.conds k { c with
          enabled := false, count := 0, request := false } }
        links := answered n 2 tag .ok [] s.links }) ∧
      (c.enabled = true → exec (.fireCondition n tag [oneByte k.val]) s = .next { s with
        trigger := { s.trigger with conds := put s.trigger.conds k { c with request := true } }
        links := answered n 1 tag .ok [] s.links }) ∧
      (c.enabled = false → answer (.fireCondition n tag [oneByte k.val]) 1 .wrongState)) ∧
    (∀ (a b : Byte) (rest : List Byte), rest.length = 9 →
      (4 ≤ a.toNat ∨ 2 ≤ (rest.getD 4 0#8).toNat → answer (.setCondition n tag (a :: rest)) 10 .outOfRange) ∧
      (4 ≤ a.toNat → answer (.fireCondition n tag [a]) 1 .outOfRange) ∧
      (4 ≤ a.toNat ∨ 2 ≤ b.toNat → answer (.setConditionEnable n tag [a, b]) 2 .outOfRange ∧
        answer (.conditionStatus n tag [a, b]) 2 .outOfRange))

/-- SET_MARKER (R113): every source within its range is taken with its own initial state, a pulse width of 0 stored as
1, the marker path left as it is; anything outside is OUT_OF_RANGE and changes nothing. -/
def Obligations.SetMarkerSelectsTheSource : Prop :=
  ∀ (n : LinkId) (tag : Byte) (s : State), Takes s n →
    let refused := fun p : List Byte =>
      exec (.setMarker n tag p) s = .next { s with links := answered n 4 tag .outOfRange [] s.links }
    (∀ (i : PinId) (k : Fin 4) (bit : Fin 4) (level : Bool) (b : Byte),
      let set := fun (kind first second : Byte) (source : MarkerSource) (toggle : Bool) =>
        exec (.setMarker n tag [oneByte i.val, kind, first, second]) s = .next { s with
          pins := put s.pins i { look s.pins i with source := source, toggle := toggle, pulse := 0 }
          links := answered n 4 tag .ok [] s.links }
      set 0#8 (boolByte level) b (.static level) false ∧
      set 1#8 (oneByte k.val) (oneByte bit.val) (.entryBit k bit) false ∧
      set 2#8 (oneByte k.val) (boolByte level) (.passToggle k level) level ∧
      set 3#8 (oneByte k.val) b (.firePulse k (if b = 0#8 then 1 else b.toNat)) false ∧
      set 4#8 (oneByte k.val) b (.running k) false) ∧
    ∀ i a b c : Byte, 8 ≤ i.toNat ∨ 5 ≤ a.toNat ∨ (a = 0#8 ∧ 2 ≤ b.toNat) ∨ (1 ≤ a.toNat ∧ 4 ≤ b.toNat) ∨
      (a = 1#8 ∧ 4 ≤ c.toNat) ∨ (a = 2#8 ∧ 2 ≤ c.toNat) → refused [i, a, b, c]

/-- The level a pin computes at a tick (R114 to R118): its static level; a channel's toggle state before the tick's
pass end, inverted after it; high while a firing's pulse remains, the count then falling by 1; high for a channel
RUNNING at the tick, the tick of its gate's release (R60) among them and that of a stop IMMEDIATE (R52) not; the marker
bit of the entry played by a RUNNING channel and of the played pattern of a WAITING one, low of an IDLE or HALTED one.
The played pattern is the entry's markers after a RUNNING tick, all low after an entry into IDLE, and stays
otherwise. -/
def Obligations.MarkersComputeTheirLevels : Prop :=
  ∀ (levels : BitVec 8) (i : PinId) (s t : State), exec (.outputTick levels) s = .next t →
    let m := look s.pins i
    let d := look t.pins i
    (∀ level, m.source = .static level → d.computed = level) ∧
    (∀ ch initial, m.source = .passToggle ch initial → d.computed = m.toggle ∧
      d.toggle = (m.toggle ^^ t.trigger.pulses.getLsbD ch.val)) ∧
    ((∀ ch initial, m.source ≠ .passToggle ch initial) → d.toggle = m.toggle) ∧
    (∀ k width, m.source = .firePulse k width →
      let p := if firesAt s levels k then width else m.pulse
      d.computed = decide (0 < p) ∧ d.pulse = p - 1) ∧
    ((∀ k width, m.source ≠ .firePulse k width) → d.pulse = m.pulse) ∧
    ∀ ch : ChanId, let c := look s.channels ch
      let shows := fun (running : Bool) (bits : BitVec 4) =>
        (m.source = .running ch → d.computed = running) ∧
        ∀ bit, m.source = .entryBit ch bit → d.computed = bits.getLsbD bit.val
      let opens := ∃ k, (currentEntry s ch).bind Entry.gate = some k ∧ firesAt s levels k = true
      (c.mode = .idle ∨ c.mode = .halted → shows false 0#4 ∧ look t.patterns ch = look s.patterns ch) ∧
      (c.mode = .running → c.stop = some .immediate → shows false 0#4 ∧ look t.patterns ch = 0#4) ∧
      (c.mode = .running → c.stop ≠ some .immediate → m.source = .running ch → d.computed = true) ∧
      (c.mode = .waiting → ¬ opens →
        shows false (look s.patterns ch) ∧ look t.patterns ch = look s.patterns ch) ∧
      ∀ e, currentEntry s ch = some e →
        (c.mode = .running ∧ c.stop ≠ some .immediate) ∨ (c.mode = .waiting ∧ opens) →
        shows true e.markers ∧
          look t.patterns ch = (if (look t.channels ch).mode = .idle then 0#4 else e.markers)

/-! ### Supervision and notification -/

/-- CONDITION_STATUS, MARKER_STATUS, ERROR_LOG_READ and CLOCK_STATUS answer OK with the state as it stands, laid out as
spec 10 sections 10.7.2 and 10.7.5 say (R110, R120, R154, R163); the firing counter is cleared after it is reported
when that is asked, and nothing else changes. A pin's unused second parameter, toggle state and pulse are sent as 0 and
the bit position of an absent first record as 255 (log entry 16). -/
def Obligations.UnitReports : Prop :=
  ∀ (n : LinkId) (tag : Byte) (s : State), Takes s n →
    let told := fun (i : Instr) (len : Nat) (report : List Byte) =>
      exec i s = .next { s with links := answered n len tag .ok report s.links }
    (∀ k : CondId, let c := look s.trigger.conds k
      let report := [boolByte c.enabled] ++ leBytes 2 c.mask.toNat ++ leBytes 2 c.reference.toNat ++
        [boolByte (c.mode = .arrive)] ++ leBytes 2 c.prescaler ++ leBytes 2 c.holdoff ++
        [boolByte c.previous, oneByte c.count] ++ leBytes 2 c.holdoffLeft ++ [boolByte c.request] ++
        leBytes 4 c.firings.toNat ++ leBytes 2 s.trigger.seen.toNat
      told (.conditionStatus n tag [oneByte k.val, 0#8]) 2 report ∧
      exec (.conditionStatus n tag [oneByte k.val, 1#8]) s = .next { s with
        trigger := { s.trigger with conds := put s.trigger.conds k { c with firings := 0#32 } }
        links := answered n 2 tag .ok report s.links }) ∧
    told (.markerStatus n tag []) 0
      ((List.finRange 8).flatMap (fun i => let m := look s.pins i
        (match m.source with
          | .static level => [0#8, boolByte level, 0#8, boolByte m.presented, boolByte m.computed, 0#8, 0#8]
          | .entryBit ch bit =>
            [1#8, oneByte ch.val, oneByte bit.val, boolByte m.presented, boolByte m.computed, 0#8, 0#8]
          | .passToggle ch initial => [2#8, oneByte ch.val, boolByte initial, boolByte m.presented,
              boolByte m.computed, boolByte m.toggle, 0#8]
          | .firePulse k width => [3#8, oneByte k.val, oneByte width, boolByte m.presented, boolByte m.computed,
              0#8, oneByte m.pulse]
          | .running ch => [4#8, oneByte ch.val, 0#8, boolByte m.presented, boolByte m.computed, 0#8, 0#8])) ++
        (List.finRange 4).map fun ch => oneByte (look s.patterns ch).toNat) ∧
    told (.errorLogRead n tag []) 0
      ((match s.log.first with
        | none => List.replicate 7 0#8 ++ [255#8]
        | some r => [1#8, oneByte (match r.cls with
              | .correctable => 0
              | .uncorrectable => 1),
            oneByte (match r.source with
              | .prefetch ch => ch.val
              | .link m => 4 + m.val
              | .scrub => 6)] ++ leBytes 3 r.addr ++
          [oneByte r.segment.val, oneByte ((r.bit.map Fin.val).getD 255)]) ++
        leBytes 2 s.log.successors.toNat ++ leBytes 2 s.log.correctable ++ leBytes 2 s.log.uncorrectable ++
        [oneByte s.marks.length, oneByte s.writeBacks.length] ++ leBytes 2 s.scrub.interval ++
        leBytes 3 s.scrub.cursor) ∧
    told (.clockStatus n tag []) 0
      ([boolByte s.monitor.locked, oneByte s.monitor.goodGates] ++
        (match s.monitor.lastCount with
          | none => [0#8, 0#8, 0#8]
          | some x => 1#8 :: leBytes 2 x) ++
        leBytes 2 s.monitor.windowMin ++ leBytes 2 s.monitor.windowMax)

/-- The end of a measurement gate (R157 to R161, R65, R67): the last count, the edge count and the timer; the five rows
of R159; and at a loss of lock the RUNNING and WAITING channels with halt-on-loss, and no others, enter HALTED with
their port path at the park code and their FIFO kept, and the marker path of every pin that names one is emptied to the
level its source gives for the halted channel (R119). -/
def Obligations.GateEndFollowsTheLockTable : Prop :=
  ∀ s : State, ∃ t : State, exec .measurementGateEnd s = .next t ∧
    let m := s.monitor
    let good := m.windowMin ≤ m.edges ∧ m.edges ≤ m.windowMax
    let lost := m.locked = true ∧ ¬ good
    let halts := fun ch : ChanId => lost ∧ (look s.channels ch).haltOnLoss = true ∧
      ((look s.channels ch).mode = .running ∨ (look s.channels ch).mode = .waiting)
    (∃ (locked : Bool) (goodGates : Nat),
      t.monitor = { m with
        locked := locked, goodGates := goodGates, edges := 0, gateTimer := 100, lastCount := some m.edges } ∧
      (m.locked = true → good → locked = true ∧ goodGates = 0) ∧
      (m.locked = true → ¬ good → locked = false ∧ goodGates = 0) ∧
      (m.locked = false → good → m.goodGates = 0 → locked = false ∧ goodGates = 1) ∧
      (m.locked = false → good → m.goodGates = 1 → locked = true ∧ goodGates = 0) ∧
      (m.locked = false → ¬ good → locked = false ∧ goodGates = 0)) ∧
    (∀ ch : ChanId,
      (halts ch → look t.channels ch = { look s.channels ch with
          mode := .halted, stop := none, underrunEpisode := false,
          path := List.replicate 24 (look s.channels ch).park } ∧
        (look t.prefetch ch).fifo = (look s.prefetch ch).fifo ∧ (look t.prefetch ch).waiting = none) ∧
      (¬ halts ch → look t.channels ch = look s.channels ch ∧ look t.prefetch ch = look s.prefetch ch)) ∧
    (∀ (n : LinkId) (p : Nat), (look t.links n).flags.getLsbD p = true ↔
      (look s.links n).flags.getLsbD p = true ∨ (lost ∧ p = 36) ∨
        (m.locked = false ∧ good ∧ m.goodGates = 1 ∧ p = 35) ∨ ∃ ch, halts ch ∧ p = 7 * ch.val + 6) ∧
    t = { s with monitor := t.monitor, channels := t.channels, prefetch := t.prefetch, pins := t.pins,
                 links := t.links } ∧
    (¬ lost → t.pins = s.pins) ∧
    (∀ i : PinId,
      let emptied := fun (ch : ChanId) (level : Bool) =>
        (halts ch → look t.pins i = { look s.pins i with path := List.replicate 24 level }) ∧
        (¬ halts ch → look t.pins i = look s.pins i)
      match (look s.pins i).source with
      | .entryBit ch _ => emptied ch false
      | .running ch => emptied ch false
      | .passToggle ch _ => emptied ch (look s.pins i).toggle
      | _ => look t.pins i = look s.pins i) ∧
    ∀ n : LinkId, look t.links n = { look s.links n with flags := (look t.links n).flags }

/-- The scrubber's expiry (R148, R149) and SET_SCRUB (R150). At an expiry the timer is set to the interval; with no
request outstanding the lowest line of a READY segment at or above the cursor is asked for and the cursor goes past
it; past the last, SCRUB_PASS is set and the walk goes on from the lowest; with no READY segment nothing is asked. -/
def Obligations.ScrubberWalksTheUsedLines : Prop :=
  (∀ s : State, s.scrub.interval ≠ 0 →
    let used := fun a : Nat => ∃ (id : SegId) (length : Nat) (e : Extent) (label : BitVec 32),
      (look s.slots id).body = .ready length e label ∧ 16 * e.first ≤ a ∧ a < 16 * e.first + (length + 3) / 4
    let asked := fun a : Nat => { s.scrub with
      timer := s.scrub.interval, request := some a, cursor := if a = 262143 then 0 else a + 1 }
    (s.scrub.request ≠ none ∨ (∀ a, ¬ used a) →
      exec .scrubExpiry s = .next { s with scrub := { s.scrub with timer := s.scrub.interval } }) ∧
    (s.scrub.request = none → ∀ a, used a →
      (s.scrub.cursor ≤ a → (∀ b, used b → s.scrub.cursor ≤ b → a ≤ b) →
        exec .scrubExpiry s = .next { s with
          scrub := asked a
          links := if a = 262143 then inBothSets .scrubPass s.links else s.links }) ∧
      ((∀ b, used b → b < s.scrub.cursor ∧ a ≤ b) →
        exec .scrubExpiry s = .next { s with scrub := asked a, links := inBothSets .scrubPass s.links }))) ∧
  ∀ (n : LinkId) (tag : Byte) (interval : Nat) (s : State), Takes s n → interval < 4294967296 →
    (65535 < interval → exec (.setScrub n tag (leBytes 4 interval)) s =
      .next { s with links := answered n 4 tag .outOfRange [] s.links }) ∧
    (interval ≤ 65535 → exec (.setScrub n tag (leBytes 4 interval)) s = .next { s with
      scrub := { s.scrub with
        interval := interval
        timer := interval
        request := if interval = 0 ∧ scrubInTransfer s = false then none else s.scrub.request }
      links := answered n 4 tag .ok (leBytes 2 interval ++ leBytes 3 s.scrub.cursor) s.links })

/-- SET_CLOCK_WINDOW, ERROR_LOG_CLEAR, READ_EVENTS, ACK_EVENTS and SET_EVENT_MASK (R155, R162, R183, R184, R185,
R187): the window, the log, the named flags of the link's own set, its own mask set; nothing else but the response. -/
def Obligations.ClockLogAndEventCommands : Prop :=
  ∀ (n : LinkId) (tag : Byte) (s : State), Takes s n →
    let l := look s.links n
    (∀ low high : Nat, low < 65536 → high < 65536 →
      (low ≤ high → exec (.setClockWindow n tag (leBytes 2 low ++ leBytes 2 high)) s = .next { s with
        monitor := { s.monitor with windowMin := low, windowMax := high }
        links := answered n 4 tag .ok [] s.links }) ∧
      (high < low → exec (.setClockWindow n tag (leBytes 2 low ++ leBytes 2 high)) s =
        .next { s with links := answered n 4 tag .outOfRange [] s.links })) ∧
    exec (.errorLogClear n tag []) s = .next { s with
      log := ⟨none, 0#14, 0, 0⟩
      links := answered n 0 tag .ok [] s.links } ∧
    (∃ groups : Nat,
      exec (.readEvents n tag []) s = .next { s with
        links := answered n 0 tag .ok
          (leBytes 6 l.flags.toNat ++ leBytes 6 l.masks.toNat ++ leBytes 2 groups) s.links } ∧
      groups < 512 ∧ ∀ g : Fin 9, groups.testBit g.val = true ↔ ∃ p : Fin 41,
        l.flags.getLsbD p.val = true ∧ l.masks.getLsbD p.val = false ∧
        g.val = (if p.val < 28 then p.val / 7 else if p.val < 32 then 4 else if p.val < 35 then 5
          else if p.val < 37 then 6 else if p.val < 38 then 7 else 8)) ∧
    (∀ named : BitVec 48,
      exec (.ackEvents n tag (leBytes 6 named.toNat)) s = .next { s with links := put s.links n { l with
        sdo := List.replicate 11 0#8
        phase := .holding ⟨tag, .ok, []⟩
        flags := (l.flags ||| BitVec.twoPow 41 38) &&& ~~~(named.setWidth 41) } } ∧
      exec (.setEventMask n tag (leBytes 6 named.toNat)) s = .next { s with links := put s.links n { l with
        sdo := List.replicate 11 0#8
        phase := .holding ⟨tag, .ok, []⟩
        flags := l.flags ||| BitVec.twoPow 41 38
        masks := named.setWidth 41 } }) ∧
    (notifyAsserted l = true ↔ l.inReset = false ∧
      ∃ p : Fin 41, l.flags.getLsbD p.val = true ∧ l.masks.getLsbD p.val = false)

/-! ### The laws every step keeps -/

/-- The reference-count law, the least length, the running law and what they rest on (R2, R28, R53, R26, R35, R71) are
kept by every step. -/
def Obligations.StepsKeepThePlayLaw : Prop :=
  ∀ s t : State, PlayLaw s → Sys2Proof.Machine.step s = .next t → PlayLaw t

/-- The layout law (R4) is kept by every step. -/
def Obligations.StepsKeepTheLayoutLaw : Prop :=
  ∀ s t : State, LayoutLaw s → Sys2Proof.Machine.step s = .next t → LayoutLaw t

/-- The editor law (R29) and the pending law (R46) are kept by every step. -/
def Obligations.StepsKeepTheEditorAndPendingLaws : Prop :=
  ∀ s t : State, EditorLaw s ∧ PendingLaw s → Sys2Proof.Machine.step s = .next t → EditorLaw t ∧ PendingLaw t

/-- The store's canonical form (the model's own, log entry 19), the pending-mark list's bounds (R142) and the write-back
law (R145) are kept by every step. -/
def Obligations.StepsKeepTheStoreRecords : Prop :=
  ∀ s t : State, StoreLaw s ∧ MarkLaw s ∧ WriteBackLaw s → Sys2Proof.Machine.step s = .next t →
    StoreLaw t ∧ MarkLaw t ∧ WriteBackLaw t

/-- The requesters' limits (R123), of the links, the prefetchers, the scrubber and the write side, and the prefetch law
(R128, R131) are kept by every step. -/
def Obligations.StepsKeepTheRequestLaws : Prop :=
  ∀ s t : State, LinkLaw s ∧ OneRequestLaw s ∧ PrefetchLaw s → Sys2Proof.Machine.step s = .next t →
    LinkLaw t ∧ OneRequestLaw t ∧ PrefetchLaw t

/-- The error-log law (R153) and the monitor's window and good gates (R157, R159) are kept by every step. -/
def Obligations.StepsKeepTheLogAndMonitorLaws : Prop :=
  ∀ s t : State, ErrorLogLaw s ∧ MonitorLaw s → Sys2Proof.Machine.step s = .next t → ErrorLogLaw t ∧ MonitorLaw t

/-- Every law above holds right after reset. -/
def Obligations.ResetKeepsEveryLaw : Prop :=
  PlayLaw State.reset ∧ LayoutLaw State.reset ∧ EditorLaw State.reset ∧ PendingLaw State.reset ∧
    StoreLaw State.reset ∧ MarkLaw State.reset ∧ WriteBackLaw State.reset ∧ LinkLaw State.reset ∧
    OneRequestLaw State.reset ∧ PrefetchLaw State.reset ∧ ErrorLogLaw State.reset ∧ MonitorLaw State.reset
end

