-- ==== Sys2Proof/Laws/Operands.lean ====
section
/-! SUPPORT. Payload fields read back what a payload writer put there (R178): one lemma per reader. -/

namespace Sys2Proof.Machine

open Sys2Proof

@[simp] theorem byteAt_cons_zero (b : Byte) (p : List Byte) : byteAt (b :: p) 0 = b.toNat := by simp [byteAt]

@[simp] theorem byteAt_cons_succ (b : Byte) (p : List Byte) (i : Nat) : byteAt (b :: p) (i + 1) = byteAt p i := by
  simp [byteAt]

@[simp] theorem fieldAt_cons_succ (b : Byte) (p : List Byte) (k : Nat) :
    ∀ i, fieldAt (b :: p) (i + 1) k = fieldAt p i k := by
  induction k with
  | zero => intro i; rfl
  | succ k ih => intro i; simp [fieldAt, ih]

@[simp] theorem length_leBytes (k : Nat) : ∀ n, (leBytes k n).length = k := by
  induction k with
  | zero => intro n; rfl
  | succ k ih => intro n; simp [leBytes, ih]

theorem fieldAt_leBytes_append (p : List Byte) (k : Nat) :
    ∀ n, fieldAt (leBytes k n ++ p) 0 k = n % 256 ^ k := by
  induction k with
  | zero => intro n; simp [fieldAt, Nat.mod_one]
  | succ k ih =>
    intro n
    simp only [leBytes, List.cons_append, fieldAt, byteAt_cons_zero, fieldAt_cons_succ, ih]
    rw [pow_succ', Nat.mod_mul]
    simp

theorem byteAt_append_right (a p : List Byte) (i : Nat) : byteAt (a ++ p) (a.length + i) = byteAt p i := by
  simp [byteAt, List.getElem?_append_right]

theorem fieldAt_append_right (a p : List Byte) (k : Nat) :
    ∀ i, fieldAt (a ++ p) (a.length + i) k = fieldAt p i k := by
  induction k with
  | zero => intro i; rfl
  | succ k ih => intro i; simp only [fieldAt, byteAt_append_right, Nat.add_assoc, ih]

@[simp] theorem toNat_oneByte (n : Nat) : (oneByte n).toNat = n % 256 := by simp [oneByte]

@[simp] theorem finAt_oneByte {n : Nat} (hn : n ≤ 256) (i : Fin n) (p : List Byte) :
    finAt n (oneByte i.val :: p) 0 = some i := by
  have h : i.val % 256 = i.val := Nat.mod_eq_of_lt (by omega)
  simp [finAt, h]

theorem finAt_cons_succ (n : Nat) (b : Byte) (p : List Byte) (i : Nat) : finAt n (b :: p) (i + 1) = finAt n p i := by
  simp [finAt]

@[simp] theorem flagAt_boolByte (b : Bool) (p : List Byte) : flagAt (boolByte b :: p) 0 = some b := by
  cases b <;> simp [flagAt, boolByte]

theorem flagAt_cons_succ (b : Byte) (p : List Byte) (i : Nat) : flagAt (b :: p) (i + 1) = flagAt p i := by
  simp [flagAt]

@[simp] theorem segmentAt_oneByte (id : SegId) (p : List Byte) : segmentAt (oneByte id.val :: p) 0 = id := by
  have h : id.val % 256 = id.val := Nat.mod_eq_of_lt id.isLt
  simp [segmentAt, h]

theorem clampStep_of_range {n : Nat} (h1 : 1 ≤ n) (h2 : n ≤ 16777216) : clampStep n = n := by
  simp only [clampStep, Config.oneSample]
  split <;> omega

end Sys2Proof.Machine
end

