-- ==== Sys2Proof/Laws/State.lean ====
section
/-! SUPPORT. One lemma per field per update of the state, so that no proof unfolds a record update, and what each
update does to the unit it names and to the others. -/

namespace Sys2Proof.Machine

open Sys2Proof

/-! ### State.modSlot -/

@[simp] theorem State.modSlot_pending (s : State) (id : SegId) (f : Slot → Slot) : (s.modSlot id f).pending = s.pending := rfl
@[simp] theorem State.modSlot_powerUps (s : State) (id : SegId) (f : Slot → Slot) : (s.modSlot id f).powerUps = s.powerUps := rfl
@[simp] theorem State.modSlot_slots (s : State) (id : SegId) (f : Slot → Slot) :
    (s.modSlot id f).slots = put s.slots id (f (look s.slots id)) := rfl
@[simp] theorem State.modSlot_free (s : State) (id : SegId) (f : Slot → Slot) : (s.modSlot id f).free = s.free := rfl
@[simp] theorem State.modSlot_store (s : State) (id : SegId) (f : Slot → Slot) : (s.modSlot id f).store = s.store := rfl
@[simp] theorem State.modSlot_tables (s : State) (id : SegId) (f : Slot → Slot) : (s.modSlot id f).tables = s.tables := rfl
@[simp] theorem State.modSlot_channels (s : State) (id : SegId) (f : Slot → Slot) : (s.modSlot id f).channels = s.channels := rfl
@[simp] theorem State.modSlot_prefetch (s : State) (id : SegId) (f : Slot → Slot) : (s.modSlot id f).prefetch = s.prefetch := rfl
@[simp] theorem State.modSlot_trigger (s : State) (id : SegId) (f : Slot → Slot) : (s.modSlot id f).trigger = s.trigger := rfl
@[simp] theorem State.modSlot_pins (s : State) (id : SegId) (f : Slot → Slot) : (s.modSlot id f).pins = s.pins := rfl
@[simp] theorem State.modSlot_patterns (s : State) (id : SegId) (f : Slot → Slot) : (s.modSlot id f).patterns = s.patterns := rfl
@[simp] theorem State.modSlot_arbiter (s : State) (id : SegId) (f : Slot → Slot) : (s.modSlot id f).arbiter = s.arbiter := rfl
@[simp] theorem State.modSlot_marks (s : State) (id : SegId) (f : Slot → Slot) : (s.modSlot id f).marks = s.marks := rfl
@[simp] theorem State.modSlot_writeBacks (s : State) (id : SegId) (f : Slot → Slot) : (s.modSlot id f).writeBacks = s.writeBacks := rfl
@[simp] theorem State.modSlot_writeSide (s : State) (id : SegId) (f : Slot → Slot) : (s.modSlot id f).writeSide = s.writeSide := rfl
@[simp] theorem State.modSlot_scrub (s : State) (id : SegId) (f : Slot → Slot) : (s.modSlot id f).scrub = s.scrub := rfl
@[simp] theorem State.modSlot_log (s : State) (id : SegId) (f : Slot → Slot) : (s.modSlot id f).log = s.log := rfl
@[simp] theorem State.modSlot_monitor (s : State) (id : SegId) (f : Slot → Slot) : (s.modSlot id f).monitor = s.monitor := rfl
@[simp] theorem State.modSlot_links (s : State) (id : SegId) (f : Slot → Slot) : (s.modSlot id f).links = s.links := rfl

/-! ### State.modTables -/

@[simp] theorem State.modTables_pending (s : State) (ch : ChanId) (f : Tables → Tables) : (s.modTables ch f).pending = s.pending := rfl
@[simp] theorem State.modTables_powerUps (s : State) (ch : ChanId) (f : Tables → Tables) : (s.modTables ch f).powerUps = s.powerUps := rfl
@[simp] theorem State.modTables_slots (s : State) (ch : ChanId) (f : Tables → Tables) : (s.modTables ch f).slots = s.slots := rfl
@[simp] theorem State.modTables_free (s : State) (ch : ChanId) (f : Tables → Tables) : (s.modTables ch f).free = s.free := rfl
@[simp] theorem State.modTables_store (s : State) (ch : ChanId) (f : Tables → Tables) : (s.modTables ch f).store = s.store := rfl
@[simp] theorem State.modTables_tables (s : State) (ch : ChanId) (f : Tables → Tables) :
    (s.modTables ch f).tables = put s.tables ch (f (look s.tables ch)) := rfl
@[simp] theorem State.modTables_channels (s : State) (ch : ChanId) (f : Tables → Tables) : (s.modTables ch f).channels = s.channels := rfl
@[simp] theorem State.modTables_prefetch (s : State) (ch : ChanId) (f : Tables → Tables) : (s.modTables ch f).prefetch = s.prefetch := rfl
@[simp] theorem State.modTables_trigger (s : State) (ch : ChanId) (f : Tables → Tables) : (s.modTables ch f).trigger = s.trigger := rfl
@[simp] theorem State.modTables_pins (s : State) (ch : ChanId) (f : Tables → Tables) : (s.modTables ch f).pins = s.pins := rfl
@[simp] theorem State.modTables_patterns (s : State) (ch : ChanId) (f : Tables → Tables) : (s.modTables ch f).patterns = s.patterns := rfl
@[simp] theorem State.modTables_arbiter (s : State) (ch : ChanId) (f : Tables → Tables) : (s.modTables ch f).arbiter = s.arbiter := rfl
@[simp] theorem State.modTables_marks (s : State) (ch : ChanId) (f : Tables → Tables) : (s.modTables ch f).marks = s.marks := rfl
@[simp] theorem State.modTables_writeBacks (s : State) (ch : ChanId) (f : Tables → Tables) : (s.modTables ch f).writeBacks = s.writeBacks := rfl
@[simp] theorem State.modTables_writeSide (s : State) (ch : ChanId) (f : Tables → Tables) : (s.modTables ch f).writeSide = s.writeSide := rfl
@[simp] theorem State.modTables_scrub (s : State) (ch : ChanId) (f : Tables → Tables) : (s.modTables ch f).scrub = s.scrub := rfl
@[simp] theorem State.modTables_log (s : State) (ch : ChanId) (f : Tables → Tables) : (s.modTables ch f).log = s.log := rfl
@[simp] theorem State.modTables_monitor (s : State) (ch : ChanId) (f : Tables → Tables) : (s.modTables ch f).monitor = s.monitor := rfl
@[simp] theorem State.modTables_links (s : State) (ch : ChanId) (f : Tables → Tables) : (s.modTables ch f).links = s.links := rfl

/-! ### State.modChannel -/

@[simp] theorem State.modChannel_pending (s : State) (ch : ChanId) (f : Channel → Channel) : (s.modChannel ch f).pending = s.pending := rfl
@[simp] theorem State.modChannel_powerUps (s : State) (ch : ChanId) (f : Channel → Channel) : (s.modChannel ch f).powerUps = s.powerUps := rfl
@[simp] theorem State.modChannel_slots (s : State) (ch : ChanId) (f : Channel → Channel) : (s.modChannel ch f).slots = s.slots := rfl
@[simp] theorem State.modChannel_free (s : State) (ch : ChanId) (f : Channel → Channel) : (s.modChannel ch f).free = s.free := rfl
@[simp] theorem State.modChannel_store (s : State) (ch : ChanId) (f : Channel → Channel) : (s.modChannel ch f).store = s.store := rfl
@[simp] theorem State.modChannel_tables (s : State) (ch : ChanId) (f : Channel → Channel) : (s.modChannel ch f).tables = s.tables := rfl
@[simp] theorem State.modChannel_channels (s : State) (ch : ChanId) (f : Channel → Channel) :
    (s.modChannel ch f).channels = put s.channels ch (f (look s.channels ch)) := rfl
@[simp] theorem State.modChannel_prefetch (s : State) (ch : ChanId) (f : Channel → Channel) : (s.modChannel ch f).prefetch = s.prefetch := rfl
@[simp] theorem State.modChannel_trigger (s : State) (ch : ChanId) (f : Channel → Channel) : (s.modChannel ch f).trigger = s.trigger := rfl
@[simp] theorem State.modChannel_pins (s : State) (ch : ChanId) (f : Channel → Channel) : (s.modChannel ch f).pins = s.pins := rfl
@[simp] theorem State.modChannel_patterns (s : State) (ch : ChanId) (f : Channel → Channel) : (s.modChannel ch f).patterns = s.patterns := rfl
@[simp] theorem State.modChannel_arbiter (s : State) (ch : ChanId) (f : Channel → Channel) : (s.modChannel ch f).arbiter = s.arbiter := rfl
@[simp] theorem State.modChannel_marks (s : State) (ch : ChanId) (f : Channel → Channel) : (s.modChannel ch f).marks = s.marks := rfl
@[simp] theorem State.modChannel_writeBacks (s : State) (ch : ChanId) (f : Channel → Channel) : (s.modChannel ch f).writeBacks = s.writeBacks := rfl
@[simp] theorem State.modChannel_writeSide (s : State) (ch : ChanId) (f : Channel → Channel) : (s.modChannel ch f).writeSide = s.writeSide := rfl
@[simp] theorem State.modChannel_scrub (s : State) (ch : ChanId) (f : Channel → Channel) : (s.modChannel ch f).scrub = s.scrub := rfl
@[simp] theorem State.modChannel_log (s : State) (ch : ChanId) (f : Channel → Channel) : (s.modChannel ch f).log = s.log := rfl
@[simp] theorem State.modChannel_monitor (s : State) (ch : ChanId) (f : Channel → Channel) : (s.modChannel ch f).monitor = s.monitor := rfl
@[simp] theorem State.modChannel_links (s : State) (ch : ChanId) (f : Channel → Channel) : (s.modChannel ch f).links = s.links := rfl

/-! ### State.modPrefetch -/

@[simp] theorem State.modPrefetch_pending (s : State) (ch : ChanId) (f : Prefetch → Prefetch) : (s.modPrefetch ch f).pending = s.pending := rfl
@[simp] theorem State.modPrefetch_powerUps (s : State) (ch : ChanId) (f : Prefetch → Prefetch) : (s.modPrefetch ch f).powerUps = s.powerUps := rfl
@[simp] theorem State.modPrefetch_slots (s : State) (ch : ChanId) (f : Prefetch → Prefetch) : (s.modPrefetch ch f).slots = s.slots := rfl
@[simp] theorem State.modPrefetch_free (s : State) (ch : ChanId) (f : Prefetch → Prefetch) : (s.modPrefetch ch f).free = s.free := rfl
@[simp] theorem State.modPrefetch_store (s : State) (ch : ChanId) (f : Prefetch → Prefetch) : (s.modPrefetch ch f).store = s.store := rfl
@[simp] theorem State.modPrefetch_tables (s : State) (ch : ChanId) (f : Prefetch → Prefetch) : (s.modPrefetch ch f).tables = s.tables := rfl
@[simp] theorem State.modPrefetch_channels (s : State) (ch : ChanId) (f : Prefetch → Prefetch) : (s.modPrefetch ch f).channels = s.channels := rfl
@[simp] theorem State.modPrefetch_prefetch (s : State) (ch : ChanId) (f : Prefetch → Prefetch) :
    (s.modPrefetch ch f).prefetch = put s.prefetch ch (f (look s.prefetch ch)) := rfl
@[simp] theorem State.modPrefetch_trigger (s : State) (ch : ChanId) (f : Prefetch → Prefetch) : (s.modPrefetch ch f).trigger = s.trigger := rfl
@[simp] theorem State.modPrefetch_pins (s : State) (ch : ChanId) (f : Prefetch → Prefetch) : (s.modPrefetch ch f).pins = s.pins := rfl
@[simp] theorem State.modPrefetch_patterns (s : State) (ch : ChanId) (f : Prefetch → Prefetch) : (s.modPrefetch ch f).patterns = s.patterns := rfl
@[simp] theorem State.modPrefetch_arbiter (s : State) (ch : ChanId) (f : Prefetch → Prefetch) : (s.modPrefetch ch f).arbiter = s.arbiter := rfl
@[simp] theorem State.modPrefetch_marks (s : State) (ch : ChanId) (f : Prefetch → Prefetch) : (s.modPrefetch ch f).marks = s.marks := rfl
@[simp] theorem State.modPrefetch_writeBacks (s : State) (ch : ChanId) (f : Prefetch → Prefetch) : (s.modPrefetch ch f).writeBacks = s.writeBacks := rfl
@[simp] theorem State.modPrefetch_writeSide (s : State) (ch : ChanId) (f : Prefetch → Prefetch) : (s.modPrefetch ch f).writeSide = s.writeSide := rfl
@[simp] theorem State.modPrefetch_scrub (s : State) (ch : ChanId) (f : Prefetch → Prefetch) : (s.modPrefetch ch f).scrub = s.scrub := rfl
@[simp] theorem State.modPrefetch_log (s : State) (ch : ChanId) (f : Prefetch → Prefetch) : (s.modPrefetch ch f).log = s.log := rfl
@[simp] theorem State.modPrefetch_monitor (s : State) (ch : ChanId) (f : Prefetch → Prefetch) : (s.modPrefetch ch f).monitor = s.monitor := rfl
@[simp] theorem State.modPrefetch_links (s : State) (ch : ChanId) (f : Prefetch → Prefetch) : (s.modPrefetch ch f).links = s.links := rfl

/-! ### State.modCond -/

@[simp] theorem State.modCond_pending (s : State) (k : CondId) (f : Condition → Condition) : (s.modCond k f).pending = s.pending := rfl
@[simp] theorem State.modCond_powerUps (s : State) (k : CondId) (f : Condition → Condition) : (s.modCond k f).powerUps = s.powerUps := rfl
@[simp] theorem State.modCond_slots (s : State) (k : CondId) (f : Condition → Condition) : (s.modCond k f).slots = s.slots := rfl
@[simp] theorem State.modCond_free (s : State) (k : CondId) (f : Condition → Condition) : (s.modCond k f).free = s.free := rfl
@[simp] theorem State.modCond_store (s : State) (k : CondId) (f : Condition → Condition) : (s.modCond k f).store = s.store := rfl
@[simp] theorem State.modCond_tables (s : State) (k : CondId) (f : Condition → Condition) : (s.modCond k f).tables = s.tables := rfl
@[simp] theorem State.modCond_channels (s : State) (k : CondId) (f : Condition → Condition) : (s.modCond k f).channels = s.channels := rfl
@[simp] theorem State.modCond_prefetch (s : State) (k : CondId) (f : Condition → Condition) : (s.modCond k f).prefetch = s.prefetch := rfl
@[simp] theorem State.modCond_trigger (s : State) (k : CondId) (f : Condition → Condition) :
    (s.modCond k f).trigger = { s.trigger with conds := put s.trigger.conds k (f (look s.trigger.conds k)) } := rfl
@[simp] theorem State.modCond_pins (s : State) (k : CondId) (f : Condition → Condition) : (s.modCond k f).pins = s.pins := rfl
@[simp] theorem State.modCond_patterns (s : State) (k : CondId) (f : Condition → Condition) : (s.modCond k f).patterns = s.patterns := rfl
@[simp] theorem State.modCond_arbiter (s : State) (k : CondId) (f : Condition → Condition) : (s.modCond k f).arbiter = s.arbiter := rfl
@[simp] theorem State.modCond_marks (s : State) (k : CondId) (f : Condition → Condition) : (s.modCond k f).marks = s.marks := rfl
@[simp] theorem State.modCond_writeBacks (s : State) (k : CondId) (f : Condition → Condition) : (s.modCond k f).writeBacks = s.writeBacks := rfl
@[simp] theorem State.modCond_writeSide (s : State) (k : CondId) (f : Condition → Condition) : (s.modCond k f).writeSide = s.writeSide := rfl
@[simp] theorem State.modCond_scrub (s : State) (k : CondId) (f : Condition → Condition) : (s.modCond k f).scrub = s.scrub := rfl
@[simp] theorem State.modCond_log (s : State) (k : CondId) (f : Condition → Condition) : (s.modCond k f).log = s.log := rfl
@[simp] theorem State.modCond_monitor (s : State) (k : CondId) (f : Condition → Condition) : (s.modCond k f).monitor = s.monitor := rfl
@[simp] theorem State.modCond_links (s : State) (k : CondId) (f : Condition → Condition) : (s.modCond k f).links = s.links := rfl

/-! ### State.modPin -/

@[simp] theorem State.modPin_pending (s : State) (i : PinId) (f : MarkerPin → MarkerPin) : (s.modPin i f).pending = s.pending := rfl
@[simp] theorem State.modPin_powerUps (s : State) (i : PinId) (f : MarkerPin → MarkerPin) : (s.modPin i f).powerUps = s.powerUps := rfl
@[simp] theorem State.modPin_slots (s : State) (i : PinId) (f : MarkerPin → MarkerPin) : (s.modPin i f).slots = s.slots := rfl
@[simp] theorem State.modPin_free (s : State) (i : PinId) (f : MarkerPin → MarkerPin) : (s.modPin i f).free = s.free := rfl
@[simp] theorem State.modPin_store (s : State) (i : PinId) (f : MarkerPin → MarkerPin) : (s.modPin i f).store = s.store := rfl
@[simp] theorem State.modPin_tables (s : State) (i : PinId) (f : MarkerPin → MarkerPin) : (s.modPin i f).tables = s.tables := rfl
@[simp] theorem State.modPin_channels (s : State) (i : PinId) (f : MarkerPin → MarkerPin) : (s.modPin i f).channels = s.channels := rfl
@[simp] theorem State.modPin_prefetch (s : State) (i : PinId) (f : MarkerPin → MarkerPin) : (s.modPin i f).prefetch = s.prefetch := rfl
@[simp] theorem State.modPin_trigger (s : State) (i : PinId) (f : MarkerPin → MarkerPin) : (s.modPin i f).trigger = s.trigger := rfl
@[simp] theorem State.modPin_pins (s : State) (i : PinId) (f : MarkerPin → MarkerPin) :
    (s.modPin i f).pins = put s.pins i (f (look s.pins i)) := rfl
@[simp] theorem State.modPin_patterns (s : State) (i : PinId) (f : MarkerPin → MarkerPin) : (s.modPin i f).patterns = s.patterns := rfl
@[simp] theorem State.modPin_arbiter (s : State) (i : PinId) (f : MarkerPin → MarkerPin) : (s.modPin i f).arbiter = s.arbiter := rfl
@[simp] theorem State.modPin_marks (s : State) (i : PinId) (f : MarkerPin → MarkerPin) : (s.modPin i f).marks = s.marks := rfl
@[simp] theorem State.modPin_writeBacks (s : State) (i : PinId) (f : MarkerPin → MarkerPin) : (s.modPin i f).writeBacks = s.writeBacks := rfl
@[simp] theorem State.modPin_writeSide (s : State) (i : PinId) (f : MarkerPin → MarkerPin) : (s.modPin i f).writeSide = s.writeSide := rfl
@[simp] theorem State.modPin_scrub (s : State) (i : PinId) (f : MarkerPin → MarkerPin) : (s.modPin i f).scrub = s.scrub := rfl
@[simp] theorem State.modPin_log (s : State) (i : PinId) (f : MarkerPin → MarkerPin) : (s.modPin i f).log = s.log := rfl
@[simp] theorem State.modPin_monitor (s : State) (i : PinId) (f : MarkerPin → MarkerPin) : (s.modPin i f).monitor = s.monitor := rfl
@[simp] theorem State.modPin_links (s : State) (i : PinId) (f : MarkerPin → MarkerPin) : (s.modPin i f).links = s.links := rfl

/-! ### State.modLink -/

@[simp] theorem State.modLink_pending (s : State) (n : LinkId) (f : Link → Link) : (s.modLink n f).pending = s.pending := rfl
@[simp] theorem State.modLink_powerUps (s : State) (n : LinkId) (f : Link → Link) : (s.modLink n f).powerUps = s.powerUps := rfl
@[simp] theorem State.modLink_slots (s : State) (n : LinkId) (f : Link → Link) : (s.modLink n f).slots = s.slots := rfl
@[simp] theorem State.modLink_free (s : State) (n : LinkId) (f : Link → Link) : (s.modLink n f).free = s.free := rfl
@[simp] theorem State.modLink_store (s : State) (n : LinkId) (f : Link → Link) : (s.modLink n f).store = s.store := rfl
@[simp] theorem State.modLink_tables (s : State) (n : LinkId) (f : Link → Link) : (s.modLink n f).tables = s.tables := rfl
@[simp] theorem State.modLink_channels (s : State) (n : LinkId) (f : Link → Link) : (s.modLink n f).channels = s.channels := rfl
@[simp] theorem State.modLink_prefetch (s : State) (n : LinkId) (f : Link → Link) : (s.modLink n f).prefetch = s.prefetch := rfl
@[simp] theorem State.modLink_trigger (s : State) (n : LinkId) (f : Link → Link) : (s.modLink n f).trigger = s.trigger := rfl
@[simp] theorem State.modLink_pins (s : State) (n : LinkId) (f : Link → Link) : (s.modLink n f).pins = s.pins := rfl
@[simp] theorem State.modLink_patterns (s : State) (n : LinkId) (f : Link → Link) : (s.modLink n f).patterns = s.patterns := rfl
@[simp] theorem State.modLink_arbiter (s : State) (n : LinkId) (f : Link → Link) : (s.modLink n f).arbiter = s.arbiter := rfl
@[simp] theorem State.modLink_marks (s : State) (n : LinkId) (f : Link → Link) : (s.modLink n f).marks = s.marks := rfl
@[simp] theorem State.modLink_writeBacks (s : State) (n : LinkId) (f : Link → Link) : (s.modLink n f).writeBacks = s.writeBacks := rfl
@[simp] theorem State.modLink_writeSide (s : State) (n : LinkId) (f : Link → Link) : (s.modLink n f).writeSide = s.writeSide := rfl
@[simp] theorem State.modLink_scrub (s : State) (n : LinkId) (f : Link → Link) : (s.modLink n f).scrub = s.scrub := rfl
@[simp] theorem State.modLink_log (s : State) (n : LinkId) (f : Link → Link) : (s.modLink n f).log = s.log := rfl
@[simp] theorem State.modLink_monitor (s : State) (n : LinkId) (f : Link → Link) : (s.modLink n f).monitor = s.monitor := rfl
@[simp] theorem State.modLink_links (s : State) (n : LinkId) (f : Link → Link) :
    (s.modLink n f).links = put s.links n (f (look s.links n)) := rfl

/-! ### State.setPattern -/

@[simp] theorem State.setPattern_pending (s : State) (ch : ChanId) (x : BitVec 4) : (s.setPattern ch x).pending = s.pending := rfl
@[simp] theorem State.setPattern_powerUps (s : State) (ch : ChanId) (x : BitVec 4) : (s.setPattern ch x).powerUps = s.powerUps := rfl
@[simp] theorem State.setPattern_slots (s : State) (ch : ChanId) (x : BitVec 4) : (s.setPattern ch x).slots = s.slots := rfl
@[simp] theorem State.setPattern_free (s : State) (ch : ChanId) (x : BitVec 4) : (s.setPattern ch x).free = s.free := rfl
@[simp] theorem State.setPattern_store (s : State) (ch : ChanId) (x : BitVec 4) : (s.setPattern ch x).store = s.store := rfl
@[simp] theorem State.setPattern_tables (s : State) (ch : ChanId) (x : BitVec 4) : (s.setPattern ch x).tables = s.tables := rfl
@[simp] theorem State.setPattern_channels (s : State) (ch : ChanId) (x : BitVec 4) : (s.setPattern ch x).channels = s.channels := rfl
@[simp] theorem State.setPattern_prefetch (s : State) (ch : ChanId) (x : BitVec 4) : (s.setPattern ch x).prefetch = s.prefetch := rfl
@[simp] theorem State.setPattern_trigger (s : State) (ch : ChanId) (x : BitVec 4) : (s.setPattern ch x).trigger = s.trigger := rfl
@[simp] theorem State.setPattern_pins (s : State) (ch : ChanId) (x : BitVec 4) : (s.setPattern ch x).pins = s.pins := rfl
@[simp] theorem State.setPattern_patterns (s : State) (ch : ChanId) (x : BitVec 4) :
    (s.setPattern ch x).patterns = put s.patterns ch x := rfl
@[simp] theorem State.setPattern_arbiter (s : State) (ch : ChanId) (x : BitVec 4) : (s.setPattern ch x).arbiter = s.arbiter := rfl
@[simp] theorem State.setPattern_marks (s : State) (ch : ChanId) (x : BitVec 4) : (s.setPattern ch x).marks = s.marks := rfl
@[simp] theorem State.setPattern_writeBacks (s : State) (ch : ChanId) (x : BitVec 4) : (s.setPattern ch x).writeBacks = s.writeBacks := rfl
@[simp] theorem State.setPattern_writeSide (s : State) (ch : ChanId) (x : BitVec 4) : (s.setPattern ch x).writeSide = s.writeSide := rfl
@[simp] theorem State.setPattern_scrub (s : State) (ch : ChanId) (x : BitVec 4) : (s.setPattern ch x).scrub = s.scrub := rfl
@[simp] theorem State.setPattern_log (s : State) (ch : ChanId) (x : BitVec 4) : (s.setPattern ch x).log = s.log := rfl
@[simp] theorem State.setPattern_monitor (s : State) (ch : ChanId) (x : BitVec 4) : (s.setPattern ch x).monitor = s.monitor := rfl
@[simp] theorem State.setPattern_links (s : State) (ch : ChanId) (x : BitVec 4) : (s.setPattern ch x).links = s.links := rfl

/-! ### State.setPort -/

@[simp] theorem State.setPort_pending (s : State) (t : Option Transfer) : (s.setPort t).pending = s.pending := rfl
@[simp] theorem State.setPort_powerUps (s : State) (t : Option Transfer) : (s.setPort t).powerUps = s.powerUps := rfl
@[simp] theorem State.setPort_slots (s : State) (t : Option Transfer) : (s.setPort t).slots = s.slots := rfl
@[simp] theorem State.setPort_free (s : State) (t : Option Transfer) : (s.setPort t).free = s.free := rfl
@[simp] theorem State.setPort_store (s : State) (t : Option Transfer) : (s.setPort t).store = s.store := rfl
@[simp] theorem State.setPort_tables (s : State) (t : Option Transfer) : (s.setPort t).tables = s.tables := rfl
@[simp] theorem State.setPort_channels (s : State) (t : Option Transfer) : (s.setPort t).channels = s.channels := rfl
@[simp] theorem State.setPort_prefetch (s : State) (t : Option Transfer) : (s.setPort t).prefetch = s.prefetch := rfl
@[simp] theorem State.setPort_trigger (s : State) (t : Option Transfer) : (s.setPort t).trigger = s.trigger := rfl
@[simp] theorem State.setPort_pins (s : State) (t : Option Transfer) : (s.setPort t).pins = s.pins := rfl
@[simp] theorem State.setPort_patterns (s : State) (t : Option Transfer) : (s.setPort t).patterns = s.patterns := rfl
@[simp] theorem State.setPort_arbiter (s : State) (t : Option Transfer) :
    (s.setPort t).arbiter = { s.arbiter with port := t } := rfl
@[simp] theorem State.setPort_marks (s : State) (t : Option Transfer) : (s.setPort t).marks = s.marks := rfl
@[simp] theorem State.setPort_writeBacks (s : State) (t : Option Transfer) : (s.setPort t).writeBacks = s.writeBacks := rfl
@[simp] theorem State.setPort_writeSide (s : State) (t : Option Transfer) : (s.setPort t).writeSide = s.writeSide := rfl
@[simp] theorem State.setPort_scrub (s : State) (t : Option Transfer) : (s.setPort t).scrub = s.scrub := rfl
@[simp] theorem State.setPort_log (s : State) (t : Option Transfer) : (s.setPort t).log = s.log := rfl
@[simp] theorem State.setPort_monitor (s : State) (t : Option Transfer) : (s.setPort t).monitor = s.monitor := rfl
@[simp] theorem State.setPort_links (s : State) (t : Option Transfer) : (s.setPort t).links = s.links := rfl

/-! ### State.raiseOn -/

@[simp] theorem State.raiseOn_pending (s : State) (n : LinkId) (e : EventFlag) : (s.raiseOn n e).pending = s.pending := rfl
@[simp] theorem State.raiseOn_powerUps (s : State) (n : LinkId) (e : EventFlag) : (s.raiseOn n e).powerUps = s.powerUps := rfl
@[simp] theorem State.raiseOn_slots (s : State) (n : LinkId) (e : EventFlag) : (s.raiseOn n e).slots = s.slots := rfl
@[simp] theorem State.raiseOn_free (s : State) (n : LinkId) (e : EventFlag) : (s.raiseOn n e).free = s.free := rfl
@[simp] theorem State.raiseOn_store (s : State) (n : LinkId) (e : EventFlag) : (s.raiseOn n e).store = s.store := rfl
@[simp] theorem State.raiseOn_tables (s : State) (n : LinkId) (e : EventFlag) : (s.raiseOn n e).tables = s.tables := rfl
@[simp] theorem State.raiseOn_channels (s : State) (n : LinkId) (e : EventFlag) : (s.raiseOn n e).channels = s.channels := rfl
@[simp] theorem State.raiseOn_prefetch (s : State) (n : LinkId) (e : EventFlag) : (s.raiseOn n e).prefetch = s.prefetch := rfl
@[simp] theorem State.raiseOn_trigger (s : State) (n : LinkId) (e : EventFlag) : (s.raiseOn n e).trigger = s.trigger := rfl
@[simp] theorem State.raiseOn_pins (s : State) (n : LinkId) (e : EventFlag) : (s.raiseOn n e).pins = s.pins := rfl
@[simp] theorem State.raiseOn_patterns (s : State) (n : LinkId) (e : EventFlag) : (s.raiseOn n e).patterns = s.patterns := rfl
@[simp] theorem State.raiseOn_arbiter (s : State) (n : LinkId) (e : EventFlag) : (s.raiseOn n e).arbiter = s.arbiter := rfl
@[simp] theorem State.raiseOn_marks (s : State) (n : LinkId) (e : EventFlag) : (s.raiseOn n e).marks = s.marks := rfl
@[simp] theorem State.raiseOn_writeBacks (s : State) (n : LinkId) (e : EventFlag) : (s.raiseOn n e).writeBacks = s.writeBacks := rfl
@[simp] theorem State.raiseOn_writeSide (s : State) (n : LinkId) (e : EventFlag) : (s.raiseOn n e).writeSide = s.writeSide := rfl
@[simp] theorem State.raiseOn_scrub (s : State) (n : LinkId) (e : EventFlag) : (s.raiseOn n e).scrub = s.scrub := rfl
@[simp] theorem State.raiseOn_log (s : State) (n : LinkId) (e : EventFlag) : (s.raiseOn n e).log = s.log := rfl
@[simp] theorem State.raiseOn_monitor (s : State) (n : LinkId) (e : EventFlag) : (s.raiseOn n e).monitor = s.monitor := rfl
@[simp] theorem State.raiseOn_links (s : State) (n : LinkId) (e : EventFlag) :
    (s.raiseOn n e).links = put s.links n { look s.links n with flags := (look s.links n).flags ||| flagBit e } := rfl

/-! ### State.raise -/

@[simp] theorem State.raise_pending (s : State) (e : EventFlag) : (s.raise e).pending = s.pending := rfl
@[simp] theorem State.raise_powerUps (s : State) (e : EventFlag) : (s.raise e).powerUps = s.powerUps := rfl
@[simp] theorem State.raise_slots (s : State) (e : EventFlag) : (s.raise e).slots = s.slots := rfl
@[simp] theorem State.raise_free (s : State) (e : EventFlag) : (s.raise e).free = s.free := rfl
@[simp] theorem State.raise_store (s : State) (e : EventFlag) : (s.raise e).store = s.store := rfl
@[simp] theorem State.raise_tables (s : State) (e : EventFlag) : (s.raise e).tables = s.tables := rfl
@[simp] theorem State.raise_channels (s : State) (e : EventFlag) : (s.raise e).channels = s.channels := rfl
@[simp] theorem State.raise_prefetch (s : State) (e : EventFlag) : (s.raise e).prefetch = s.prefetch := rfl
@[simp] theorem State.raise_trigger (s : State) (e : EventFlag) : (s.raise e).trigger = s.trigger := rfl
@[simp] theorem State.raise_pins (s : State) (e : EventFlag) : (s.raise e).pins = s.pins := rfl
@[simp] theorem State.raise_patterns (s : State) (e : EventFlag) : (s.raise e).patterns = s.patterns := rfl
@[simp] theorem State.raise_arbiter (s : State) (e : EventFlag) : (s.raise e).arbiter = s.arbiter := rfl
@[simp] theorem State.raise_marks (s : State) (e : EventFlag) : (s.raise e).marks = s.marks := rfl
@[simp] theorem State.raise_writeBacks (s : State) (e : EventFlag) : (s.raise e).writeBacks = s.writeBacks := rfl
@[simp] theorem State.raise_writeSide (s : State) (e : EventFlag) : (s.raise e).writeSide = s.writeSide := rfl
@[simp] theorem State.raise_scrub (s : State) (e : EventFlag) : (s.raise e).scrub = s.scrub := rfl
@[simp] theorem State.raise_log (s : State) (e : EventFlag) : (s.raise e).log = s.log := rfl
@[simp] theorem State.raise_monitor (s : State) (e : EventFlag) : (s.raise e).monitor = s.monitor := rfl

/-! ### Both links' flag sets -/

theorem State.raise_links_look (s : State) (e : EventFlag) (n : LinkId) :
    look (s.raise e).links n = { look s.links n with flags := (look s.links n).flags ||| flagBit e } := by
  fin_cases n <;> simp [State.raise, State.raiseOn]

@[simp] theorem State.raise_phase (s : State) (e : EventFlag) (n : LinkId) :
    (look (s.raise e).links n).phase = (look s.links n).phase := by rw [State.raise_links_look]

@[simp] theorem State.raise_request (s : State) (e : EventFlag) (n : LinkId) :
    (look (s.raise e).links n).request = (look s.links n).request := by rw [State.raise_links_look]

@[simp] theorem State.raise_masks (s : State) (e : EventFlag) (n : LinkId) :
    (look (s.raise e).links n).masks = (look s.links n).masks := by rw [State.raise_links_look]

@[simp] theorem State.raise_flags (s : State) (e : EventFlag) (n : LinkId) :
    (look (s.raise e).links n).flags = (look s.links n).flags ||| flagBit e := by rw [State.raise_links_look]

theorem otherLink_ne (n : LinkId) : otherLink n ≠ n := by fin_cases n <;> decide

end Sys2Proof.Machine
end

