-- ==== Sys2Proof/Laws/Store.lean ====
section
/-! SUPPORT. The store's memory: a read after a write, and that every write keeps the canonical form. -/

namespace Sys2Proof.Machine

open Sys2Proof

theorem lineIn_writeLineIn_same (m : List (Nat × StoredLine)) (a : Nat) (l : StoredLine) :
    lineIn (writeLineIn m a l) a = some l := by
  induction m with
  | nil => simp [writeLineIn, lineIn]
  | cons x rest ih =>
    simp only [writeLineIn]
    split
    · simp [lineIn]
    · split
      · simp [lineIn]
      · simp only [lineIn]
        split
        · omega
        · exact ih

theorem lineIn_writeLineIn_ne (m : List (Nat × StoredLine)) {a b : Nat} (l : StoredLine) (h : a ≠ b) :
    lineIn (writeLineIn m a l) b = lineIn m b := by
  induction m with
  | nil => simp [writeLineIn, lineIn, h]
  | cons x rest ih =>
    simp only [writeLineIn]
    split
    · simp [lineIn, h]
    · split
      · next h2 => simp only [lineIn, if_neg h]; rw [if_neg (by omega)]
      · simp only [lineIn, ih]

theorem risesFrom_mono {m : List (Nat × StoredLine)} {lo hi : Nat} (h : lo ≤ hi) (hm : risesFrom hi m = true) :
    risesFrom lo m = true := by
  cases m with
  | nil => rfl
  | cons x rest =>
    simp only [risesFrom, Bool.and_eq_true, decide_eq_true_eq] at hm ⊢
    exact ⟨⟨by omega, hm.1.2⟩, hm.2⟩

theorem risesFrom_writeLineIn (m : List (Nat × StoredLine)) (a : Nat) (l : StoredLine) :
    ∀ lo, risesFrom lo m = true → lo ≤ a → a < Config.storeLines → risesFrom lo (writeLineIn m a l) = true := by
  induction m with
  | nil =>
    intro lo _ h1 h2
    simp [writeLineIn, risesFrom, h1, h2]
  | cons x rest ih =>
    intro lo hm h1 h2
    simp only [risesFrom, Bool.and_eq_true, decide_eq_true_eq] at hm
    simp only [writeLineIn]
    split
    · next h => simp [risesFrom, h1, h2, hm.1.2, hm.2]; omega
    · split
      · next h => subst h; simp [risesFrom, h1, h2, hm.2]
      · simp only [risesFrom, Bool.and_eq_true, decide_eq_true_eq]
        exact ⟨hm.1, ih _ hm.2 (by omega) h2⟩

/-- A write inside the store keeps the canonical form. -/
theorem Memory.wf_write {m : List (Nat × StoredLine)} {a : Nat} (l : StoredLine) (hm : Memory.wf m = true)
    (ha : a < Config.storeLines) : Memory.wf (writeLineIn m a l) = true :=
  risesFrom_writeLineIn m a l 0 hm (Nat.zero_le a) ha

theorem reset_store_wf : Memory.wf State.reset.store = true := rfl

theorem lineAt_putLine_same (s : State) (a : Nat) (l : StoredLine) : lineAt (putLine a l s) a = l := by
  simp [lineAt, putLine, lineIn_writeLineIn_same]

theorem lineAt_putLine_ne (s : State) {a b : Nat} (l : StoredLine) (h : a ≠ b) :
    lineAt (putLine a l s) b = lineAt s b := by
  simp [lineAt, putLine, lineIn_writeLineIn_ne _ _ h]

theorem wf_putLine {s : State} {a : Nat} (l : StoredLine) (hm : Memory.wf s.store = true)
    (ha : a < Config.storeLines) : Memory.wf (putLine a l s).store = true := Memory.wf_write l hm ha

theorem wf_writeData {s : State} {a : Nat} (d : LineData) (hm : Memory.wf s.store = true)
    (ha : a < Config.storeLines) : Memory.wf (writeData a d s).store = true := wf_putLine _ hm ha

theorem wf_writeMark {s : State} {a : Nat} (hm : Memory.wf s.store = true) (ha : a < Config.storeLines) :
    Memory.wf (writeMark a s).store = true := wf_putLine _ hm ha

theorem wf_strike {s : State} {a : Nat} (u : LineBits) (hm : Memory.wf s.store = true)
    (ha : a < Config.storeLines) : Memory.wf (strike a u s).store = true := by
  unfold strike
  split
  · exact hm
  · exact wf_putLine _ hm ha

@[simp] theorem strike_zero (a : Nat) (s : State) : strike a 0#72 s = s := by simp [strike]

end Sys2Proof.Machine
end

