-- ==== Sys2Proof/Laws/Ops.lean ====
section
/-! SUPPORT. One lemma for each shared operation that says once what it can do: the hearing of transfers and the
taking of frames, responses, the flush, the swap, the write side, and the end of a store transfer. -/

namespace Sys2Proof.Machine

open Sys2Proof

/-- The three things hearing a transfer can come to. -/
theorem hearTransfer_cases (n : LinkId) (judge : State → State) (s : State) :
    ((look s.links n).inReset = true ∧ hearTransfer n judge s = s) ∨
    ((look s.links n).inReset = false ∧ (look s.links n).ignoring = true ∧
      hearTransfer n judge s = s.modLink n fun l => { l with ignoring := false }) ∨
    ((look s.links n).inReset = false ∧ (look s.links n).ignoring = false ∧ hearTransfer n judge s = judge s) := by
  unfold hearTransfer
  cases (look s.links n).inReset <;> cases (look s.links n).ignoring <;> simp

/-- A transfer with no complete byte is heard and judged by nothing. -/
@[simp] theorem execFrameError_no_bytes (n : LinkId) (s : State) :
    execFrameError n [] s = .next (hearTransfer n id s) := rfl

/-- What a response does to the state: the link's phase and its RESPONSE_READY position, nothing else. -/
theorem respond_eq (n : LinkId) (tag : Byte) (status : Status) (payload : List Byte) (s : State) :
    respond n tag status payload s =
      { s with links := put s.links n { look s.links n with
          phase := .holding ⟨tag, status, payload⟩
          flags := (look s.links n).flags ||| flagBit .responseReady } } := by
  simp only [respond, State.raiseOn, State.modLink, look_put_same]
  congr 1
  apply vector_ext_look
  intro m
  simp only [look_put]
  split <;> rfl

theorem driveZeros_eq (n : LinkId) (k : Nat) (s : State) :
    driveZeros n k s = { s with links := put s.links n { look s.links n with sdo := List.replicate k 0#8 } } := rfl

/-- A frame on a link that hears and is FREE, its length allowed: the command is judged. -/
theorem takeFrame_judged {n : LinkId} {code : Byte} {payload : List Byte} {s : State} (tag : Byte)
    (judge : State → State) (h1 : (look s.links n).inReset = false) (h2 : (look s.links n).ignoring = false)
    (h3 : (look s.links n).phase = .free) (h4 : payload.length ≤ Config.receiveBuffer)
    (h5 : layoutAllows code payload.length ≠ some false) :
    takeFrame n tag code payload judge s = judge (driveZeros n (5 + payload.length) s) := by
  have h6 : ¬ Config.receiveBuffer < payload.length := by omega
  simp [takeFrame, judgeFrame, hearTransfer, h1, h2, driveZeros, State.modLink, h3, h5, h6]

/-- A frame on a link that hears and is FREE, its length not allowed: BAD_LENGTH. -/
theorem takeFrame_badLength {n : LinkId} {code : Byte} {payload : List Byte} {s : State} (tag : Byte)
    (judge : State → State) (h1 : (look s.links n).inReset = false) (h2 : (look s.links n).ignoring = false)
    (h3 : (look s.links n).phase = .free) (h4 : payload.length ≤ Config.receiveBuffer)
    (h5 : layoutAllows code payload.length = some false) :
    takeFrame n tag code payload judge s = refuse n tag .badLength (driveZeros n (5 + payload.length) s) := by
  have h6 : ¬ Config.receiveBuffer < payload.length := by omega
  simp [takeFrame, judgeFrame, hearTransfer, h1, h2, driveZeros, State.modLink, h3, h5, h6]

/-- Everything taking a frame can come to. -/
theorem takeFrame_cases (n : LinkId) (tag code : Byte) (payload : List Byte) (judge : State → State) (s : State) :
    takeFrame n tag code payload judge s = s ∨
    takeFrame n tag code payload judge s = s.modLink n (fun l => { l with ignoring := false }) ∨
    takeFrame n tag code payload judge s = (driveZeros n (5 + payload.length) s).raiseOn n .frameError ∨
    takeFrame n tag code payload judge s = (driveZeros n (5 + payload.length) s).raiseOn n .commandDropped ∨
    takeFrame n tag code payload judge s = refuse n tag .badLength (driveZeros n (5 + payload.length) s) ∨
    takeFrame n tag code payload judge s = judge (driveZeros n (5 + payload.length) s) := by
  unfold takeFrame
  obtain ⟨-, h⟩ | ⟨-, -, h⟩ | ⟨-, -, h⟩ := hearTransfer_cases n (judgeFrame n tag code payload judge) s
  · exact .inl h
  · exact .inr (.inl h)
  · rw [h]
    simp only [judgeFrame]
    by_cases h1 : Config.receiveBuffer < payload.length
    · simp [h1]
    · by_cases h2 : layoutAllows code payload.length = some false <;>
        cases (look (driveZeros n (5 + payload.length) s).links n).phase <;> simp [h1, h2]

/-- The write side only ever changes its own request by presenting. -/
theorem presentWriteSide_cases (s : State) :
    presentWriteSide s = s ∨ ∃ r, s.writeSide = none ∧ presentWriteSide s = { s with writeSide := some r } := by
  unfold presentWriteSide
  cases hw : s.writeSide with
  | some x => simp [writeSideBusy, hw]
  | none =>
    split
    · exact .inl rfl
    · split
      · exact .inr ⟨_, rfl, rfl⟩
      · exact .inr ⟨_, rfl, rfl⟩
      · exact .inl rfl

/-- A withdrawal takes away the write side's request or leaves the state. -/
theorem withdrawWriteSide_cases (drop : WriteRequest → Bool) (s : State) :
    withdrawWriteSide drop s = s ∨ withdrawWriteSide drop s = { s with writeSide := none } := by
  unfold withdrawWriteSide
  split
  · exact .inl rfl
  · split
    · exact .inr rfl
    · exact .inl rfl

/-- The write side with no request of its own presents the next, one at a time. -/
theorem presentWriteSide_eq (s : State) :
    presentWriteSide s =
      { s with writeSide := writeSideAfter keepsAll s.marks s.writeBacks s.arbiter.port s.writeSide } := by
  have h : writeSideBusy s = (s.writeSide.isSome || writeInTransfer s.arbiter.port) := by
    unfold writeSideBusy writeInTransfer
    rcases s.arbiter.port with _ | x
    · rfl
    · cases x <;> rfl
  have self : ∀ w, s.writeSide = w → ({ s with writeSide := w } : State) = s := fun _ e => e ▸ rfl
  unfold presentWriteSide writeSideAfter
  cases hw : s.writeSide with
  | some r => simp [h, hw, keepsAll, Option.filter, self]
  | none =>
    cases hp : writeInTransfer s.arbiter.port with
    | true => simp [h, hw, hp, self]
    | false =>
      simp only [h, hw, hp, Option.isSome_none, Bool.or_self, Bool.false_eq_true, if_false, Option.filter_none]
      split <;> simp_all [nextWrite]

/-- The same after a withdrawal, in the terms of the statements. -/
theorem presentWriteSide_withdrawn (drop : WriteRequest → Bool) (s : State) :
    presentWriteSide (withdrawWriteSide drop s) =
      { s with writeSide := writeSideAfter drop s.marks s.writeBacks s.arbiter.port s.writeSide } := by
  rw [presentWriteSide_eq]
  unfold withdrawWriteSide
  cases hw : s.writeSide with
  | none => simp [writeSideAfter, hw]
  | some r => cases hd : drop r <;> simp [writeSideAfter, Option.filter, keepsAll, hw, hd]

/-- What a START does to a channel's record before the entry begins. -/
theorem startRecord_eq (c : Channel) : startRecord c = { c with last := c.park } := rfl

/-- A prefetcher's request: nothing, or the place wanted waiting and the next place after it. -/
theorem presentPrefetch_cases (ch : ChanId) (s : State) :
    presentPrefetch ch s = s ∨
    ∃ pos r, wantsLine s ch = true ∧ nextWanted s ch = some pos ∧ beyondStop s ch pos.place = false ∧
      requestFor s ch pos = some r ∧
      presentPrefetch ch s = s.modPrefetch ch fun p => { p with waiting := some r, next := posAfter s ch pos } := by
  unfold presentPrefetch
  cases h1 : wantsLine s ch with
  | false => simp
  | true =>
    simp only [if_true]
    cases h2 : nextWanted s ch with
    | none => exact .inl rfl
    | some pos =>
      cases h3 : beyondStop s ch pos.place with
      | true => simp [h3]
      | false =>
        cases h4 : requestFor s ch pos with
        | none => simp [h3, h4]
        | some r => exact .inr ⟨pos, r, trivial, rfl, h3, h4, by simp [h3, h4]⟩

/-- A link's request is presented, or the state stays. -/
theorem presentLink_cases (n : LinkId) (s : State) :
    presentLink n s = s ∨
    ∃ tag work, (look s.links n).phase = .executing tag work ∧ (look s.links n).request = none ∧
      linkInTransfer s n = false ∧
      presentLink n s = s.modLink n fun l => { l with request := workRequest work } := by
  unfold presentLink
  cases h1 : (look s.links n).phase with
  | free => exact .inl rfl
  | holding r => exact .inl rfl
  | executing tag work =>
    cases h2 : (look s.links n).request with
    | some x => simp
    | none =>
      cases h3 : linkInTransfer s n with
      | true => simp
      | false => exact .inr ⟨tag, work, rfl, rfl, rfl, by simp⟩

/-- What a flush leaves of the prefetcher. -/
theorem flush_prefetch_same (ch : ChanId) (s : State) :
    look (flush ch s).prefetch ch = ⟨[], freshPath (look s.channels ch), 0, none⟩ := by
  simp [flush]

theorem flush_prefetch_ne {ch d : ChanId} (s : State) (h : ch ≠ d) :
    look (flush ch s).prefetch d = look s.prefetch d := by
  simp [flush, look_put_ne _ _ h]

@[simp] theorem flush_channels (ch : ChanId) (s : State) : (flush ch s).channels = s.channels := rfl
@[simp] theorem flush_tables (ch : ChanId) (s : State) : (flush ch s).tables = s.tables := rfl
@[simp] theorem flush_links (ch : ChanId) (s : State) : (flush ch s).links = s.links := rfl
@[simp] theorem flush_slots (ch : ChanId) (s : State) : (flush ch s).slots = s.slots := rfl
@[simp] theorem flush_store (ch : ChanId) (s : State) : (flush ch s).store = s.store := rfl
@[simp] theorem flush_pending (ch : ChanId) (s : State) : (flush ch s).pending = s.pending := rfl

/-- What a swap leaves of the channel's tables. -/
theorem swapBanks_tables_same (ch : ChanId) (s : State) :
    look (swapBanks ch s).tables ch =
      ⟨(look s.tables ch).staged, (look s.tables ch).active, none, (look s.tables ch).swaps + 1#16⟩ := by
  simp [swapBanks]

theorem swapBanks_tables_ne {ch d : ChanId} (s : State) (h : ch ≠ d) :
    look (swapBanks ch s).tables d = look s.tables d := by
  simp [swapBanks, look_put_ne _ _ h]

@[simp] theorem swapBanks_slots (ch : ChanId) (s : State) : (swapBanks ch s).slots = s.slots := rfl
@[simp] theorem swapBanks_store (ch : ChanId) (s : State) : (swapBanks ch s).store = s.store := rfl
@[simp] theorem swapBanks_pending (ch : ChanId) (s : State) : (swapBanks ch s).pending = s.pending := rfl

/-- Everything the end of a store transfer can answer. -/
theorem inStore_cases (a : Nat) (s : State) :
    (a < Config.storeLines ∧ inStore a s = .next s) ∨
    (Config.storeLines ≤ a ∧ inStore a s = .fault (.lineOutsideStore a)) := by
  unfold inStore
  split
  · exact .inl ⟨‹_›, rfl⟩
  · exact .inr ⟨by omega, rfl⟩

/-- The end of a read leaves its delivery to the state the upset left. -/
theorem endRead_delivery (k : ReadKind) (a : Nat) (u : LineBits) (s : State) :
    (endRead k a u s).2 = readDelivery (strike a u s) a := rfl

end Sys2Proof.Machine
end

