-- ==== Sys2Proof/Tests/Slice0.lean ====
section
/-! SUPPORT. The model's own tests: ill-formed commands that WellFormed refuses, small steps whose results the manual
states, and for every statement with hypotheses a concrete state and operands that meet them. -/

namespace Sys2Proof.Tests

open Sys2Proof Sys2Proof.Machine

/-! ### Small states -/

/-- A library of one READY segment of 64 samples (id 0) and an OPEN segment of each link (ids 1 and 2). -/
def lib : State :=
  { State.reset with
    slots := put (put (put State.reset.slots 0 ⟨.ready 64 ⟨0, 1⟩ 7#32, 0, 0, false⟩)
      1 ⟨.opened 0 70 ⟨1, 2⟩, 0, 0, false⟩) 2 ⟨.opened 1 64 ⟨3, 1⟩, 0, 0, false⟩
    free := [⟨4, 16380⟩] }

/-- An entry that plays segment 0 twice. -/
def plain : Entry := ⟨0, 2, none, .hold, none, 5#4, none⟩

/-- The same entry behind gate TC1. -/
def gatedEntry : Entry := { plain with gate := some 1, waitLevel := .park }

/-- The same entry with a jump on TC1. -/
def jumping (timing : JumpTiming) : Entry := { plain with jump := some ⟨1, timing, 0⟩ }

/-- A bank of one entry. -/
def oneEntry (e : Entry) (a : EndAction) : Bank := ⟨put Bank.empty.slots 0 (some e), 1, a⟩

/-- Channel 0 with the entry in both its banks, its record changed by `f`. -/
def playing (e : Entry) (a : EndAction) (f : Channel → Channel) : State :=
  (lib.modTables 0 fun t => { t with active := oneEntry e a, staged := oneEntry e a }).modChannel 0 f

/-- The last sample of the segment, one step before its pass end. -/
def atLast (c : Channel) : Channel := { c with mode := .running, phase := 63 * 16777216 }

/-- The store port holding a transfer, over the library. -/
def withPort (x : Transfer) : State := lib.setPort (some x)

/-- Link 0 in a phase, over the library. -/
def withPhase (p : LinkPhase) (s : State) : State := s.modLink 0 fun l => { l with phase := p }

/-- What an answer leaves, the state after reset where it is no next state. -/
def after (r : Result) : State :=
  match r with
  | .next s => s
  | _ => State.reset

/-- The status a link holds. -/
def statusOf (s : State) (n : LinkId) : Option Status :=
  match (look s.links n).phase with
  | .holding r => some r.status
  | _ => none

/-- TC1 with a software request, so that it fires at the next tick. -/
def firing (s : State) : State := s.modCond 1 fun c => { c with enabled := true, request := true }

/-- Link 0 holding an OK response with no payload, over the library. -/
def holdingAny : State := withPhase (.holding ⟨9#8, .ok, []⟩) lib

/-- A WAITING channel. -/
def waits (c : Channel) : Channel := { c with mode := .waiting }

/-- The last sample of the second pass. -/
def lastPass (c : Channel) : Channel := { atLast c with passes := 1 }

/-! ### Well-formed commands -/

theorem test_payload_above_buffer_refused : (Instr.readEvents 0 1#8 (List.replicate 2057 0#8)).wf = false := by
  simp only [Instr.wf, payloadFits, List.length_replicate, Config.receiveBuffer]
  decide

theorem test_good_frame_is_no_frame_error :
    (Instr.frameError 0 [0xC1#8, 1#8, 0x18#8, 0#8, 0#8]).wf = false := by decide

theorem test_short_frame_is_frame_error : (Instr.frameError 0 [0xC1#8, 1#8, 0x18#8, 0#8]).wf = true := by decide

theorem test_dropped_frame_fits : (Instr.commandDropped 0 1#8 0x18#8 (List.replicate 2057 0#8)).wf = false := by
  simp only [Instr.wf, payloadFits, List.length_replicate, Config.receiveBuffer]
  decide

theorem test_known_code_is_not_unknown : (Instr.unknownCommand 0 1#8 0x62#8 []).wf = false := by decide

theorem test_unknown_code_is : (Instr.unknownCommand 0 1#8 0x63#8 []).wf = true := by decide

theorem test_fetch_has_a_kind_byte : (Instr.responseFetch 0 0).wf = false := by decide

theorem test_no_table_word_spells_a_command (nbits w : Nat) : decodeTableWord nbits w = none := rfl

/-! ### Figures of the manual -/

/-- The code of a tick without a sum source (R76 to R79). -/
def codeOf (a b : Code) (fraction : Nat) (gain offset : Int) : Int :=
  clampCode (roundValue (ownValue (interpolate a b fraction) ⟨BitVec.ofInt 16 gain, BitVec.ofInt 16 offset⟩))

/-- Spec 04 section 4.8.1. -/
theorem test_segment_at_three_tenths : codeOf 1200#16 2000#16 4194304 12288 (-500) = 550 ∧
    codeOf 1200#16 2000#16 9227469 12288 (-500) = 730 := by decide

/-- Spec 04 section 4.8.2. -/
theorem test_pass_end_partner : codeOf 1000#16 (BitVec.ofInt 16 (-200)) 15000000 12288 (-500) = -555 ∧
    codeOf 1000#16 1000#16 15000000 12288 (-500) = 250 := by decide

/-- Spec 04 section 4.8.3. -/
theorem test_clamp_and_ties : codeOf 30000#16 30000#16 0 24576 0 = 32767 ∧
    codeOf (BitVec.ofInt 16 (-4)) (BitVec.ofInt 16 (-3)) 8388608 16384 0 = -4 ∧
    codeOf 3#16 4#16 8388608 16384 0 = 4 := by decide

/-- Spec 04 section 4.8.2: a carried phase of 3,255,949. -/
theorem test_carried_phase : 999 * 16777216 + 15000000 + 5033165 - 1000 * 16777216 = 3255949 := by decide

/-- The status values of R173 at the ends of their runs. -/
theorem test_status_bytes : statusByte .pending = 0x02#8 ∧ statusByte .unknownCommand = 0x10#8 ∧
    statusByte .noClock = 0x1F#8 := by decide

/-- Spec 10 section 10.7.6. -/
theorem test_flag_positions : flagPos (.halted 3) = 27 ∧ flagPos (.fired 0) = 28 ∧ flagPos .corrected = 32 ∧
    flagPos .lockGained = 35 ∧ flagPos .libraryChanged = 37 ∧ flagPos .frameError = 40 := by decide

/-- R169: WRITE_SAMPLES takes 7 bytes and an even number more. -/
theorem test_write_samples_lengths : layoutAllows 0x11#8 7 = some true ∧ layoutAllows 0x11#8 8 = some false ∧
    layoutAllows 0x11#8 9 = some true ∧ layoutAllows 0x11#8 6 = some false := by decide

/-- R26, R87: a step is stored within 1..16,777,216. -/
theorem test_step_clamps : clampStep 0 = 1 ∧ clampStep 16777216 = 16777216 ∧ clampStep 16777217 = 16777216 := by
  decide

/-! ### One step each -/

/-- R9, R10: 4,096 samples take 64 blocks from block 0 as id 0. -/
theorem test_create_segment :
    (look (after (exec (.createSegment 0 5#8 (leBytes 4 4096)) State.reset)).slots 0).body =
      .opened 0 4096 ⟨0, 64⟩ ∧
    (look (after (exec (.createSegment 0 5#8 (leBytes 4 4096)) State.reset)).links 0).request =
      some (.zeroWrite 0) := by decide

/-- R17: a segment in no table is deleted, and its block joins nothing here. -/
theorem test_delete_segment : (after (exec (.deleteSegment 1 1#8 [0#8]) lib)).free = [⟨0, 1⟩, ⟨4, 16380⟩] := by decide

/-- R16, R6: block 3 joins the free extent above it. -/
theorem test_abandon_joins : (after (exec (.abandonSegment 1 1#8 [2#8]) lib)).free = [⟨3, 16381⟩] := by decide

/-- R49 step 3: after power-on every table is empty. -/
theorem test_start_of_empty_table : statusOf (after (exec (.start 0 1#8 [1#8, 0#8]) State.reset)) 0 = some .emptyTable := by
  decide

/-- R173, R168: a busy link drops the frame and keeps its response. -/
theorem test_drop_keeps_response :
    (look (after (exec (.identify 0 1#8 []) holdingAny)).links 0).phase = .holding ⟨9#8, .ok, []⟩ := by decide

/-- R171: a fetch of the response of an empty payload is six bytes; one byte fewer leaves it held. -/
theorem test_fetch_consumes_at_last_byte :
    (look (after (exec (.responseFetch 0 6) holdingAny)).links 0).phase = .free ∧
    (look (after (exec (.responseFetch 0 5) holdingAny)).links 0).phase = .holding ⟨9#8, .ok, []⟩ ∧
    (look (after (exec (.responseFetch 0 6) holdingAny)).links 0).sdo = [0#8, 1#8, 9#8, 0#8, 0#8, 0#8] := by decide

/-- R30, R28: writing the entry counts one reference. -/
theorem test_write_entry_counts :
    (look (after (exec (.writeEntry 1 1#8 (2#8 :: 63#8 :: entryRecord plain)) lib)).slots 0).refCount = 1 := by decide

/-- R35 order 2, R173: a commit of a bank with an empty slot below the count. -/
theorem test_commit_of_empty_bank :
    (look (after (exec (.commitTable 0 1#8 [0#8, 0#8, 0#8]) State.reset)).links 0).phase =
      .holding ⟨1#8, .invalidTable, [0#8, 0#8]⟩ := by decide

set_option maxRecDepth 100000 in
/-- R60: the tick at which the gate fires is the first RUNNING tick. -/
theorem test_gate_release :
    (look (after (exec (.outputTick 0#8) (firing (playing gatedEntry .stop waits)))).channels 0).mode = .running ∧
    (look (after (exec (.outputTick 0#8) (firing (playing gatedEntry .stop waits)))).channels 0).phase = 16777216 := by
  decide

set_option maxRecDepth 100000 in
/-- R57: the last pass of the last entry of a table with end action STOP ends the play. -/
theorem test_table_end_stops :
    (look (after (exec (.passEnd 0 0#8) (playing plain .stop lastPass))).channels 0).mode = .idle ∧
    (look (after (exec (.passEnd 0 0#8) (playing plain .stop lastPass))).links 1).flags = 0x12#41 := by decide

/-- R58, R51: a STOP of a WAITING channel is ENDED at acceptance. -/
theorem test_stop_of_waiting :
    (look (after (exec (.stop 0 1#8 [1#8, 2#8]) (playing gatedEntry .stop waits))).channels 0).mode = .idle := by decide

set_option maxRecDepth 100000 in
/-- R100: a software firing counts and sets FIRED1, position 29. -/
theorem test_firing : (look (after (exec (.conditionFiring 1 0#8) (firing lib))).trigger.conds 1).firings = 1#32 ∧
    (look (after (exec (.conditionFiring 1 0#8) (firing lib))).links 0).flags = BitVec.twoPow 41 29 := by decide

/-- R159: two good gates in a row lock. -/
theorem test_second_good_gate_locks :
    (after (exec .measurementGateEnd { State.reset with
      monitor := ⟨false, 1, 20000, 1, some 20000, 1000, 50000⟩ })).monitor =
      ⟨true, 0, 0, 100, some 20000, 1000, 50000⟩ := by decide

set_option maxRecDepth 100000 in
/-- R149: the first used line is asked for and the cursor goes past it. -/
theorem test_scrub_expiry : (after (exec .scrubExpiry lib)).scrub = ⟨64, 64, 1, some 0⟩ := by decide

/-- R153: an uncorrectable error replaces a correctable first record, whose pair goes to the successor set. -/
theorem test_uncorrectable_replaces :
    (logRecord ⟨.uncorrectable, .link 1, 9, 0, none⟩ ⟨some ⟨.correctable, .scrub, 4, 0, some 3⟩, 0#14, 1, 0⟩) =
      ⟨some ⟨.uncorrectable, .link 1, 9, 0, none⟩, 64#14, 1, 0⟩ := by decide

/-- R124: with nothing waiting, no grant. -/
theorem test_no_grant : (after (exec .storeGrant lib)).arbiter.port = none := by decide

/-- R183: an acknowledged RESPONSE_READY is cleared after the response is formed. -/
theorem test_ack_clears_own_ready :
    (look (after (exec (.ackEvents 0 1#8 (leBytes 6 (2 ^ 38))) lib)).links 0).flags = 0#41 := by decide

/-! ### Witnesses: the queue, the resets and the links -/

theorem witness_StepRunsTheFrontCommand :
    ({ State.reset with pending := [.storeGrant] } : State).pending = .storeGrant :: [] := rfl

/-- An empty queue with so much left of the gate and of the scrub interval. -/
def timers (gate interval timer : Nat) : State :=
  { State.reset with
    monitor := { State.reset.monitor with gateTimer := gate }
    scrub := { State.reset.scrub with interval := interval, timer := timer } }

theorem witness_EmptyQueueStepIsOneMicrosecond :
    ((timers 2 64 2).pending = [] ∧ 2 ≤ (timers 2 64 2).monitor.gateTimer ∧ 2 ≤ (timers 2 64 2).scrub.timer) ∧
    (2 ≤ (timers 2 0 0).monitor.gateTimer ∧ (timers 2 0 0).scrub.interval = 0) ∧
    ((timers 1 0 0).monitor.gateTimer = 1 ∧ (timers 1 0 0).scrub.interval = 0) ∧
    ((timers 1 64 2).monitor.gateTimer = 1 ∧ (timers 1 64 2).scrub.interval ≠ 0 ∧ 2 ≤ (timers 1 64 2).scrub.timer) ∧
    ((timers 1 64 1).monitor.gateTimer = 1 ∧ (timers 1 64 1).scrub.timer = 1) ∧
    (2 ≤ (timers 2 1 1).monitor.gateTimer ∧ (timers 2 1 1).scrub.interval ≠ 0 ∧ (timers 2 1 1).scrub.timer = 1) := by
  decide

theorem witness_OnlyALineOutsideTheStoreStops :
    ((Instr.zeroFillWriteEnd).endsTransfer = true ∧ PortInStore (withPort (.link 0 (.zeroWrite 262143) true)) ∧
      ∃ t, exec .zeroFillWriteEnd (withPort (.link 0 (.zeroWrite 262143) true)) = .next t) ∧
    exec .zeroFillWriteEnd (withPort (.link 0 (.zeroWrite 262144) true)) = .fault (.lineOutsideStore 262144) :=
  ⟨⟨rfl, by decide, _, rfl⟩, rfl⟩

/-- Link 0 with LRSTn held, or with a transfer to be ignored. -/
def silenced (held ignoring : Bool) : State := lib.modLink 0 fun l => { l with inReset := held, ignoring := ignoring }

theorem witness_LinkResetAndItsRelease :
    ownsAny 0 lib = true ∧ ownsAny 1 State.reset = false ∧ WriteBackLaw State.reset ∧
    (look (silenced true false).links 0).inReset = true ∧ (look (silenced false false).links 0).inReset = false := by
  refine ⟨?_, ?_, ?_, ?_, ?_⟩
  · simp [ownsAny, ownedBy, lib, State.reset, look, put]
    exact ⟨1, by simp⟩
  · simp [ownsAny, ownedBy, State.reset, look, Slot.empty]
  · decide
  · decide
  · decide

/-- R176, R166: a transfer begun under the reset ends its ignoring at its release, also with no complete byte. -/
theorem test_empty_transfer_ends_ignoring :
    (look (after (exec (.frameError 0 []) (silenced false true))).links 0).ignoring = false ∧
    (look (after (exec (.frameError 0 []) holdingAny)).links 0) = look holdingAny.links 0 := by decide

theorem witness_SilencedLinkIgnoresTransfers :
    ((Instr.frameError 0 [0#8]).wf = true ∧ (look (silenced true false).links 0).inReset = true) ∧
    ((Instr.responseFetch 0 1).wf = true ∧ (look (silenced false true).links 0).inReset = false ∧
      (look (silenced false true).links 0).ignoring = true) ∧
    (Instr.identify 0 5#8 []).frame = some (0, 5#8, 0x01#8, []) ∧ (Instr.identify 0 5#8 []).wf = true ∧
    (Instr.frameError 0 []).wf = true := by
  decide

theorem witness_FrameErrorByTheFramingChecks :
    Hears State.reset 0 ∧ frameFails [0xC0#8] = true ∧ frameFails [0xC1#8, 1#8, 1#8, 0#8] = true ∧
    frameFails [0xC1#8, 1#8, 1#8, 0x09#8, 0x08#8] = true ∧ frameFails [0xC1#8, 1#8, 1#8, 0#8, 0#8, 0#8] = true ∧
    frameFails [0xC1#8, 1#8, 1#8, 0#8, 0#8] = false ∧ frameFails [0xD2#8] = false := by decide

theorem witness_BusyLinkDropsFrames :
    Hears holdingAny 0 ∧ (look holdingAny.links 0).phase ≠ .free ∧
    (look (withPhase (.executing 1#8 (.zeroFill 1 0 1)) lib).links 0).phase ≠ .free ∧
    (List.replicate 2056 0#8).length ≤ 2056 ∧
    (Instr.findTag 0 1#8 [0#8]).frame = some (0, 1#8, 0x17#8, [0#8]) ∧ (Instr.findTag 0 1#8 [0#8]).wf = true := by
  refine ⟨by decide, by decide, by decide, by simp only [List.length_replicate, le_refl], rfl, by decide⟩

theorem witness_UnknownCodesAndWrongLengths :
    Takes State.reset 0 ∧ layoutAllows 0x02#8 0 = none ∧ layoutAllows 0x11#8 8 = some false ∧
    (Instr.writeSamples 0 1#8 (List.replicate 8 0#8)).wf = true ∧ layoutAllows 0x01#8 1 = some false ∧
    (Instr.identify 0 1#8 [0#8]).frame = some (0, 1#8, 0x01#8, [0#8]) ∧
    ((0x19#8 : Byte) ≠ 0x11#8 ∧ ∀ x ∈ [0x01, 0x10, 0x12, 0x13, 0x14, 0x15, 0x16, 0x17, 0x18, 0x20, 0x21, 0x22, 0x23, 0x24,
      0x25, 0x26, 0x27, 0x30, 0x31, 0x32, 0x33, 0x34, 0x35, 0x36, 0x40, 0x41, 0x42, 0x43, 0x48, 0x49, 0x50, 0x51, 0x52,
      0x58, 0x59, 0x60, 0x61, 0x62], (0x19#8 : Byte).toNat ≠ x) := by decide

theorem witness_IdentifyReportsTheFixedPart : Takes State.reset 0 ∧ Takes State.reset 1 := by decide

theorem witness_FetchSendsTheHeldResponse :
    Hears holdingAny 0 ∧ (1 : Nat) ≤ 1 ∧ (look holdingAny.links 0).phase = .holding ⟨9#8, .ok, []⟩ ∧
    (look State.reset.links 0).phase = .free := by decide

/-! ### Witnesses: the waveform library -/

theorem witness_CreateSegmentOpensTheLowestFreeId :
    Takes State.reset 0 ∧ (look State.reset.links 0).request = none ∧ linkInTransfer State.reset 0 = false ∧
    (look State.reset.slots 0).body = .free ∧ (∀ j : SegId, j < 0 → (look State.reset.slots j).body ≠ .free) ∧
    allocate (blocksFor 64) State.reset.free = some (0, [⟨1, 16383⟩]) ∧
    allocate (blocksFor 1048576) State.reset.free = some (0, []) := by
  refine ⟨by decide, by decide, by decide, by decide, fun j h => absurd h (by simp), by decide, by decide⟩

/-- A store with no block left, and one whose directory is full. -/
def noBlocks : State := { lib with free := [] }
def noIds : State := { lib with slots := Vector.replicate 256 ⟨.ready 64 ⟨0, 1⟩ 7#32, 1, 0, false⟩ }

theorem witness_LibraryCommandsAreRefused :
    Takes lib 0 ∧ (63 < 64 ∨ 1048576 < 63) ∧ (∀ id : SegId, (look noIds.slots id).body ≠ .free) ∧
    ((look noBlocks.slots 3).body = .free ∧ ∀ e ∈ noBlocks.free, e.count < (64 + 63) / 64) ∧
    (look lib.slots 2).body = .opened (otherLink 0) 64 ⟨3, 1⟩ ∧ isOpen (look lib.slots 0) = false ∧
    isReady (look lib.slots 1) = false ∧
    (isReady (look noIds.slots 0) = true ∧ 0 < (look noIds.slots 0).refCount) ∧
    (isReady (look lib.slots 0) = true ∧
      isReading (look (withPhase (.executing 1#8 (.read 0 0 0 1 0 0 [])) lib).links (otherLink 1)) 0 = true) ∧
    (look lib.slots 3).body = .free ∧ (look lib.slots 1).body = .opened 0 70 ⟨1, 2⟩ ∧ 70 < 70 + 1 ∧
    (look lib.slots 0).body = .ready 64 ⟨0, 1⟩ 7#32 ∧ 64 < 0 + 65 := by
  refine ⟨by decide, by decide, ?_, by decide, by decide, by decide, by decide, by decide, by decide, by decide,
    by decide, by decide, by decide, by decide⟩
  intro id
  simp [noIds]

theorem witness_ExtentsAreTakenFirstFitAndJoined :
    allocate 2 [⟨0, 1⟩, ⟨4, 2⟩, ⟨8, 3⟩] = some (4, [⟨0, 1⟩, ⟨8, 3⟩]) ∧
    allocate 2 [⟨0, 1⟩, ⟨8, 3⟩] = some (8, [⟨0, 1⟩, ⟨10, 1⟩]) ∧ allocate 4 [⟨0, 1⟩, ⟨8, 3⟩] = none ∧
    gapped [⟨0, 1⟩, ⟨3, 3⟩] = true ∧ freeInto ⟨1, 2⟩ [⟨0, 1⟩, ⟨3, 3⟩] = [⟨0, 6⟩] := by decide

theorem witness_SampleCommandsBeginTheirFirstLine :
    Takes lib 0 ∧ (look lib.links 0).request = none ∧ linkInTransfer lib 0 = false ∧
    (look lib.slots 1).body = .opened 0 70 ⟨1, 2⟩ ∧ 66 + [1#16, 2#16, 3#16, 4#16].length ≤ 70 ∧
    0 + [1#16, 2#16, 3#16, 4#16].length ≤ 70 ∧ (look lib.slots 0).body = .ready 64 ⟨0, 1⟩ 7#32 ∧ 0 + 64 ≤ 64 := by
  decide

theorem witness_SegmentsBecomeReadyOrFree :
    Takes lib 0 ∧ (look lib.slots 1).body = .opened 0 70 ⟨1, 2⟩ ∧ (look lib.slots 0).body = .ready 64 ⟨0, 1⟩ 7#32 ∧
    (look lib.slots 0).refCount = 0 ∧ isReading (look lib.links (otherLink 0)) 0 = false := by decide

theorem witness_LibraryQueriesReport :
    Takes lib 1 ∧ (look lib.slots 3).body = .free ∧ (look lib.slots 1).body = .opened 0 70 ⟨1, 2⟩ ∧
    (look lib.slots 0).body = .ready 64 ⟨0, 1⟩ 7#32 := by decide

/-! ### Witnesses: the ends of transfers -/

/-- The store port with a transfer of Link 0, whose command does `w`. -/
def working (w : LongWork) (x : LinkXfer) : State := withPhase (.executing 3#8 w) (withPort (.link 0 x true))

theorem witness_ZeroFillWriteEndZeroesItsLine :
    ((working (.zeroFill 1 16 48) (.zeroWrite 16)).arbiter.port = some (.link 0 (.zeroWrite 16) true) ∧
      (look (working (.zeroFill 1 16 48) (.zeroWrite 16)).links 0).request = none ∧
      (look (working (.zeroFill 1 16 48) (.zeroWrite 16)).links 0).phase = .executing 3#8 (.zeroFill 1 16 48) ∧
      16 + 1 < 48) ∧
    ((look (working (.zeroFill 1 47 48) (.zeroWrite 47)).links 0).phase = .executing 3#8 (.zeroFill 1 47 48) ∧
      48 ≤ 47 + 1) ∧
    ((withPort (.link 0 (.zeroWrite 262143) false)).arbiter.port = some (.link 0 (.zeroWrite 262143) false) ∧
      (look (withPort (.link 0 (.zeroWrite 262143) false)).links 0).phase = .free) := by decide

/-- WRITE_SAMPLES of five codes at offset 3 of segment 1: line 0 in part, line 1 whole. -/
def fiveCodes (line : Nat) : LongWork := .write 1 16 3 [1#16, 2#16, 3#16, 4#16, 5#16] line 1 none

/-- WRITE_SAMPLES of four codes at offset 2 of segment 1: both its lines in part. -/
def fourCodes : LongWork := .write 1 16 2 [1#16, 2#16, 3#16, 4#16] 0 1 none

/-- R14: after line 0 the whole line 1 is written with its codes; a line in part is read first. -/
theorem test_next_line_of_a_write :
    (look (after (exec (.writeSamplesTransferEnd 0#72) (working (fiveCodes 0) (.lineWrite 16 9#64)))).links 0).request =
      some (.lineWrite 17 0x0005000400030002#64) ∧
    (look (after (exec (.writeSamplesTransferEnd 0#72) (working fourCodes (.lineWrite 16 9#64)))).links 0).request =
      some (.mergeRead 17) := by decide

theorem witness_WriteTransferEndsCarryTheCommandOn :
    ((look (working (fiveCodes 0) (.lineWrite 16 9#64)).links 0).phase = .executing 3#8 (fiveCodes 0) ∧
      (look (working (fiveCodes 0) (.lineWrite 16 9#64)).links 0).request = none ∧ 0 < 1 ∧
      (working (fiveCodes 0) (.lineWrite 16 9#64)).arbiter.port = some (.link 0 (.lineWrite 16 9#64) true)) ∧
    ((look (working (fiveCodes 1) (.lineWrite 17 9#64)).links 0).phase = .executing 3#8 (fiveCodes 1) ∧
      (working (fiveCodes 1) (.lineWrite 17 9#64)).arbiter.port = some (.link 0 (.lineWrite 17 9#64) true)) ∧
    ((working (fiveCodes 0) (.mergeRead 16)).arbiter.port = some (.link 0 (.mergeRead 16) true) ∧
      wholeLine 3 5 0 = false) ∧
    (3 ≤ 4 * (0 + 1) ∧ 4 * (0 + 1) + 4 ≤ 3 + [1#16, 2#16, 3#16, 4#16, 5#16].length) ∧
    ((look (working fourCodes (.lineWrite 16 9#64)).links 0).phase = .executing 3#8 fourCodes ∧
      ¬ 4 * (0 + 1) + 4 ≤ 2 + [1#16, 2#16, 3#16, 4#16].length) ∧
    (withPort (.link 0 (.lineWrite 262143 9#64) false)).arbiter.port = some (.link 0 (.lineWrite 262143 9#64) false) ∧
    (withPort (.link 0 (.mergeRead 262143) false)).arbiter.port = some (.link 0 (.mergeRead 262143) false) := by decide

theorem witness_ReadTransferEndDeliversItsLine :
    ((look (working (.read 0 0 2 3 0 1 []) (.sampleRead 0)).links 0).phase =
        .executing 3#8 (.read 0 0 2 3 0 1 []) ∧
      (look (working (.read 0 0 2 3 0 1 []) (.sampleRead 0)).links 0).request = none ∧ 0 < 1 ∧
      (working (.read 0 0 2 3 0 1 []) (.sampleRead 0)).arbiter.port = some (.link 0 (.sampleRead 0) true)) ∧
    ((look (working (.read 0 0 2 3 1 1 [(0#64, true)]) (.sampleRead 1)).links 0).phase =
        .executing 3#8 (.read 0 0 2 3 1 1 [(0#64, true)]) ∧
      (working (.read 0 0 2 3 1 1 [(0#64, true)]) (.sampleRead 1)).arbiter.port =
        some (.link 0 (.sampleRead 1) true)) ∧
    (withPort (.link 0 (.sampleRead 262143) false)).arbiter.port = some (.link 0 (.sampleRead 262143) false) := by decide

/-- Channel 0 running `plain` with the play position at `play` and its prefetch of place 0 on the port, the next place
not yet requested and the pending stop given. -/
def prefetching (a : EndAction) (stop : Option StopMode) (play : Nat) (next : PathPos) : State :=
  ((playing plain a fun c => { c with mode := .running, stop := stop }).modPrefetch 0 fun p =>
    { p with play := play, next := some next }).setPort (some (.prefetch 0 ⟨⟨0, 0, 0, 0⟩, 0, 262143⟩ true))

theorem witness_PrefetchReadEndFillsItsPlace :
    ((withPort (.prefetch 0 ⟨⟨0, 0, 0, 0⟩, 0, 262143⟩ true)).arbiter.port =
        some (.prefetch 0 ⟨⟨0, 0, 0, 0⟩, 0, 262143⟩ true) ∧
      (look (withPort (.prefetch 0 ⟨⟨0, 0, 0, 0⟩, 0, 262143⟩ true)).prefetch 0).play ≤ 0) ∧
    ((look (prefetching .stop none 0 ⟨1, 0, 0, 1⟩).channels 0).mode = .running ∧
      (look (prefetching .stop none 0 ⟨1, 0, 0, 1⟩).prefetch 0).waiting = none ∧
      (look (prefetching .stop none 0 ⟨1, 0, 0, 1⟩).prefetch 0).next = some ⟨1, 0, 0, 1⟩ ∧ ¬ 1 < 0 ∧
      currentEntry (prefetching .stop none 0 ⟨1, 0, 0, 1⟩) 0 = some plain ∧
      entryIn (prefetching .stop none 0 ⟨1, 0, 0, 1⟩) 0 0 = some plain) ∧
    (¬ BeyondPath (prefetching .stop none 0 ⟨1, 0, 0, 1⟩) 0 none 1 ∧
      BeyondPath (prefetching .stop (some .immediate) 0 ⟨1, 0, 0, 1⟩) 0 (some .immediate) 1 ∧
      ¬ BeyondPath (prefetching .stop (some .immediate) 1 ⟨1, 0, 0, 1⟩) 0 (some .immediate) 1) ∧
    ((look (prefetching .stop none 2 ⟨1, 0, 0, 1⟩).prefetch 0).play = 2 ∧ 1 < 2) ∧
    (1 + 1 < (segmentLength (prefetching .stop none 0 ⟨1, 0, 0, 1⟩) 0 + 3) / 4 ∧
      (segmentLength (prefetching .stop none 0 ⟨15, 0, 0, 15⟩) 0 + 3) / 4 ≤ 15 + 1 ∧ 0 + 1 < plain.repeats ∧
      plain.repeats ≤ 1 + 1 ∧ (look (prefetching .stop none 0 ⟨31, 0, 1, 15⟩).tables 0).active.count ≤ 0 + 1 ∧
      (look (prefetching (.loop 0) none 0 ⟨31, 0, 1, 15⟩).tables 0).active.endAction = .loop 0) := by
  refine ⟨by decide, by decide, ⟨?_, ?_, ?_⟩, by decide, by decide⟩
  · rintro ⟨_, ⟨⟩, _⟩
  · exact ⟨.immediate, rfl, plain, rfl, by decide⟩
  · rintro ⟨_, ⟨⟩, e, h, h2⟩
    cases h
    exact absurd h2 (by decide)

/-- Line 0 of READY segment 0 with these wrong bits and mark, its scrub read on the port. -/
def struck (faults : LineBits) (mark : Bool) : State := putLine 0 ⟨5#64, faults, mark⟩ (withPort (.scrub 0))

theorem witness_SingleErrorsAreCorrectedAndDoubleDetected :
    ((lineAt (struck 0#72 false) 0).mark = false ∧ (∀ r ∈ (struck 0#72 false).marks, r.addr ≠ 0) ∧
      (lineAt (struck 0#72 false) 0).faults = 0#72) ∧
    (lineAt (struck (BitVec.twoPow 72 71) false) 0).faults = BitVec.twoPow 72 71 ∧
    (lineAt (struck (BitVec.twoPow 72 0 ||| BitVec.twoPow 72 71) false) 0).faults =
      BitVec.twoPow 72 0 ||| BitVec.twoPow 72 71 := by
  refine ⟨⟨rfl, by decide, rfl⟩, rfl, rfl⟩

theorem owner_of_struck (faults : LineBits) (mark : Bool) : ownerOf (struck faults mark) 0 = some 0 := by
  rfl

theorem witness_ScrubReadEndActsOnItsOutcome :
    (struck 0#72 true).arbiter.port = some (.scrub 0) ∧ ownerOf (struck 0#72 true) 0 = some 0 ∧
    isReady (look (struck 0#72 true).slots 0) = true ∧ (look (struck 0#72 true).slots 0).filling = false ∧
    (lineAt (struck 0#72 true) 0).mark = true ∧
    ((lineAt (struck (BitVec.twoPow 72 71) false) 0).mark = false ∧
      (∀ r ∈ (struck (BitVec.twoPow 72 71) false).marks, r.addr ≠ 0) ∧
      (lineAt (struck (BitVec.twoPow 72 71) false) 0).faults = BitVec.twoPow 72 71) ∧
    (lineAt (struck (BitVec.twoPow 72 0 ||| BitVec.twoPow 72 71) false) 0).faults =
      BitVec.twoPow 72 0 ||| BitVec.twoPow 72 71 :=
  ⟨rfl, owner_of_struck _ _, by decide, by decide, rfl, ⟨rfl, by decide, rfl⟩, rfl⟩

theorem witness_MarkWritesAndWriteBacks :
    (withPort (.mark ⟨262143, 0⟩)).arbiter.port = some (.mark ⟨262143, 0⟩) ∧
    (withPort (.writeBack ⟨0, 0, 1#64⟩)).arbiter.port = some (.writeBack ⟨0, 0, 1#64⟩) := by decide

theorem witness_ErrorsEnterTheLog :
    State.reset.log.first = none ∧
    (after (.next (logError ⟨.correctable, .scrub, 0, 0, some 71⟩ State.reset))).log.first =
      some ⟨.correctable, .scrub, 0, 0, some 71⟩ ∧
    (after (.next (logError ⟨.uncorrectable, .link 1, 0, 0, none⟩ State.reset))).log.first =
      some ⟨.uncorrectable, .link 1, 0, 0, none⟩ := by decide

/-- Channel 0 with a request waiting and so many lines held. -/
def waitingWith (lines : Nat) : State :=
  lib.modPrefetch 0 fun p =>
    { p with waiting := some ⟨⟨lines, 0, 0, 0⟩, 0, 0⟩, fifo := List.replicate lines ⟨0, 0, 0, 0#64, false⟩ }

theorem witness_GrantsFollowTheClasses :
    (withPort (.scrub 0)).arbiter.port ≠ none ∧ lib.arbiter.port = none ∧
    ((look (waitingWith 15).prefetch 0).waiting.isSome ∧ (look (waitingWith 15).prefetch 0).fifo.length < 16) ∧
    ((look (waitingWith 16).prefetch 0).waiting.isSome ∧ 16 ≤ (look (waitingWith 16).prefetch 0).fifo.length ∧
      ∀ n : LinkId, (look (waitingWith 16).links n).request = none) ∧
    ((look (lib.modLink 0 fun l => { l with request := some (.zeroWrite 0) }).links 0).request = some (.zeroWrite 0) ∧
      (look (lib.modLink 0 fun l => { l with request := some (.zeroWrite 0) }).links (otherLink 0)).request = none) ∧
    (∀ ch : ChanId, (look lib.prefetch ch).waiting.isSome = false) ∧
    (∀ n : LinkId, (look lib.links n).request = none) ∧ lib.scrub.request = none ∧ lib.writeSide = none ∧
    ({ lib with scrub := { lib.scrub with request := some 0 } } : State).scrub.request = some 0 ∧
    lib.arbiter.lastClass4 = .scrubber ∧
    ({ lib with writeSide := some (.mark ⟨0, 0⟩) } : State).writeSide = some (.mark ⟨0, 0⟩) ∧
    ({ lib with writeSide := some (.writeBack ⟨0, 0, 1#64⟩) } : State).writeSide =
      some (.writeBack ⟨0, 0, 1#64⟩) ∧
    ((look (putLine 16 ⟨5#64, 0#72, true⟩ lib |>.modLink 0 fun l => { l with request := some (.lineWrite 16 9#64) }).links
        0).request = some (.lineWrite 16 9#64) ∧
      (lineAt (putLine 16 ⟨5#64, 0#72, true⟩ lib) 16).mark = true) := by decide

/-- R3, R144: the grant of a write of a marked line takes the mark off the segment's count. -/
theorem test_granted_write_clears_the_count :
    (look (after (exec .storeGrant ((putLine 16 ⟨5#64, 0#72, true⟩ lib |>.modSlot 1 fun x => { x with poisoned := 1 }).modLink
      0 fun l => { l with request := some (.lineWrite 16 9#64) }))).slots 1).poisoned = 0 := by rfl

theorem witness_OnlyTransferEndsChangeTheStore :
    (∃ t, exec .storeGrant lib = .next t) ∧ (Instr.storeGrant).endsTransfer = false ∧
    (∃ t, exec (.scrubReadEnd 1#72) lib = .next t) ∧ lib.arbiter.port = none ∧
    (∃ t, exec (.scrubReadEnd 0#72) (struck 0#72 false) = .next t) ∧
    (struck 0#72 false).arbiter.port = some (.scrub 0) :=
  ⟨⟨_, rfl⟩, rfl, ⟨_, rfl⟩, rfl, ⟨_, rfl⟩, rfl⟩

/-! ### Witnesses: the tables -/

/-- Channel 0 idle with the entry in both banks and its staged bank's editor given. -/
def edited (editor : Option LinkId) : State := (playing plain .stop id).modTables 0 fun t => { t with editor := editor }

/-- Channel 0 running with a commit pending. -/
def committing (point : CommitPoint) : State :=
  playing plain .stop fun c => { c with mode := .running, commit := some ⟨point, 0⟩ }

theorem witness_WriteEntrySetsTheStagedSlot :
    Takes (edited none) 0 ∧ (look (edited none).channels 0).commit = none ∧
    (look (edited (some 0)).tables 0).editor ≠ some (otherLink 0) ∧
    isReady (look (edited none).slots plain.segment) = true ∧ (65535 : Nat) < 65536 ∧
    (∀ st ∈ (some 4294967295 : Option Nat), st < 4294967296) ∧ (List.replicate 7 9#8).length = 7 := by decide

/-- R26: a step override of 0 is stored as 1. -/
theorem test_written_step_is_clamped :
    look (look (after (exec (.writeEntry 0 1#8 (0#8 :: 5#8 :: entryRecord { plain with step := some 0 })) lib)).tables
      0).staged.slots 5 = some { plain with step := some 1 } := by decide

theorem witness_ClearEntryAndSetTableEnd :
    Takes (edited none) 0 ∧ (look (edited none).channels 0).commit = none ∧
    (look (edited none).tables 0).editor ≠ some (otherLink 0) ∧
    (look (look (edited none).tables 0).staged.slots 0).map Entry.segment = some 0 ∧
    (look (look (edited none).tables 0).staged.slots 63).map Entry.segment = none := by decide

theorem witness_StagedBankCommandsAreRefused :
    Takes (committing .atTableEnd) 0 ∧ (List.replicate 15 0#8).length = 15 ∧
    (look (committing .atTableEnd).channels 0).commit.isSome ∧
    ((look (edited (some 1)).channels 0).commit = none ∧
      (look (edited (some 1)).tables 0).editor = some (otherLink 0)) ∧
    (4 ≤ (4#8 : Byte).toNat ∧ 64 ≤ (64#8 : Byte).toNat ∧ 65 ≤ (65#8 : Byte).toNat ∧ 2 ≤ (2#8 : Byte).toNat) ∧
    ((look (edited none).channels 0).commit = none ∧ (look (edited none).tables 0).editor ≠ some (otherLink 0) ∧
      5 ≤ (((entryRecord plain).set 3 5#8).getD 3 0#8).toNat ∧ ((entryRecord plain).set 3 5#8).length = 15 ∧
      (((entryRecord (jumping .immediate)).set 9 64#8).getD 6 0#8).toNat = 1 ∧
      64 ≤ (((entryRecord (jumping .immediate)).set 9 64#8).getD 9 0#8).toNat) ∧
    isReady (look (edited none).slots ({ plain with segment := 1 } : Entry).segment) = false := by decide

theorem witness_ValidationAcceptsExactlyPlayableBanks :
    (oneEntry plain .stop).count ≤ 64 ∧ validate (oneEntry plain .stop) 0 = none ∧ Bank.empty.count = 0 ∧
    look ({ Bank.empty with count := 64 } : Bank).slots 0 = none ∧
    (look (oneEntry (jumping .immediate) .stop).slots 0 = some (jumping .immediate) ∧
      validate (oneEntry { plain with jump := some ⟨1, .immediate, 1⟩ } .stop) 0 = some (2, 0)) ∧
    (1 ≤ (oneEntry plain (.loop 1)).count ∧
      (∀ x : SlotIx, x.val < 1 → look (oneEntry plain (.loop 1)).slots x = some plain) ∧ plain.jump = none ∧
      (oneEntry plain (.loop 1)).endAction = .loop 1 ∧ (oneEntry plain (.loop 1)).count ≤ (1 : SlotIx).val ∧
      validate (oneEntry plain (.loop 1)) 0 = some (3, 1)) ∧
    ((oneEntry plain (.loop 0)).endAction = .loop 0 ∧ (0 : SlotIx).val < (oneEntry plain (.loop 0)).count ∧
      validate (oneEntry plain (.loop 0)) 1 = some (4, 1)) := by decide

/-- Channel 0 with the entry in both banks and in a mode, the channel's clock halt off. -/
def inMode (e : Entry) (mode : ChannelMode) : State := playing e .stop fun c => { c with mode := mode }

/-- R30 step 4: a gate byte of 5 names no condition. -/
theorem test_undefined_gate_is_refused :
    statusOf (after (exec (.writeEntry 0 1#8 (0#8 :: 0#8 :: (entryRecord plain).set 3 5#8)) lib)) 0 = some .outOfRange := by
  decide

theorem witness_CommitIsTakenOrHeld :
    Takes (inMode plain .idle) 0 ∧ (look (inMode plain .idle).channels 0).commit = none ∧
    (look (inMode plain .idle).tables 0).editor ≠ some (otherLink 0) ∧
    validate (look (inMode plain .idle).tables 0).staged 1 = some (4, 1) ∧
    validate (look (inMode plain .idle).tables 0).staged 0 = none ∧
    (look (inMode plain .idle).channels 0).mode = .idle ∧ (look (inMode plain .halted).channels 0).mode = .halted ∧
    ((look (inMode gatedEntry .waiting).channels 0).mode = .waiting ∧
      (look (inMode gatedEntry .waiting).channels 0).stop = none) := by decide

theorem bankRefs_empty (id : SegId) : bankRefs Bank.empty id = 0 := by simp [bankRefs, Bank.empty]

theorem references_reset (id : SegId) : references State.reset id = 0 := by
  simp [references, State.reset, Tables.reset, bankRefs_empty]

theorem refLaw_reset (p : List Instr) : RefLaw { State.reset with pending := p } := by
  intro id
  have h : (look ({ State.reset with pending := p } : State).slots id).refCount = 0 := by
    simp [State.reset, Slot.empty]
  exact ⟨h.trans (references_reset id).symm, fun _ => h⟩

theorem witness_CancelCommitAndDiscardStaged :
    Takes (committing .atEntryEnd) 1 ∧ (look (committing .atEntryEnd).channels 0).commit = some ⟨.atEntryEnd, 0⟩ ∧
    (look State.reset.channels 0).commit = none ∧ (look State.reset.tables 0).editor ≠ some (otherLink 0) ∧
    RefLaw { State.reset with pending := [] } :=
  ⟨by decide, by decide, by decide, by decide, refLaw_reset []⟩

theorem witness_TableAndChannelReports :
    Takes (inMode plain .running) 1 ∧ (4 ≤ (4#8 : Byte).toNat ∧ 2 ≤ (2#8 : Byte).toNat) ∧
    look (look (inMode plain .running).tables 0).staged.slots 63 = none ∧
    look (look (inMode plain .running).tables 0).active.slots 0 = some plain := by decide

/-! ### Witnesses: the channels -/

/-- The clock is judged good. -/
def locked (s : State) : State := { s with monitor := { s.monitor with locked := true } }

theorem witness_StartBeginsEveryChannelOfTheSet :
    Takes (locked (inMode gatedEntry .idle)) 0 ∧ PendingLaw (locked (inMode gatedEntry .idle)) ∧ (1#4 ≠ 0#4) ∧
    (∀ ch : ChanId, (1#4 : BitVec 4).getLsbD ch.val = true →
      (look (locked (inMode gatedEntry .idle)).channels ch).mode = .idle ∧
      0 < (look (locked (inMode gatedEntry .idle)).tables ch).active.count ∧
      ((look (locked (inMode gatedEntry .idle)).channels ch).haltOnLoss = true →
        (locked (inMode gatedEntry .idle)).monitor.locked = true)) := by decide

/-- R47, R82: a START with no tick since the channel's last code begins from the park code. -/
theorem test_start_begins_at_park :
    (look (after (exec (.start 0 1#8 [1#8, 0#8]) (locked (playing plain .stop fun c =>
      { c with park := 7#16, last := 9#16 })))).channels 0).last = 7#16 := by decide

theorem witness_StartIsAllOrNothing :
    Takes (inMode plain .running) 0 ∧ 16 ≤ (16#8 : Byte).toNat ∧ 64 ≤ (64#8 : Byte).toNat ∧ 3 ≤ (3#8 : Byte).toNat ∧
    (3#4 : BitVec 4).getLsbD 0 = true ∧ (look (inMode plain .running).channels 0).mode ≠ .idle ∧
    ((∀ j : ChanId, (2#4 : BitVec 4).getLsbD j.val = true → (look (inMode plain .idle).channels j).mode = .idle) ∧
      (look (inMode plain .idle).tables 1).active.count = 0) ∧
    ((look (inMode plain .idle).channels 0).mode = .idle ∧ (look (inMode plain .idle).tables 0).active.count ≠ 0 ∧
      (look (inMode plain .idle).tables 0).active.count ≤ (1 : SlotIx).val ∧
      (look (inMode plain .idle).channels 0).haltOnLoss = true ∧ (inMode plain .idle).monitor.locked = false) := by
  decide

/-- Channel 0 running `plain` at place `play`, its prefetch of `place` waiting. -/
def playWith (play place : Nat) : State :=
  (inMode plain .running).modPrefetch 0 fun p => { p with play := play, waiting := some ⟨⟨place, 0, 0, 1⟩, 0, 1⟩ }

theorem witness_StopActsByState :
    Takes (inMode plain .running) 0 ∧ (15#4 ≠ 0#4) ∧ (look (inMode plain .running).channels 0).mode = .running ∧
    (look (inMode gatedEntry .waiting).channels 0).mode = .waiting ∧
    (look (inMode plain .halted).channels 0).mode = .halted ∧ (look (inMode plain .idle).channels 0).mode = .idle ∧
    ((look (playWith 1 1).prefetch 0).waiting = some ⟨⟨1, 0, 0, 1⟩, 0, 1⟩ ∧ (currentEntry (playWith 1 1) 0).isSome) ∧
    BeyondPath (playWith 0 1) 0 (some .immediate) 1 ∧ ¬ BeyondPath (playWith 1 1) 0 (some .immediate) 1 := by
  refine ⟨by decide, by decide, by decide, by decide, by decide, by decide, by decide, ?_, ?_⟩
  · exact ⟨.immediate, rfl, plain, rfl, by decide⟩
  · rintro ⟨_, ⟨⟩, e, h, h2⟩
    cases h
    exact absurd h2 (by decide)

theorem witness_ScaleRateAndConfigurationUpdates :
    Takes (inMode plain .halted) 0 ∧ (4294967295 : Nat) < 4294967296 ∧
    (look (inMode plain .halted).channels 0).mode = .halted ∧ (look (inMode plain .idle).channels 0).mode = .idle ∧
    (some 0 : Option ChanId) ≠ some 1 ∧ (List.replicate 4 0#8).length = 4 ∧
    (4 ≤ (4#8 : Byte).toNat ∧ 2 ≤ (2#8 : Byte).toNat ∧ 5 ≤ (5#8 : Byte).toNat) := by decide

/-! ### Witnesses: the tick -/

/-- Channel 0 running at sample `i` with step 1.0, its line and perhaps the next one in the FIFO. -/
def withLines (i : Nat) (lines : List FifoLine) (e : Entry) : State :=
  (playing e .stop fun c => { c with mode := .running, phase := i * 16777216 }).modPrefetch 0 fun p =>
    { p with fifo := lines }

/-- The line at a place of the path, poisoned or not. -/
def heldLine (place : Nat) (poisoned : Bool) : FifoLine := ⟨place, 0, place, 5#64, poisoned⟩

theorem witness_OutputTickMovesEveryPath :
    (look (inMode plain .halted).channels 0).mode = .halted ∧ (look (inMode plain .idle).channels 0).mode = .idle ∧
    (look ((inMode plain .halted).raiseOn 0 .responseReady).links 0).flags.getLsbD 38 = true := by decide

theorem witness_InterpolationRoundingAndClamp :
    (16777215 < 16777216 ∧ interpolate 7#16 7#16 16777215 = (7#16 : Code).toInt * 65536) ∧
    2 * ((536870912 : Int) - roundValue 536870912 * 1073741824).natAbs = 1073741824 ∧
    ((look (withLines 3 [] plain).channels 0).mode = .running ∧
      currentEntry (withLines 3 [] plain) 0 = some plain ∧
      (look (withLines 3 [] plain).channels 0).interpolation = .linear) ∧
    heldAt (look (withLines 3 [] plain).prefetch 0) 0 = none ∧
    (heldAt (look (withLines 3 [heldLine 0 true] plain).prefetch 0) 0 = some (heldLine 0 true) ∧
      heldAt (look (withLines 3 [heldLine 0 true] plain).prefetch 0) 1 = none) ∧
    (heldAt (look (withLines 3 [heldLine 0 false, heldLine 1 false] plain).prefetch 0) 1 = some (heldLine 1 false) ∧
      3 + 1 < segmentLength (withLines 3 [] plain) plain.segment ∧ (3 + 1) % 4 = 0) ∧
    (∃ y, tickValue (withLines 3 [heldLine 0 false, heldLine 1 false] plain) 0 = .computed y) ∧
    tickValue (withLines 3 [] plain) 0 = .underrun := by
  refine ⟨by decide, by decide, by decide, by decide, by decide, by decide, ⟨_, rfl⟩, by decide⟩

theorem witness_TickHandsOverByState :
    (∃ t, exec (.outputTick 0#8) (withLines 3 [] plain) = .next t) ∧
    (look (inMode plain .halted).channels 0).mode = .halted ∧
    ((look (inMode gatedEntry .waiting).channels 0).mode = .waiting ∧
      currentEntry (inMode gatedEntry .waiting) 0 = some gatedEntry ∧
      firesAt (inMode gatedEntry .waiting) 0#8 1 = false) ∧
    ((look (withLines 3 [] plain).channels 0).mode = .running ∧
      (look (withLines 3 [] plain).channels 0).stop ≠ some .immediate ∧
      currentEntry (withLines 3 [] plain) 0 = some plain ∧
      (look (withLines 3 [] plain).channels 0).sumSource = none ∧
      (look (withLines 3 [] plain).channels 0).interpolation = .linear) ∧
    heldAt (look (withLines 3 [] plain).prefetch 0) 0 = none ∧
    (heldAt (look (withLines 3 [heldLine 0 true] plain).prefetch 0) 0 = some (heldLine 0 true) ∧
      heldAt (look (withLines 3 [heldLine 0 true] plain).prefetch 0) 1 = none) ∧
    (heldAt (look (withLines 3 [heldLine 0 false, heldLine 1 true] plain).prefetch 0) 1 = some (heldLine 1 true) ∧
      3 + 1 < segmentLength (withLines 3 [] plain) plain.segment ∧ (3 + 1) % 4 = 0) ∧
    (63 + 1 = segmentLength (withLines 63 [] plain) plain.segment ∧ 0 + 1 < plain.repeats) ∧
    ((look (firing (inMode gatedEntry .waiting)).channels 0).mode = .waiting ∧
      currentEntry (firing (inMode gatedEntry .waiting)) 0 = some gatedEntry ∧ gatedEntry.gate = some 1 ∧
      firesAt (firing (inMode gatedEntry .waiting)) 0#8 1 = true) :=
  ⟨⟨_, rfl⟩, by decide⟩

/-- Channel 0 at sample 1 of full-scale codes, its gain twice 1.0, over a prefetched line. -/
def tooLoud : State := ((withLines 1 [⟨0, 0, 0, 0x7FFF7FFF7FFF7FFF#64, false⟩] plain).modChannel 0 fun c =>
  { c with scale := ⟨0x7FFF#16, 0#16⟩ })

set_option maxRecDepth 100000 in
/-- R79, R80: a clamped code is counted, begins the clip episode and sets CLIP_BEGAN of channel 0, position 5. -/
theorem test_clip_begins : (look (after (exec (.outputTick 0#8) tooLoud)).channels 0).last = 32767#16 ∧
    (look (after (exec (.outputTick 0#8) tooLoud)).channels 0).clips = 1 ∧
    (look (after (exec (.outputTick 0#8) tooLoud)).channels 0).clipEpisode = true ∧
    (look (after (exec (.outputTick 0#8) tooLoud)).links 0).flags = BitVec.twoPow 41 5 := by decide

set_option maxRecDepth 100000 in
/-- R83, R84: a missing line is an underrun, counted, and sets UNDERRUN_BEGAN of channel 0, position 4. -/
theorem test_underrun_begins :
    (look (after (exec (.outputTick 0#8) (withLines 3 [] plain))).channels 0).underruns = 1 ∧
    (look (after (exec (.outputTick 0#8) (withLines 3 [] plain))).links 0).flags = BitVec.twoPow 41 4 := by decide

/-- Channel 0 running the entry with a stop AT_PASS_END pending and its jump's condition firing. -/
def jumpingOn (e : Entry) : State :=
  firing (playing e .stop fun c => { c with mode := .running, stop := some .atPassEnd })

theorem witness_TicksAdvanceReleaseAndJump :
    (∃ t, exec (.outputTick 0#8) (firing (inMode gatedEntry .waiting)) = .next t) ∧
    ((look (firing (inMode gatedEntry .waiting)).channels 0).mode = .waiting ∧
      currentEntry (firing (inMode gatedEntry .waiting)) 0 = some gatedEntry ∧
      firesAt (firing (inMode gatedEntry .waiting)) 0#8 1 = true ∧
      (look (firing (inMode gatedEntry .waiting)).channels 0).currentStep <
        segmentLength (firing (inMode gatedEntry .waiting)) 0 * 16777216) ∧
    firesAt (inMode gatedEntry .waiting) 0#8 1 = false ∧
    ((look (firing (inMode (jumping .immediate) .running)).channels 0).mode = .running ∧
      currentEntry (firing (inMode (jumping .immediate) .running)) 0 = some (jumping .immediate) ∧
      firesAt (firing (inMode (jumping .immediate) .running)) 0#8 1 = true ∧
      (look (firing (inMode (jumping .immediate) .running)).channels 0).stop = none ∧
      (look (firing (inMode (jumping .immediate) .running)).channels 0).commit = none ∧
      0 + 16777216 < segmentLength (firing (inMode (jumping .immediate) .running)) 0 * 16777216) ∧
    (jumping .atPassEnd).jump = some ⟨1, .atPassEnd, 0⟩ ∧
    ((look (committing .atEntryEnd).channels 0).commit = some ⟨.atEntryEnd, 0⟩ ∧
      (look (committing .atEntryEnd).channels 0).stop = none) ∧
    (look (playing plain .stop fun c => { c with mode := .running, stop := some .immediate }).channels 0).stop =
      some .immediate ∧
    ((look (jumpingOn (jumping .immediate)).channels 0).stop = some .atPassEnd ∧
      firesAt (jumpingOn (jumping .immediate)) 0#8 1 = true ∧
      entryIn (jumpingOn (jumping .immediate)) 0 0 = some (jumping .immediate) ∧ (jumping .immediate).gate = none) ∧
    ((jumping .immediate).jump = some ⟨1, .immediate, 0⟩ ∧
      entryIn (jumpingOn { jumping .immediate with gate := some 2 }) 0 0 =
        some { jumping .immediate with gate := some 2 }) :=
  ⟨⟨_, rfl⟩, by decide⟩

set_option maxRecDepth 100000 in
/-- R62, R48: a stop AT_PASS_END stays pending into the jump's target, and a gated target ends the play with it. -/
theorem test_jump_with_a_stop_pending :
    (look (after (exec (.outputTick 0#8) (jumpingOn (jumping .immediate)))).channels 0).stop = some .atPassEnd ∧
    (look (after (exec (.outputTick 0#8) (jumpingOn { jumping .immediate with gate := some 2 }))).channels 0).mode =
      .idle := by decide

/-- Channel 0 at its last sample with so many passes done, a stop and a commit. -/
def ending (e : Entry) (a : EndAction) (passes : Nat) (stop : Option StopMode) (commit : Option Commit)
    (armed : Option SlotIx) : State :=
  playing e a fun c => { atLast c with passes := passes, stop := stop, commit := commit, armed := armed }

set_option maxRecDepth 100000 in
/-- R53, R88, R73: a pending rate is applied at a pass end, and the entry goes on with it. -/
theorem test_pass_end_applies_the_pending_rate :
    let c := look (after (exec (.outputTick 0#8) (playing plain .stop fun c =>
      { atLast c with pendingRate := some 5 }))).channels 0
    c.pendingRate = none ∧ c.defaultStep = 5 ∧ c.currentStep = 5 := by decide

theorem witness_PassEndsDecideWhatFollows :
    (∃ t, exec (.outputTick 0#8) (ending plain .stop 1 none none none) = .next t) ∧
    (currentEntry (ending plain .stop 1 none none none) 0 = some plain ∧ plain.jump = none ∧
      (look (ending plain .stop 1 none none none).channels 0).mode = .running ∧
      segmentLength (ending plain .stop 1 none none none) plain.segment * 16777216 ≤ 63 * 16777216 + 16777216) ∧
    (look (ending plain .stop 0 (some .atPassEnd) none none).channels 0).stop = some .atPassEnd ∧
    (plain.repeats ≠ 0 ∧ min (1 + 1) 65535 = plain.repeats ∧ min (0 + 1) 65535 ≠ plain.repeats) ∧
    (look (ending plain .stop 1 (some .atEntryEnd) none none).channels 0).stop = some .atEntryEnd ∧
    (look (ending plain .stop 1 none (some ⟨.atEntryEnd, 0⟩) none).channels 0).commit = some ⟨.atEntryEnd, 0⟩ ∧
    (look (ending plain .stop 0 none (some ⟨.atTableEnd, 0⟩) (some 0)).channels 0).armed = some 0 ∧
    (look (ending plain .stop 1 none (some ⟨.atTableEnd, 0⟩) none).tables 0).active.count ≤ 0 + 1 ∧
    (look (ending plain (.loop 0) 1 none none none).tables 0).active.endAction = .loop 0 ∧
    ((1 : SlotIx).val = 0 + 1 ∧ (1 : SlotIx).val < ({ oneEntry plain .stop with count := 2 } : Bank).count) ∧
    (currentEntry (firing (ending (jumping .atPassEnd) .stop 0 none none none)) 0 = some (jumping .atPassEnd) ∧
      firesAt (firing (ending (jumping .atPassEnd) .stop 0 none none none)) 0#8 1 = true ∧
      firesAt (ending (jumping .atPassEnd) .stop 0 none none none) 0#8 1 = false) ∧
    (currentEntry (firing (ending (jumping .immediate) .stop 0 none none none)) 0 = some (jumping .immediate) ∧
      firesAt (firing (ending (jumping .immediate) .stop 0 none none none)) 0#8 1 = true) :=
  ⟨⟨_, rfl⟩, by decide⟩

set_option maxRecDepth 100000 in
/-- R63, R56 step 3: a jump AT_PASS_END whose condition fires at the pass-end tick ends the entry at that pass end. -/
theorem test_jump_fired_at_a_pass_end :
    (look (after (exec (.passEnd 0 0#8) (firing (ending (jumping .atPassEnd) .stop 0 none none none)))).channels 0).passes =
      0 ∧
    (look (after (exec (.passEnd 0 0#8) (ending (jumping .atPassEnd) .stop 0 none none none))).channels 0).passes = 1 := by
  decide

/-- A FIRE_PULSE pin on TC1 with so much of its pulse left, and TC1's holdoff at 1. -/
def pulsing (left : Nat) : State :=
  (lib.modPin 0 fun m => { m with source := .firePulse 1 3, pulse := left }).modCond 1 fun c => { c with holdoffLeft := 1 }

theorem witness_EventsWithinTheTick :
    firesAt (firing lib) 0#8 1 = true ∧ firesAt lib 0#8 1 = false ∧
    (firesAt (pulsing 1) 0#8 1 = false ∧ (look (pulsing 1).trigger.conds 1).holdoffLeft = 1) ∧
    (look lib.trigger.conds 1).holdoffLeft ≠ 1 ∧ (look (pulsing 1).pins 0).source = .firePulse 1 3 ∧
    (look (pulsing 1).pins 0).pulse = 1 ∧ (look (pulsing 0).pins 0).pulse ≠ 1 := by decide

theorem witness_ConditionsAreEvaluatedAtTheTick :
    (∃ t, exec (.outputTick 0#8) (firing lib) = .next t) ∧ (look (firing lib).trigger.conds 1).enabled = true ∧
    (look lib.trigger.conds 1).enabled = false :=
  ⟨⟨_, rfl⟩, by decide⟩

theorem witness_ConditionCommands :
    Takes lib 0 ∧ (4095 ≤ 4095 ∧ 256 ≤ 256) ∧ (4095 < 4096 ∨ 256 < 257) ∧
    (look lib.trigger.conds 1).enabled = false ∧ (look (firing lib).trigger.conds 1).enabled = true ∧
    (List.replicate 9 0#8).length = 9 ∧ 4 ≤ (4#8 : Byte).toNat ∧ 2 ≤ (2#8 : Byte).toNat ∧
    2 ≤ (([0#8, 0#8, 0#8, 0#8, 2#8, 0#8, 0#8, 0#8, 0#8] : List Byte).getD 4 0#8).toNat := by decide

theorem witness_SetMarkerSelectsTheSource :
    Takes lib 0 ∧ 8 ≤ (8#8 : Byte).toNat ∧ 5 ≤ (5#8 : Byte).toNat ∧ 2 ≤ (2#8 : Byte).toNat ∧
    (1 ≤ (1#8 : Byte).toNat ∧ 4 ≤ (4#8 : Byte).toNat) := by decide

theorem witness_MarkersComputeTheirLevels :
    (∃ t, exec (.outputTick 0#8) (pulsing 1) = .next t) ∧ (look lib.pins 0).source = .static false ∧
    (look (pulsing 1).pins 0).source = .firePulse 1 3 ∧
    (look (lib.modPin 0 fun m => { m with source := .passToggle 0 true }).pins 0).source = .passToggle 0 true ∧
    (look (lib.modPin 0 fun m => { m with source := .entryBit 0 3 }).pins 0).source = .entryBit 0 3 ∧
    (look (inMode plain .idle).channels 0).mode = .idle ∧
    ((look (inMode plain .running).channels 0).mode = .running ∧
      (look (inMode plain .running).channels 0).stop ≠ some .immediate ∧
      currentEntry (inMode plain .running) 0 = some plain) ∧
    (look (playing plain .stop fun c => { c with mode := .running, stop := some .immediate }).channels 0).stop =
      some .immediate ∧
    ((look (firing (inMode gatedEntry .waiting)).channels 0).mode = .waiting ∧
      (currentEntry (firing (inMode gatedEntry .waiting)) 0).bind Entry.gate = some 1 ∧
      firesAt (firing (inMode gatedEntry .waiting)) 0#8 1 = true ∧
      firesAt (inMode gatedEntry .waiting) 0#8 1 = false) :=
  ⟨⟨_, rfl⟩, by decide⟩

/-- A RUNNING pin of channel 0, and an ENTRY_BIT pin of its bit 2, over a state. -/
def marked (s : State) : State :=
  (s.modPin 6 fun m => { m with source := .running 0 }).modPin 7 fun m => { m with source := .entryBit 0 2 }

set_option maxRecDepth 100000 in
/-- R115, R117: at the tick of a gate's release both are high, the entry's bit 2 being set. -/
theorem test_markers_at_the_release :
    (look (after (exec (.outputTick 0#8) (marked (firing (inMode gatedEntry .waiting))))).pins 6).computed = true ∧
    (look (after (exec (.outputTick 0#8) (marked (firing (inMode gatedEntry .waiting))))).pins 7).computed = true := by
  decide

/-! ### Witnesses: supervision, notification and the laws -/

theorem witness_UnitReports : Takes lib 0 ∧ Takes lib 1 := by decide

/-- The monitor at the end of a gate with so many edges, the window 100..200. -/
def gateAt (isLocked : Bool) (good edges : Nat) : State :=
  { inMode plain .running with monitor := ⟨isLocked, good, edges, 1, none, 100, 200⟩ }

theorem witness_GateEndFollowsTheLockTable :
    (∃ t, exec .measurementGateEnd (gateAt true 0 201) = .next t) ∧
    (100 ≤ (gateAt true 0 100).monitor.edges ∧ (gateAt true 0 200).monitor.edges ≤ 200) ∧
    ((gateAt true 0 201).monitor.locked = true ∧ ¬ (gateAt true 0 201).monitor.edges ≤ 200 ∧
      (look (gateAt true 0 201).channels 0).haltOnLoss = true ∧
      (look (gateAt true 0 201).channels 0).mode = .running) ∧
    ((gateAt false 0 100).monitor.locked = false ∧ (gateAt false 0 100).monitor.goodGates = 0) ∧
    (gateAt false 1 200).monitor.goodGates = 1 ∧ ¬ 100 ≤ (gateAt false 1 99).monitor.edges ∧
    (look ((gateAt true 0 201).modPin 7 fun m => { m with source := .running 0 }).pins 7).source = .running 0 ∧
    (look ((gateAt true 0 201).modPin 7 fun m => { m with source := .passToggle 0 true }).pins 7).source =
      .passToggle 0 true :=
  ⟨⟨_, rfl⟩, by decide⟩

/-- R119: at the loss of lock the marker path of a RUNNING pin of a channel that halts is emptied to low. -/
theorem test_loss_empties_the_marker_path :
    (look (after (exec .measurementGateEnd ((gateAt true 0 201).modPin 7 fun m =>
      { m with source := .running 0, path := List.replicate 24 true }))).pins 7).path = List.replicate 24 false := by decide

/-- The cursor at a line, over the library whose one used run is lines 0 to 15. -/
def cursorAt (a : Nat) : State := { lib with scrub := { lib.scrub with cursor := a } }

theorem witness_ScrubberWalksTheUsedLines :
    (cursorAt 15).scrub.interval ≠ 0 ∧ (cursorAt 15).scrub.request = none ∧
    ((look (cursorAt 15).slots 0).body = .ready 64 ⟨0, 1⟩ 7#32 ∧ 16 * 0 ≤ 15 ∧ 15 < 16 * 0 + (64 + 3) / 4) ∧
    ((cursorAt 15).scrub.cursor ≤ 15 ∧ 15 < (cursorAt 16).scrub.cursor) ∧
    ({ lib with scrub := { lib.scrub with request := some 0 } } : State).scrub.request ≠ none ∧
    (Takes lib 0 ∧ 65535 < 65536 ∧ (65535 ≤ 65535)) := by decide

theorem witness_ClockLogAndEventCommands :
    Takes lib 0 ∧ (65535 < 65536 ∧ 65535 ≤ 65535) ∧ (0 < 1 ∧ 1 < 65536) := by decide

/-- The state after reset with a grant waiting in the queue. -/
def grantWaits : State := { State.reset with pending := [.storeGrant] }

theorem witness_StepsKeepThePlayLaw : PlayLaw grantWaits ∧ ∃ t, step grantWaits = .next t := by
  refine ⟨⟨refLaw_reset _, ?_, ?_⟩, _, rfl⟩
  · intro id h
    simp [grantWaits, State.reset, Slot.empty, isFree] at h
  · intro ch
    constructor
    · refine ⟨fun h => ?_, fun x h => ?_, fun h => ?_, fun h => ?_⟩ <;>
        simp [grantWaits, State.reset, Channel.reset] at h
    · simp [TableLaw, grantWaits, State.reset, Channel.reset, Tables.reset, Bank.empty, playable, stepsInRange]

theorem witness_StepsKeepTheLayoutLaw : LayoutLaw grantWaits ∧ ∃ t, step grantWaits = .next t := by
  refine ⟨⟨fun b h => ?_, rfl, by decide, fun id => ?_⟩, _, rfl⟩
  · have h2 : ∀ id : SegId, slotExtent (look grantWaits.slots id) = none := by
      intro id
      simp [grantWaits, State.reset, Slot.empty, slotExtent]
    simp only [blockHolders, h2, Option.any_none]
    simp [grantWaits, State.reset, h]
  · simp [grantWaits, State.reset, Slot.empty, slotExtent]

theorem witness_StepsKeepTheEditorAndPendingLaws :
    EditorLaw grantWaits ∧ PendingLaw grantWaits ∧ ∃ t, step grantWaits = .next t :=
  ⟨by decide, by decide, _, rfl⟩

theorem witness_StepsKeepTheStoreRecords :
    StoreLaw grantWaits ∧ MarkLaw grantWaits ∧ WriteBackLaw grantWaits ∧ ∃ t, step grantWaits = .next t :=
  ⟨rfl, by decide, by decide, _, rfl⟩

theorem witness_StepsKeepTheLogAndMonitorLaws :
    ErrorLogLaw grantWaits ∧ MonitorLaw grantWaits ∧ ∃ t, step grantWaits = .next t :=
  ⟨⟨fun _ => ⟨rfl, rfl, rfl⟩, fun r h => by simp [grantWaits, State.reset] at h⟩, by decide, _, rfl⟩

theorem witness_StepsKeepTheRequestLaws :
    LinkLaw grantWaits ∧ OneRequestLaw grantWaits ∧ PrefetchLaw grantWaits ∧ ∃ t, step grantWaits = .next t := by
  refine ⟨by decide, by decide, fun ch => ?_, _, rfl⟩
  simp [grantWaits, State.reset, Prefetch.reset, wantedRead]

end Sys2Proof.Tests
end

-- ==== The frames of the library family ====
section
/-! SUPPORT. What the layout law and the play law read of a state, as two views: `State.layout` (queue, free list,
extents) and `State.play` (queue, free list, directory bodies and reference counts, tables, channels). One lemma per
operation says which view it keeps, so that a proof about a law never opens an operation that does not concern it. -/

namespace Sys2Proof.Machine

open Sys2Proof

/-- The queue, the free-extent list and each slot's extent: what the layout law reads. -/
structure Layout where
  pending : List Instr
  free : List Extent
  extent : SegId → Option Extent

/-- The queue, the free-extent list and each slot's body and reference count. -/
structure Directory where
  pending : List Instr
  free : List Extent
  body : SegId → SlotBody
  refs : SegId → Nat

/-- The directory with the tables and the channels: what the play law reads. -/
structure PlayView where
  dir : Directory
  channels : Vector Channel 4
  tables : Vector Tables 4

def State.layout (s : State) : Layout := ⟨s.pending, s.free, fun id => slotExtent (look s.slots id)⟩

def State.dir (s : State) : Directory :=
  ⟨s.pending, s.free, fun id => (look s.slots id).body, fun id => (look s.slots id).refCount⟩

def State.play (s : State) : PlayView := ⟨s.dir, s.channels, s.tables⟩

/-- A slot's extent by its body alone. -/
def SlotBody.extent : SlotBody → Option Extent
  | .free => none
  | .opened _ _ e => some e
  | .ready _ e _ => some e

theorem slotExtent_eq (x : Slot) : slotExtent x = x.body.extent := rfl

theorem layout_of_dir {s t : State} (h : t.dir = s.dir) : t.layout = s.layout := by
  have split : ∀ u : State, u.layout = ⟨u.dir.pending, u.dir.free, fun id => (u.dir.body id).extent⟩ := fun _ => rfl
  rw [split, split, h]

theorem dir_of_play {s t : State} (h : t.play = s.play) : t.dir = s.dir := congrArg PlayView.dir h

theorem pending_of_layout {s t : State} (h : t.layout = s.layout) : t.pending = s.pending := congrArg Layout.pending h

theorem body_of_dir {s t : State} (h : t.dir = s.dir) (id : SegId) : (look t.slots id).body = (look s.slots id).body :=
  congrFun (congrArg Directory.body h) id

theorem refCount_of_dir {s t : State} (h : t.dir = s.dir) (id : SegId) :
    (look t.slots id).refCount = (look s.slots id).refCount :=
  congrFun (congrArg Directory.refs h) id

/-! ### Updates of one unit's record -/

@[simp] theorem play_modPrefetch (s : State) (ch : ChanId) (f : Prefetch → Prefetch) :
    (s.modPrefetch ch f).play = s.play := rfl
@[simp] theorem play_modCond (s : State) (k : CondId) (f : Condition → Condition) : (s.modCond k f).play = s.play := rfl
@[simp] theorem play_modPin (s : State) (i : PinId) (f : MarkerPin → MarkerPin) : (s.modPin i f).play = s.play := rfl
@[simp] theorem play_modLink (s : State) (n : LinkId) (f : Link → Link) : (s.modLink n f).play = s.play := rfl
@[simp] theorem play_setPattern (s : State) (ch : ChanId) (x : BitVec 4) : (s.setPattern ch x).play = s.play := rfl
@[simp] theorem play_setPort (s : State) (t : Option Transfer) : (s.setPort t).play = s.play := rfl
@[simp] theorem play_raiseOn (s : State) (n : LinkId) (e : EventFlag) : (s.raiseOn n e).play = s.play := rfl
@[simp] theorem play_raise (s : State) (e : EventFlag) : (s.raise e).play = s.play := rfl
@[simp] theorem dir_modTables (s : State) (ch : ChanId) (f : Tables → Tables) : (s.modTables ch f).dir = s.dir := rfl
@[simp] theorem dir_modChannel (s : State) (ch : ChanId) (f : Channel → Channel) : (s.modChannel ch f).dir = s.dir := rfl

theorem look_put_comp {α β : Type} {n : Nat} (g : α → β) (v : Vector α n) (i j : Fin n) (x : α)
    (h : g x = g (look v i)) : g (look (put v i x) j) = g (look v j) := by
  rw [look_put]
  split
  · next e => rw [h, e]
  · rfl

/-- An update of a slot that keeps its body and its reference count is none the laws see. -/
theorem play_modSlot (s : State) (id : SegId) (f : Slot → Slot) (hb : ∀ x, (f x).body = x.body)
    (hr : ∀ x, (f x).refCount = x.refCount) : (s.modSlot id f).play = s.play := by
  have body : ∀ j, (look (s.modSlot id f).slots j).body = (look s.slots j).body := fun j =>
    look_put_comp Slot.body _ _ _ _ (hb _)
  have refs : ∀ j, (look (s.modSlot id f).slots j).refCount = (look s.slots j).refCount := fun j =>
    look_put_comp Slot.refCount _ _ _ _ (hr _)
  simp only [State.play, State.dir, body, refs]
  rfl

/-- An update of a slot that keeps its extent keeps the layout. -/
theorem layout_modSlot (s : State) (id : SegId) (f : Slot → Slot)
    (h : slotExtent (f (look s.slots id)) = slotExtent (look s.slots id)) : (s.modSlot id f).layout = s.layout := by
  have ext : ∀ j, slotExtent (look (s.modSlot id f).slots j) = slotExtent (look s.slots j) := fun j =>
    look_put_comp slotExtent _ _ _ _ h
  simp only [State.layout, ext]
  rfl

/-! ### The store and the integrity unit -/

@[simp] theorem play_countPoison (id : SegId) (s : State) : (countPoison id s).play = s.play :=
  play_modSlot s id _ (fun _ => rfl) (fun _ => rfl)

@[simp] theorem play_uncountPoison (id : SegId) (s : State) : (uncountPoison id s).play = s.play :=
  play_modSlot s id _ (fun _ => rfl) (fun _ => rfl)

@[simp] theorem play_putLine (a : Nat) (l : StoredLine) (s : State) : (putLine a l s).play = s.play := rfl
@[simp] theorem play_writeData (a : Nat) (d : LineData) (s : State) : (writeData a d s).play = s.play := rfl
@[simp] theorem play_writeMark (a : Nat) (s : State) : (writeMark a s).play = s.play := rfl
@[simp] theorem play_logError (r : ErrorRecord) (s : State) : (logError r s).play = s.play := rfl

@[simp] theorem play_strike (a : Nat) (u : LineBits) (s : State) : (strike a u s).play = s.play := by
  unfold strike
  split <;> rfl

@[simp] theorem play_presentWriteSide (s : State) : (presentWriteSide s).play = s.play := by
  obtain h | ⟨r, -, h⟩ := presentWriteSide_cases s <;> rw [h]
  rfl

@[simp] theorem play_withdrawWriteSide (drop : WriteRequest → Bool) (s : State) :
    (withdrawWriteSide drop s).play = s.play := by
  obtain h | h := withdrawWriteSide_cases drop s <;> rw [h]
  rfl

@[simp] theorem play_enterMark (a : Nat) (id : SegId) (s : State) : (enterMark a id s).play = s.play := by
  unfold enterMark
  split
  · rw [play_withdrawWriteSide, play_countPoison]
    rfl
  · rfl

@[simp] theorem play_offerWriteBack (a : Nat) (id : SegId) (d : LineData) (s : State) :
    (offerWriteBack a id d s).play = s.play := by
  unfold offerWriteBack
  split <;> rfl

@[simp] theorem play_actOnOutcome (k : ReadKind) (a : Nat) (id : SegId) (l : StoredLine) (o : ReadOutcome)
    (s : State) : (actOnOutcome k a id l o s).play = s.play := by
  unfold actOnOutcome
  split
  · rfl
  · rfl
  · dsimp only
    split <;> simp
  · dsimp only
    split <;> simp

@[simp] theorem play_judgeRead (k : ReadKind) (a : Nat) (s : State) : (judgeRead k a s).play = s.play := by
  unfold judgeRead
  split
  · rfl
  · split <;> simp

@[simp] theorem play_endRead (k : ReadKind) (a : Nat) (u : LineBits) (s : State) :
    (endRead k a u s).1.play = s.play := by simp [endRead]

@[simp] theorem play_clearMarkAtFill (a : Nat) (s : State) : (clearMarkAtFill a s).play = s.play := by
  rw [clearMarkAtFill, play_withdrawWriteSide]
  rfl

@[simp] theorem play_clearMarkAtGrant (a : Nat) (s : State) : (clearMarkAtGrant a s).play = s.play := by
  have drop : (withdrawWriteSide (isMarkOf a) { s with marks := s.marks.filter fun r => r.addr ≠ a }).play = s.play :=
    play_clearMarkAtFill a s
  simp only [clearMarkAtGrant]
  split
  · split
    · exact drop
    · rw [play_uncountPoison, drop]
  · exact drop

@[simp] theorem play_dropSegmentRecords (id : SegId) (s : State) : (dropSegmentRecords id s).play = s.play := by
  rw [dropSegmentRecords, play_withdrawWriteSide]
  rfl

@[simp] theorem play_takeScrubLine (a : Nat) (s : State) : (takeScrubLine a s).play = s.play := by
  unfold takeScrubLine
  split <;> rfl

@[simp] theorem play_scrubExpire (s : State) : (scrubExpire s).play = s.play := by
  unfold scrubExpire
  dsimp only
  split
  · rfl
  · split
    · rfl
    · split <;> rw [play_takeScrubLine] <;> rfl

@[simp] theorem play_withdrawScrub (e : Extent) (s : State) : (withdrawScrub e s).play = s.play := by
  unfold withdrawScrub
  split
  · rfl
  · split <;> rfl

/-! ### Prefetch -/

@[simp] theorem play_presentPrefetch (ch : ChanId) (s : State) : (presentPrefetch ch s).play = s.play := by
  obtain h | ⟨pos, r, -, -, -, -, h⟩ := presentPrefetch_cases ch s <;> rw [h]
  rfl

@[simp] theorem play_flush (ch : ChanId) (s : State) : (flush ch s).play = s.play := rfl
@[simp] theorem play_movePlay (ch : ChanId) (s : State) : (movePlay ch s).play = s.play := rfl

@[simp] theorem play_withdrawPrefetch (ch : ChanId) (s : State) : (withdrawPrefetch ch s).play = s.play := by
  unfold withdrawPrefetch
  split <;> rfl

@[simp] theorem play_trimToStop (ch : ChanId) (s : State) : (trimToStop ch s).play = s.play := by
  unfold trimToStop
  split
  · rfl
  · split
    · exact play_withdrawPrefetch ch s
    · rfl

@[simp] theorem play_placeLine (ch : ChanId) (r : PrefetchRequest) (live : Bool) (d : Delivery) (s : State) :
    (placeLine ch r live d s).play = s.play := by
  unfold placeLine
  split <;> rfl

/-! ### Links, frames and long commands -/

@[simp] theorem play_respond (n : LinkId) (tag : Byte) (status : Status) (p : List Byte) (s : State) :
    (respond n tag status p s).play = s.play := rfl
@[simp] theorem play_refuse (n : LinkId) (tag : Byte) (status : Status) (s : State) :
    (refuse n tag status s).play = s.play := rfl
@[simp] theorem play_driveZeros (n : LinkId) (k : Nat) (s : State) : (driveZeros n k s).play = s.play := rfl
@[simp] theorem play_carryOn (n : LinkId) (tag : Byte) (w : LongWork) (s : State) : (carryOn n tag w s).play = s.play := rfl

/-- Hearing a transfer keeps of the state whatever its judgement keeps, for any view the link records are not in. -/
theorem hearTransfer_keeps {α : Type} (view : State → α) (n : LinkId) (judge : State → State) (s : State)
    (hlink : ∀ u f, view (State.modLink u n f) = view u) (hjudge : ∀ u, view (judge u) = view u) :
    view (hearTransfer n judge s) = view s := by
  obtain ⟨-, h⟩ | ⟨-, -, h⟩ | ⟨-, -, h⟩ := hearTransfer_cases n judge s <;> rw [h]
  · exact hlink _ _
  · exact hjudge s

/-- Taking a frame keeps of the state whatever the command's own judgement keeps. -/
theorem takeFrame_keeps {α : Type} (view : State → α) (n : LinkId) (tag code : Byte) (p : List Byte)
    (judge : State → State) (s : State) (hlink : ∀ u f, view (State.modLink u n f) = view u)
    (hjudge : ∀ u, view (judge u) = view u) : view (takeFrame n tag code p judge s) = view s := by
  have hdrive : ∀ k, view (driveZeros n k s) = view s := fun k => hlink s _
  obtain h | h | h | h | h | h := takeFrame_cases n tag code p judge s <;> rw [h]
  · exact hlink _ _
  · exact (hlink _ _).trans (hdrive _)
  · exact (hlink _ _).trans (hdrive _)
  · rw [refuse, respond, State.raiseOn, hlink, hlink, hdrive]
  · exact (hjudge _).trans (hdrive _)

theorem play_hearTransfer (n : LinkId) (judge : State → State) (s : State) (h : ∀ u, (judge u).play = u.play) :
    (hearTransfer n judge s).play = s.play :=
  hearTransfer_keeps State.play n judge s (fun _ _ => rfl) h

theorem play_takeFrame (n : LinkId) (tag code : Byte) (p : List Byte) (judge : State → State) (s : State)
    (h : ∀ u, (judge u).play = u.play) : (takeFrame n tag code p judge s).play = s.play :=
  takeFrame_keeps State.play n tag code p judge s (fun _ _ => rfl) h

theorem layout_takeFrame (n : LinkId) (tag code : Byte) (p : List Byte) (judge : State → State) (s : State)
    (h : ∀ u, (judge u).layout = u.layout) : (takeFrame n tag code p judge s).layout = s.layout :=
  takeFrame_keeps State.layout n tag code p judge s (fun _ _ => rfl) h

theorem pending_takeFrame (n : LinkId) (tag code : Byte) (p : List Byte) (judge : State → State) (s : State)
    (h : ∀ u, (judge u).pending = u.pending) : (takeFrame n tag code p judge s).pending = s.pending :=
  takeFrame_keeps State.pending n tag code p judge s (fun _ _ => rfl) h

@[simp] theorem play_presentLink (n : LinkId) (s : State) : (presentLink n s).play = s.play := by
  obtain h | ⟨tag, work, -, -, -, h⟩ := presentLink_cases n s <;> rw [h]
  rfl

@[simp] theorem play_execute (n : LinkId) (tag : Byte) (w : LongWork) (s : State) : (execute n tag w s).play = s.play := by
  simp [execute]

@[simp] theorem play_fillStep (n : LinkId) (s : State) : (fillStep n s).play = s.play := by
  unfold fillStep
  split
  · split
    · rfl
    · rw [play_respond]
      exact play_modSlot s _ _ (fun _ => rfl) (fun _ => rfl)
  · rfl

@[simp] theorem play_writeStep (n : LinkId) (s : State) : (writeStep n s).play = s.play := by
  unfold writeStep
  split
  · split <;> rfl
  · rfl

@[simp] theorem play_mergeStep (n : LinkId) (kept : LineData) (s : State) : (mergeStep n kept s).play = s.play := by
  unfold mergeStep
  split <;> rfl

@[simp] theorem play_readStep (n : LinkId) (d : Delivery) (s : State) : (readStep n d s).play = s.play := by
  unfold readStep
  split
  · split <;> rfl
  · rfl

@[simp] theorem play_fetchResponse (n : LinkId) (count : Nat) (s : State) : (fetchResponse n count s).play = s.play := by
  unfold fetchResponse
  split <;> rfl

/-! ### The grant decision -/

@[simp] theorem play_grantPrefetch (ch : ChanId) (s : State) : (grantPrefetch ch s).play = s.play := by
  unfold grantPrefetch
  split <;> rfl

@[simp] theorem play_linkGrantMark (x : LinkXfer) (s : State) : (linkGrantMark x s).play = s.play := by
  cases x <;> simp [linkGrantMark]

@[simp] theorem play_grantLink (n : LinkId) (s : State) : (grantLink n s).play = s.play := by
  unfold grantLink
  split
  · rfl
  · dsimp only
    rw [play_linkGrantMark]
    rfl

@[simp] theorem play_grantScrub (s : State) : (grantScrub s).play = s.play := by
  unfold grantScrub
  split <;> rfl

@[simp] theorem play_grantWriteSide (s : State) : (grantWriteSide s).play = s.play := by
  unfold grantWriteSide
  split <;> rfl

theorem play_withArbiter (s : State) (x : Arbiter) : ({ s with arbiter := x } : State).play = s.play := rfl

@[simp] theorem play_grantDecision (s : State) : (grantDecision s).play = s.play := by
  unfold grantDecision
  split
  · dsimp only
    rw [play_withArbiter, play_grantPrefetch]
  · split
    · simp
    · split
      · dsimp only
        rw [play_withArbiter, play_grantPrefetch]
      · split <;> simp

/-! ### Pins, conditions and the parts of a tick that play nothing -/

theorem play_eachPin (f : PinId → State → State) (s : State) (h : ∀ i u, (f i u).play = u.play) :
    (eachPin f s).play = s.play := by simp [eachPin, h]

@[simp] theorem play_emitPulse (ch : ChanId) (s : State) : (emitPulse ch s).play = s.play := rfl
@[simp] theorem play_sampleInputs (levels : BitVec 8) (s : State) : (sampleInputs levels s).play = s.play := rfl
@[simp] theorem play_markerTick (fired : BitVec 4) (i : PinId) (s : State) : (markerTick fired i s).play = s.play := rfl

@[simp] theorem play_evaluate (k : CondId) (s : State) : (evaluate k s).play = s.play := by
  unfold evaluate
  dsimp only
  split <;> rfl

@[simp] theorem play_showPattern (ch : ChanId) (s : State) : (showPattern ch s).play = s.play := by
  unfold showPattern
  split
  · split <;> rfl
  · rfl

end Sys2Proof.Machine
end

-- ==== What one channel's work leaves of the rest ====
section
/-! SUPPORT. Every operation of a channel keeps the queue and the directory and the other channels' records and tables:
one lemma per operation. From it the frames of the commands, as `exec` answers them. -/

namespace Sys2Proof.Machine

open Sys2Proof

/-- From `s` to `t` nothing the laws read has changed but the channel's own record and tables. -/
structure OnlyChannel (ch : ChanId) (s t : State) : Prop where
  dir : t.dir = s.dir
  channels : ∀ d, d ≠ ch → look t.channels d = look s.channels d
  tables : ∀ d, d ≠ ch → look t.tables d = look s.tables d

namespace OnlyChannel

variable {ch : ChanId} {s t u : State}

theorem refl (ch : ChanId) (s : State) : OnlyChannel ch s s := ⟨rfl, fun _ _ => rfl, fun _ _ => rfl⟩

theorem trans (h : OnlyChannel ch s t) (g : OnlyChannel ch t u) : OnlyChannel ch s u :=
  ⟨g.dir.trans h.dir, fun d hd => (g.channels d hd).trans (h.channels d hd),
    fun d hd => (g.tables d hd).trans (h.tables d hd)⟩

theorem of_play (h : t.play = s.play) : OnlyChannel ch s t := by
  have hc : t.channels = s.channels := congrArg PlayView.channels h
  have ht : t.tables = s.tables := congrArg PlayView.tables h
  exact ⟨dir_of_play h, fun d _ => by rw [hc], fun d _ => by rw [ht]⟩

theorem then_play (h : OnlyChannel ch s t) (g : u.play = t.play) : OnlyChannel ch s u := h.trans (of_play g)

theorem modChannel (f : Channel → Channel) (h : OnlyChannel ch s t) : OnlyChannel ch s (t.modChannel ch f) :=
  h.trans ⟨rfl, fun _ hd => look_put_ne _ _ hd.symm, fun _ _ => rfl⟩

theorem modTables (f : Tables → Tables) (h : OnlyChannel ch s t) : OnlyChannel ch s (t.modTables ch f) :=
  h.trans ⟨rfl, fun _ _ => rfl, fun _ hd => look_put_ne _ _ hd.symm⟩

theorem raise (e : EventFlag) (h : OnlyChannel ch s t) : OnlyChannel ch s (t.raise e) := h.then_play (play_raise t e)

theorem turnPins (f : PinId → MarkerPin → MarkerPin) (h : OnlyChannel ch s t) :
    OnlyChannel ch s (eachPin (fun i s => s.modPin i (f i)) t) :=
  h.then_play (play_eachPin _ t fun _ _ => rfl)

end OnlyChannel

/-! ### One channel's operations -/

theorem onlyChannel_swapBanks (ch : ChanId) (s : State) : OnlyChannel ch s (swapBanks ch s) :=
  (((OnlyChannel.refl ch s).modTables _).modChannel _).raise _

theorem onlyChannel_enterIdle (ch : ChanId) (s : State) : OnlyChannel ch s (enterIdle ch s) := by
  have idle : OnlyChannel ch s (s.modChannel ch idleRecord) := (OnlyChannel.refl ch s).modChannel _
  have disposed : OnlyChannel ch s (if (look (s.modChannel ch idleRecord).channels ch).commit.isSome
      then swapBanks ch (s.modChannel ch idleRecord) else s.modChannel ch idleRecord) := by
    split
    · exact idle.trans (onlyChannel_swapBanks ch _)
    · exact idle
  exact ((disposed.then_play (play_flush ch _)).then_play (play_setPattern _ ch _)).raise _

theorem onlyChannel_beginEntry (ch : ChanId) (x : SlotIx) (p : Nat) (s : State) :
    OnlyChannel ch s (beginEntry ch x p s) := by
  have begun : OnlyChannel ch s (s.modChannel ch (beginRecord (entryIn s ch x) x p)) :=
    (OnlyChannel.refl ch s).modChannel _
  unfold beginEntry
  dsimp only
  split
  · exact begun.modChannel _
  · split
    · exact begun.trans (onlyChannel_enterIdle ch _)
    · exact (begun.modChannel _).raise _

theorem onlyChannel_turnTo (ch : ChanId) (x : SlotIx) (s : State) : OnlyChannel ch s (turnTo ch x s) :=
  (onlyChannel_beginEntry ch x 0 s).then_play (play_flush ch _)

theorem onlyChannel_takeCommit (ch : ChanId) (x : SlotIx) (s : State) : OnlyChannel ch s (takeCommit ch x s) :=
  (onlyChannel_swapBanks ch s).trans (onlyChannel_turnTo ch x _)

theorem onlyChannel_advanceTo (ch : ChanId) (x : SlotIx) (p : Nat) (s : State) :
    OnlyChannel ch s (advanceTo ch x p s) :=
  (OnlyChannel.of_play (play_movePlay ch s)).trans (onlyChannel_beginEntry ch x p _)

theorem onlyChannel_tableEnd (ch : ChanId) (p : Nat) (s : State) : OnlyChannel ch s (tableEnd ch p s) := by
  unfold tableEnd
  split
  · exact onlyChannel_takeCommit ch _ s
  · split
    · exact onlyChannel_advanceTo ch _ p s
    · exact onlyChannel_enterIdle ch s

theorem onlyChannel_entryEnd (ch : ChanId) (p : Nat) (jump : Option SlotIx) (s : State) :
    OnlyChannel ch s (entryEnd ch p jump s) := by
  unfold entryEnd
  dsimp only
  split
  · exact onlyChannel_enterIdle ch s
  · split
    · exact onlyChannel_takeCommit ch _ s
    · split
      · exact onlyChannel_turnTo ch _ s
      · split
        · exact onlyChannel_advanceTo ch _ p s
        · exact onlyChannel_tableEnd ch p s

theorem onlyChannel_passEndDecision (ch : ChanId) (p : Nat) (jump : Option SlotIx) (s : State) :
    OnlyChannel ch s (passEndDecision ch p jump s) := by
  unfold passEndDecision
  dsimp only
  split
  · exact onlyChannel_enterIdle ch s
  · split
    · exact onlyChannel_entryEnd ch p jump s
    · split
      · exact onlyChannel_entryEnd ch p _ s
      · exact OnlyChannel.of_play (play_movePlay ch s)

/-- The pulse and the toggles of a pass end (R53, R116). -/
def passSignalled (ch : ChanId) (s : State) : State :=
  eachPin (fun i s => s.modPin i (invertToggle ch)) (emitPulse ch s)

theorem play_passSignalled (ch : ChanId) (s : State) : (passSignalled ch s).play = s.play :=
  play_eachPin _ _ fun _ _ => rfl

/-- The state a pass end's decision is made in (R53). -/
def passCounted (ch : ChanId) (p : Nat) (s : State) : State :=
  (passSignalled ch s).modChannel ch (passEndRecord (currentEntry (passSignalled ch s) ch) p)

theorem passEnds_eq (ch : ChanId) (p : Nat) (jump : Option SlotIx) (s : State) :
    passEnds ch p jump s = passEndDecision ch p jump (passCounted ch p s) := by
  rw [passEnds, passCounted, passSignalled]

theorem onlyChannel_passEnds (ch : ChanId) (p : Nat) (jump : Option SlotIx) (s : State) :
    OnlyChannel ch s (passEnds ch p jump s) := by
  have counted : OnlyChannel ch s (passCounted ch p s) := (OnlyChannel.of_play (play_passSignalled ch s)).modChannel _
  rw [passEnds_eq]
  exact counted.trans (onlyChannel_passEndDecision ch p jump _)

theorem onlyChannel_startChannel (x : SlotIx) (ch : ChanId) (s : State) : OnlyChannel ch s (startChannel x ch s) := by
  have turned : OnlyChannel ch s (turnTo ch x (s.modChannel ch startRecord)) :=
    ((OnlyChannel.refl ch s).modChannel _).trans (onlyChannel_turnTo ch x _)
  exact ((((turned.turnPins fun _ => restoreToggle ch).then_play (play_setPattern _ ch _)).raise _).then_play
    (play_presentPrefetch ch _))

theorem onlyChannel_stopChannel (mode : StopMode) (ch : ChanId) (s : State) :
    OnlyChannel ch s (stopChannel mode ch s) := by
  unfold stopChannel
  split
  · exact OnlyChannel.refl ch s
  · exact onlyChannel_enterIdle ch s
  · exact onlyChannel_enterIdle ch s
  · exact (((OnlyChannel.refl ch s).modChannel _).then_play (play_trimToStop ch _)).then_play (play_presentPrefetch ch _)

theorem onlyChannel_haltChannel (ch : ChanId) (s : State) : OnlyChannel ch s (haltChannel ch s) := by
  unfold haltChannel
  dsimp only
  split
  · exact ((((OnlyChannel.refl ch s).modChannel haltRecord).turnPins fun _ => emptyMarkerPath ch).then_play
      (play_withdrawPrefetch ch _)).raise _
  · exact OnlyChannel.refl ch s

theorem onlyChannel_carryStop (ch : ChanId) (s : State) : OnlyChannel ch s (carryStop ch s) := by
  unfold carryStop
  dsimp only
  split
  · exact onlyChannel_enterIdle ch s
  · exact OnlyChannel.refl ch s

theorem onlyChannel_takeFirings (fired : BitVec 4) (ch : ChanId) (s : State) :
    OnlyChannel ch s (takeFirings fired ch s) := by
  unfold takeFirings
  split
  · exact (OnlyChannel.refl ch s).modChannel _
  · split
    · exact OnlyChannel.refl ch s
    · split
      · exact (OnlyChannel.refl ch s).modChannel _
      · exact OnlyChannel.refl ch s

theorem onlyChannel_handComputed (ch : ChanId) (z : Int) (s : State) : OnlyChannel ch s (handComputed ch z s) := by
  have handed : OnlyChannel ch s (s.modChannel ch fun c =>
      handCode (BitVec.ofInt 16 (clampCode (roundValue z))) { c with underrunEpisode := false }) :=
    (OnlyChannel.refl ch s).modChannel _
  unfold handComputed
  dsimp only
  split
  · exact handed
  · split
    · exact handed.modChannel clipRecord
    · exact (handed.modChannel clipRecord).raise _

theorem onlyChannel_handOver (values : ChanId → TickValue) (ch : ChanId) (s : State) :
    OnlyChannel ch s (handOver values ch s) := by
  have same := OnlyChannel.refl ch s
  unfold handOver
  dsimp only
  split
  · exact same.modChannel _
  · exact same.modChannel _
  · split <;> exact same.modChannel _
  · split
    · exact onlyChannel_handComputed ch _ s
    · split
      · exact same.modChannel _
      · exact (same.modChannel _).raise _
    · exact same.modChannel _
    · exact same.modChannel _

theorem onlyChannel_advance (jumps : ChanId → Option SlotIx) (ch : ChanId) (s : State) :
    OnlyChannel ch s (advance jumps ch s) := by
  unfold advance
  dsimp only
  split
  · split
    · exact onlyChannel_passEnds ch _ _ s
    · have moved := (OnlyChannel.refl ch s).modChannel
        fun c => { c with phase := (look s.channels ch).phase + (look s.channels ch).currentStep }
      have played := moved.then_play (play_movePlay ch _)
      split <;> split
      · exact moved
      · exact played
      · exact moved.trans (onlyChannel_entryEnd ch _ _ _)
      · exact played.trans (onlyChannel_entryEnd ch _ _ _)
  · exact OnlyChannel.refl ch s

/-! ### Work on several channels -/

theorem dir_eachChannel (f : ChanId → State → State) (s : State) (h : ∀ ch u, (f ch u).dir = u.dir) :
    (eachChannel f s).dir = s.dir := by simp [eachChannel, h]

theorem dir_eachCond (f : CondId → State → State) (s : State) (h : ∀ k u, (f k u).dir = u.dir) :
    (eachCond f s).dir = s.dir := by simp [eachCond, h]

/-- A fold keeps of the state whatever its every step keeps. -/
theorem foldl_keeps {α β : Type} (view : State → α) (f : State → β → State) (h : ∀ u x, view (f u x) = view u)
    (l : List β) : ∀ s, view (l.foldl f s) = view s := by
  induction l with
  | nil => exact fun _ => rfl
  | cons x l ih => exact fun s => (ih _).trans (h s x)

theorem dir_forChannels (set : BitVec 4) (f : ChanId → State → State) (s : State) (h : ∀ ch u, (f ch u).dir = u.dir) :
    (forChannels set f s).dir = s.dir := by
  rw [forChannels, foldl_keeps State.dir _ fun u ch => h ch u]

theorem dir_tick (levels : BitVec 8) (s : State) : (tick levels s).dir = s.dir := by
  have opened : (tickOpening levels s).dir = s.dir :=
    by
    rw [tickOpening, dir_eachChannel _ _ fun ch u => (onlyChannel_carryStop ch u).dir,
      dir_of_play (play_sampleInputs levels s)]
  have ready : (tickFirings (tickOpening levels s)).dir = s.dir := by
    rw [tickFirings, dir_eachChannel _ _ fun ch u => (onlyChannel_takeFirings _ ch u).dir,
      dir_eachCond _ _ fun k u => dir_of_play (play_evaluate k u), opened]
  simp only [tick]
  rw [dir_eachChannel _ _ fun ch u => dir_of_play (play_presentPrefetch ch u),
    dir_eachChannel _ _ fun ch u => (onlyChannel_advance _ ch u).dir,
    dir_of_play (play_eachPin _ _ fun i u => play_markerTick _ i u),
    dir_eachChannel _ _ fun ch u => dir_of_play (play_showPattern ch u),
    dir_eachChannel _ _ fun ch u => (onlyChannel_handOver _ ch u).dir, ready]

theorem dir_gateEnd (s : State) : (gateEnd s).dir = s.dir := by
  have gated : ({ s with monitor := gateRecord s.monitor } : State).dir = s.dir := rfl
  unfold gateEnd
  dsimp only
  split
  · rw [dir_of_play (play_raise _ _), dir_eachChannel _ _ fun ch u => (onlyChannel_haltChannel ch u).dir, gated]
  · split
    · rw [dir_of_play (play_raise _ _), gated]
    · exact gated

theorem dir_microsecond (s : State) : (microsecond s).dir = s.dir := by
  have gate : (gateMicrosecond s).dir = s.dir := by
    unfold gateMicrosecond
    split
    · exact dir_gateEnd s
    · rfl
  have scrub : ∀ u : State, (scrubMicrosecond u).dir = u.dir := by
    intro u
    unfold scrubMicrosecond
    split
    · rfl
    · split
      · exact dir_of_play (play_scrubExpire u)
      · rfl
  exact (scrub _).trans gate

end Sys2Proof.Machine
end

-- ==== The frames of the commands ====
section
/-! SUPPORT. Which command keeps which view, and what a command can answer; with it the queue and the faults. -/

namespace Sys2Proof.Machine

open Sys2Proof

/-! ### Judgements that keep the play view -/

@[simp] theorem play_writeSamples (n : LinkId) (tag : Byte) (p : List Byte) (s : State) :
    (writeSamples n tag p s).play = s.play := by
  unfold writeSamples
  dsimp only
  split
  · exact play_refuse ..
  · split
    · exact play_refuse ..
    · split
      · split
        · exact play_refuse ..
        · split
          · exact play_refuse ..
          · exact play_execute ..
      · exact play_refuse ..
      · exact play_refuse ..

@[simp] theorem play_acceptRead (n : LinkId) (tag : Byte) (id : SegId) (offset count : Nat) (s : State) :
    (acceptRead n tag id offset count s).play = s.play := by
  unfold acceptRead
  split
  · exact play_refuse ..
  · exact play_execute ..

@[simp] theorem play_readSamples (n : LinkId) (tag : Byte) (p : List Byte) (s : State) :
    (readSamples n tag p s).play = s.play := by
  unfold readSamples
  dsimp only
  split
  · exact play_refuse ..
  · split
    · exact play_refuse ..
    · split
      · exact play_refuse ..
      · exact play_acceptRead ..
    · exact play_acceptRead ..

@[simp] theorem play_readEntry (n : LinkId) (tag : Byte) (p : List Byte) (s : State) :
    (readEntry n tag p s).play = s.play := by
  unfold readEntry
  split <;> rfl

@[simp] theorem play_tableStatus (n : LinkId) (tag : Byte) (p : List Byte) (s : State) :
    (tableStatus n tag p s).play = s.play := by
  unfold tableStatus
  split <;> rfl

@[simp] theorem play_channelSettings (n : LinkId) (tag : Byte) (p : List Byte) (s : State) :
    (channelSettings n tag p s).play = s.play := by
  unfold channelSettings
  split <;> rfl

@[simp] theorem play_setCondition (n : LinkId) (tag : Byte) (p : List Byte) (s : State) :
    (setCondition n tag p s).play = s.play := by
  unfold setCondition
  dsimp only
  split
  · split <;> rfl
  · rfl

@[simp] theorem play_setConditionEnable (n : LinkId) (tag : Byte) (p : List Byte) (s : State) :
    (setConditionEnable n tag p s).play = s.play := by
  unfold setConditionEnable
  split <;> rfl

@[simp] theorem play_fireCondition (n : LinkId) (tag : Byte) (p : List Byte) (s : State) :
    (fireCondition n tag p s).play = s.play := by
  unfold fireCondition
  split
  · rfl
  · split <;> rfl

@[simp] theorem play_conditionStatus (n : LinkId) (tag : Byte) (p : List Byte) (s : State) :
    (conditionStatus n tag p s).play = s.play := by
  unfold conditionStatus
  split
  · rw [play_respond]
    split <;> rfl
  · rfl

@[simp] theorem play_setMarker (n : LinkId) (tag : Byte) (p : List Byte) (s : State) :
    (setMarker n tag p s).play = s.play := by
  unfold setMarker
  split <;> rfl

@[simp] theorem play_setScrub (n : LinkId) (tag : Byte) (p : List Byte) (s : State) :
    (setScrub n tag p s).play = s.play := by
  unfold setScrub
  dsimp only
  split <;> rfl

@[simp] theorem play_setClockWindow (n : LinkId) (tag : Byte) (p : List Byte) (s : State) :
    (setClockWindow n tag p s).play = s.play := by
  unfold setClockWindow
  split <;> rfl

/-! ### The ends of store transfers -/

/-- The row found no transfer of its kind on the port and left the state, or it ended the one there, having touched
nothing the laws of play and layout read. -/
def EndsATransfer (s : State) (r : Result) : Prop :=
  r = .next s ∨ ∃ x u, s.arbiter.port = some x ∧ r = inStore x.addr u ∧ u.play = s.play

theorem zeroFillWriteEnd_ends (s : State) : EndsATransfer s (execZeroFillWriteEnd s) := by
  unfold execZeroFillWriteEnd
  split
  · next n a live h =>
    refine .inr ⟨_, _, h, rfl, ?_⟩
    rw [play_presentLink]
    split
    · exact (play_fillStep n _).trans rfl
    · rfl
  · exact .inl rfl

theorem writeSamplesTransferEnd_ends (u : LineBits) (s : State) :
    EndsATransfer s (execWriteSamplesTransferEnd u s) := by
  unfold execWriteSamplesTransferEnd
  split
  · next n a data live h =>
    refine .inr ⟨_, _, h, rfl, ?_⟩
    rw [play_presentLink]
    split
    · exact (play_writeStep n _).trans rfl
    · rfl
  · next n a live h =>
    refine .inr ⟨_, _, h, rfl, ?_⟩
    rw [play_presentLink]
    split
    · exact (play_mergeStep n _ _).trans (play_endRead ..)
    · exact play_endRead ..
  · exact .inl rfl

theorem readSamplesLineEnd_ends (u : LineBits) (s : State) : EndsATransfer s (execReadSamplesLineEnd u s) := by
  unfold execReadSamplesLineEnd
  split
  · next n a live h =>
    refine .inr ⟨_, _, h, rfl, ?_⟩
    rw [play_presentLink]
    split
    · exact (play_readStep n _ _).trans (play_endRead ..)
    · exact play_endRead ..
  · exact .inl rfl

theorem prefetchReadEnd_ends (u : LineBits) (s : State) : EndsATransfer s (execPrefetchReadEnd u s) := by
  unfold execPrefetchReadEnd
  split
  · next ch r live h =>
    refine .inr ⟨_, _, h, rfl, ?_⟩
    rw [play_presentPrefetch, play_placeLine]
    exact play_endRead ..
  · exact .inl rfl

theorem scrubReadEnd_ends (u : LineBits) (s : State) : EndsATransfer s (execScrubReadEnd u s) := by
  unfold execScrubReadEnd
  split
  · next a h => exact .inr ⟨_, _, h, rfl, play_endRead .scrub a u s⟩
  · exact .inl rfl

theorem markWriteEnd_ends (s : State) : EndsATransfer s (execMarkWriteEnd s) := by
  unfold execMarkWriteEnd
  split
  · next r h => exact .inr ⟨_, _, h, rfl, (play_presentWriteSide _).trans rfl⟩
  · exact .inl rfl

theorem writeBackEnd_ends (s : State) : EndsATransfer s (execWriteBackEnd s) := by
  unfold execWriteBackEnd
  split
  · next r h => exact .inr ⟨_, _, h, rfl, (play_presentWriteSide _).trans rfl⟩
  · exact .inl rfl

theorem exec_endsATransfer {c : Instr} (s : State) (h : c.endsTransfer = true) : EndsATransfer s (exec c s) := by
  cases c with
  | zeroFillWriteEnd => exact zeroFillWriteEnd_ends s
  | writeSamplesTransferEnd u => exact writeSamplesTransferEnd_ends u s
  | readSamplesLineEnd u => exact readSamplesLineEnd_ends u s
  | prefetchReadEnd u => exact prefetchReadEnd_ends u s
  | scrubReadEnd u => exact scrubReadEnd_ends u s
  | markWriteEnd => exact markWriteEnd_ends s
  | writeBackEnd => exact writeBackEnd_ends s
  | _ => exact absurd h Bool.false_ne_true

/-- Everything a command can answer: a next state, or the fault of a transfer whose line is outside the store. -/
theorem exec_answers (c : Instr) (s : State) :
    (∃ t, exec c s = .next t) ∨
    c.endsTransfer = true ∧ ∃ x ∈ s.arbiter.port, 262144 ≤ x.addr ∧ exec c s = .fault (.lineOutsideStore x.addr) := by
  by_cases hc : c.endsTransfer = true
  · obtain h | ⟨x, u, hx, h, -⟩ := exec_endsATransfer s hc
    · exact .inl ⟨s, h⟩
    · obtain ⟨-, hin⟩ | ⟨hout, hf⟩ := inStore_cases x.addr u
      · exact .inl ⟨u, h.trans hin⟩
      · exact .inr ⟨hc, x, hx, hout, h.trans hf⟩
  · refine .inl ?_
    cases c with
    | zeroFillWriteEnd => exact absurd rfl hc
    | writeSamplesTransferEnd u => exact absurd rfl hc
    | readSamplesLineEnd u => exact absurd rfl hc
    | prefetchReadEnd u => exact absurd rfl hc
    | scrubReadEnd u => exact absurd rfl hc
    | markWriteEnd => exact absurd rfl hc
    | writeBackEnd => exact absurd rfl hc
    | _ => exact ⟨_, rfl⟩

theorem play_of_transferEnd {c : Instr} {s t : State} (hc : c.endsTransfer = true) (h : exec c s = .next t) :
    t.play = s.play := by
  obtain e | ⟨x, u, -, e, hu⟩ := exec_endsATransfer s hc
  · rw [e] at h
    cases h
    rfl
  · rw [e] at h
    obtain ⟨-, hin⟩ | ⟨-, hf⟩ := inStore_cases x.addr u
    · rw [hin] at h
      cases h
      exact hu
    · rw [hf] at h
      cases h

/-! ### Which command keeps which view -/

/-- The command reaches neither a slot's body or reference count, nor the free list, a table or a channel. -/
def Instr.playsNothing : Instr → Bool
  | .powerOnReset _ | .linkReset _ | .createSegment .. | .finishSegment .. | .abandonSegment .. | .deleteSegment .. => false
  | .writeEntry .. | .clearEntry .. | .setTableEnd .. | .commitTable .. | .cancelCommit .. | .discardStaged .. => false
  | .start .. | .stop .. | .channelStatus .. | .setScale .. | .setRate .. | .setChannelConfig .. => false
  | .outputTick _ | .conditionFiring .. | .holdoffExpiry .. | .passEnd .. | .markerPulseEnd .. => false
  | .measurementGateEnd => false
  | _ => true

/-- Such a command keeps the play view. -/
theorem exec_play {c : Instr} {s t : State} (hc : Instr.playsNothing c = true) (h : exec c s = .next t) :
    t.play = s.play := by
  by_cases he : c.endsTransfer = true
  · exact play_of_transferEnd he h
  have frame : ∀ {n tag code p judge}, Host.Outcome.next (takeFrame n tag code p judge s) =
      (Host.Outcome.next t : Result) → (∀ u, (judge u).play = u.play) → t.play = s.play := by
    intro n tag code p judge e hj
    cases e
    exact play_takeFrame n tag code p judge s hj
  cases c with
  | linkResetRelease n selected =>
    cases h
    split <;> rfl
  | frameError n bytes =>
    cases h
    split
    · exact play_hearTransfer _ _ _ fun _ => rfl
    · split
      · exact play_hearTransfer _ _ _ fun _ => rfl
      · rfl
  | commandDropped n tag code p =>
    cases h
    split
    · rfl
    · exact play_takeFrame _ _ _ _ _ _ fun _ => rfl
  | unknownCommand n tag code p =>
    cases h
    split
    · rfl
    · exact play_takeFrame _ _ _ _ _ _ fun _ => rfl
  | responseFetch n count =>
    cases h
    exact play_hearTransfer _ _ _ (play_fetchResponse n count)
  | identify n tag p => exact frame h fun _ => rfl
  | writeSamples n tag p => exact frame h (play_writeSamples n tag p)
  | readSamples n tag p => exact frame h (play_readSamples n tag p)
  | querySegment n tag p => exact frame h fun _ => rfl
  | findTag n tag p => exact frame h fun _ => rfl
  | libraryStatus n tag p => exact frame h fun _ => rfl
  | readEntry n tag p => exact frame h (play_readEntry n tag p)
  | tableStatus n tag p => exact frame h (play_tableStatus n tag p)
  | channelSettings n tag p => exact frame h (play_channelSettings n tag p)
  | setCondition n tag p => exact frame h (play_setCondition n tag p)
  | setConditionEnable n tag p => exact frame h (play_setConditionEnable n tag p)
  | fireCondition n tag p => exact frame h (play_fireCondition n tag p)
  | conditionStatus n tag p => exact frame h (play_conditionStatus n tag p)
  | setMarker n tag p => exact frame h (play_setMarker n tag p)
  | markerStatus n tag p => exact frame h fun _ => rfl
  | setScrub n tag p => exact frame h (play_setScrub n tag p)
  | errorLogRead n tag p => exact frame h fun _ => rfl
  | errorLogClear n tag p => exact frame h fun _ => rfl
  | setClockWindow n tag p => exact frame h (play_setClockWindow n tag p)
  | clockStatus n tag p => exact frame h fun _ => rfl
  | readEvents n tag p => exact frame h fun _ => rfl
  | ackEvents n tag p => exact frame h fun _ => rfl
  | setEventMask n tag p => exact frame h fun _ => rfl
  | scrubExpiry =>
    cases h
    split
    · rfl
    · exact play_scrubExpire s
  | storeGrant =>
    cases h
    split
    · rfl
    · exact play_grantDecision s
  | zeroFillWriteEnd => exact absurd rfl he
  | writeSamplesTransferEnd u => exact absurd rfl he
  | readSamplesLineEnd u => exact absurd rfl he
  | prefetchReadEnd u => exact absurd rfl he
  | scrubReadEnd u => exact absurd rfl he
  | markWriteEnd => exact absurd rfl he
  | writeBackEnd => exact absurd rfl he
  | _ => exact absurd hc Bool.false_ne_true

end Sys2Proof.Machine
end

-- ==== The commands that keep the layout, and the queue ====
section
/-! SUPPORT. The commands that move references, tables and channels keep the layout; the five that move segments or
restore the part keep at least the queue. -/

namespace Sys2Proof.Machine

open Sys2Proof

/-! ### Tables and channels -/

theorem layout_adjustRefs (old new : Option Entry) (s : State) : (adjustRefs old new s).layout = s.layout := by
  have add : ∀ (id : SegId) (u : State), (addRef id u).layout = u.layout := fun id u => layout_modSlot u id _ rfl
  have drop : ∀ (id : SegId) (u : State), (dropRef id u).layout = u.layout := fun id u => layout_modSlot u id _ rfl
  unfold adjustRefs
  split
  · rfl
  · exact add _ _
  · exact drop _ _
  · split
    · rfl
    · exact (add _ _).trans (drop _ _)

theorem layout_setStagedSlot (n : LinkId) (ch : ChanId) (x : SlotIx) (e : Option Entry) (s : State) :
    (setStagedSlot n ch x e s).layout = s.layout :=
  layout_adjustRefs _ e s

theorem layout_discardSlot (ch : ChanId) (s : State) (x : SlotIx) : (discardSlot ch s x).layout = s.layout :=
  layout_adjustRefs _ _ s

theorem layout_copyActive (ch : ChanId) (s : State) : (copyActive ch s).layout = s.layout := by
  rw [copyActive, layout_of_dir (dir_modTables _ ch _), foldl_keeps State.layout _ (layout_discardSlot ch)]

theorem layout_writeEntry (n : LinkId) (tag : Byte) (p : List Byte) (s : State) :
    (writeEntry n tag p s).layout = s.layout := by
  unfold writeEntry
  split
  · split
    · rfl
    · split
      · rfl
      · split
        · exact layout_setStagedSlot n _ _ _ s
        · rfl
  · rfl

theorem layout_clearEntry (n : LinkId) (tag : Byte) (p : List Byte) (s : State) :
    (clearEntry n tag p s).layout = s.layout := by
  unfold clearEntry
  split
  · split
    · rfl
    · exact layout_setStagedSlot n _ _ _ s
  · rfl

theorem layout_discardStaged (n : LinkId) (tag : Byte) (p : List Byte) (s : State) :
    (discardStaged n tag p s).layout = s.layout := by
  unfold discardStaged
  split
  · rfl
  · split
    · rfl
    · rw [layout_of_dir (dir_of_play (play_respond ..)), layout_copyActive]

theorem dir_setTableEnd (n : LinkId) (tag : Byte) (p : List Byte) (s : State) :
    (setTableEnd n tag p s).dir = s.dir := by
  unfold setTableEnd
  split
  · split <;> rfl
  · rfl

theorem dir_acceptCommit (n : LinkId) (tag : Byte) (ch : ChanId) (k : Commit) (s : State) :
    (acceptCommit n tag ch k s).dir = s.dir := by
  unfold acceptCommit
  dsimp only
  split
  · exact (onlyChannel_swapBanks ch _).dir
  · rw [dir_of_play (play_respond ..), dir_of_play (play_presentPrefetch ..), (onlyChannel_takeCommit ch _ _).dir,
      dir_modTables]
  · rfl

theorem dir_commitTable (n : LinkId) (tag : Byte) (p : List Byte) (s : State) :
    (commitTable n tag p s).dir = s.dir := by
  unfold commitTable
  split
  · split
    · rfl
    · split
      · rfl
      · exact dir_acceptCommit n tag _ _ s
  · rfl

theorem dir_cancelCommit (n : LinkId) (tag : Byte) (p : List Byte) (s : State) :
    (cancelCommit n tag p s).dir = s.dir := by
  unfold cancelCommit
  split
  · rfl
  · split <;> rfl

theorem dir_startChannels (n : LinkId) (tag : Byte) (p : List Byte) (s : State) :
    (startChannels n tag p s).dir = s.dir := by
  unfold startChannels
  split
  · split
    · rfl
    · exact dir_forChannels _ _ s fun ch u => (onlyChannel_startChannel _ ch u).dir
  · rfl

theorem dir_stopChannels (n : LinkId) (tag : Byte) (p : List Byte) (s : State) :
    (stopChannels n tag p s).dir = s.dir := by
  unfold stopChannels
  split
  · exact dir_forChannels _ _ s fun ch u => (onlyChannel_stopChannel _ ch u).dir
  · rfl

theorem dir_channelStatus (n : LinkId) (tag : Byte) (p : List Byte) (s : State) :
    (channelStatus n tag p s).dir = s.dir := by
  unfold channelStatus
  split
  · rw [dir_of_play (play_respond ..)]
    split <;> rfl
  · rfl

theorem dir_setScale (n : LinkId) (tag : Byte) (p : List Byte) (s : State) : (setScale n tag p s).dir = s.dir := by
  unfold setScale
  split <;> rfl

theorem dir_setRate (n : LinkId) (tag : Byte) (p : List Byte) (s : State) : (setRate n tag p s).dir = s.dir := by
  unfold setRate
  split <;> rfl

theorem dir_setChannelConfig (n : LinkId) (tag : Byte) (p : List Byte) (s : State) :
    (setChannelConfig n tag p s).dir = s.dir := by
  unfold setChannelConfig
  split
  · split
    · rfl
    · split <;> rfl
  · rfl

/-! ### Segments -/

theorem layout_finishSegment (n : LinkId) (tag : Byte) (p : List Byte) (s : State) :
    (finishSegment n tag p s).layout = s.layout := by
  unfold finishSegment
  dsimp only
  split
  · next owner length extent h =>
    split
    · rfl
    · rw [layout_of_dir (dir_of_play (play_respond ..)), layout_of_dir (dir_of_play (play_raise ..)), layout_modSlot]
      rw [slotExtent_eq, slotExtent_eq, h]
      rfl
  · rfl
  · rfl

theorem pending_freeSegment (id : SegId) (s : State) : (freeSegment id s).pending = s.pending := by
  unfold freeSegment
  split <;> rfl

theorem pending_of_play {s t : State} (h : t.play = s.play) : t.pending = s.pending :=
  congrArg (fun v => v.dir.pending) h

theorem pending_createSegment (n : LinkId) (tag : Byte) (p : List Byte) (s : State) :
    (createSegment n tag p s).pending = s.pending := by
  unfold createSegment
  dsimp only
  split
  · rfl
  · split
    · rfl
    · split
      · rfl
      · rw [pending_of_play (play_execute ..)]
        rfl

theorem pending_abandonSegment (n : LinkId) (tag : Byte) (p : List Byte) (s : State) :
    (abandonSegment n tag p s).pending = s.pending := by
  unfold abandonSegment
  dsimp only
  split
  · split
    · rfl
    · rw [pending_of_play (play_respond ..), State.raise_pending, pending_of_play (play_presentWriteSide _),
        pending_freeSegment, pending_of_play (play_dropSegmentRecords ..)]
  · rfl
  · rfl

theorem pending_deleteSegment (n : LinkId) (tag : Byte) (p : List Byte) (s : State) :
    (deleteSegment n tag p s).pending = s.pending := by
  unfold deleteSegment
  dsimp only
  split
  · split
    · rfl
    · split
      · rfl
      · rw [pending_of_play (play_respond ..), State.raise_pending, pending_of_play (play_presentWriteSide _),
          pending_freeSegment, pending_of_play (play_dropSegmentRecords ..), pending_of_play (play_withdrawScrub ..)]
  · rfl
  · rfl

theorem pending_freeOwned (n : LinkId) (id : SegId) (s : State) : (freeOwned n id s).pending = s.pending := by
  unfold freeOwned
  split
  · rw [pending_freeSegment, pending_of_play (play_dropSegmentRecords ..)]
  · rfl

theorem pending_freeAllOwned (n : LinkId) (s : State) : (freeAllOwned n s).pending = s.pending := by
  rw [freeAllOwned, foldl_keeps State.pending _ fun u id => pending_freeOwned n id u]

/-- The tables of a link reset's state: the editor released on each channel (R45). -/
def editorsReleased (n : LinkId) (s : State) : State := eachChannel (fun ch t => t.modTables ch (releaseEditor n)) s

/-- The state a link reset frees the segments in: the link's record reset, its transfer orphaned (R175). -/
def linkSilenced (n : LinkId) (s : State) : State :=
  (s.modLink n linkResetRecord).setPort (orphanLink n s.arbiter.port)

theorem linkResets_eq (n : LinkId) (s : State) :
    linkResets n s = presentWriteSide
      (if ownsAny n s then (editorsReleased n (freeAllOwned n (linkSilenced n s))).raiseOn (otherLink n) .libraryChanged
        else editorsReleased n (freeAllOwned n (linkSilenced n s))) := rfl

theorem play_linkSilenced (n : LinkId) (s : State) : (linkSilenced n s).play = s.play := rfl

theorem dir_editorsReleased (n : LinkId) (s : State) : (editorsReleased n s).dir = s.dir :=
  dir_eachChannel _ s fun _ _ => rfl

theorem dir_linkResets (n : LinkId) (s : State) : (linkResets n s).dir = (freeAllOwned n (linkSilenced n s)).dir := by
  rw [linkResets_eq, dir_of_play (play_presentWriteSide _)]
  split
  · rw [dir_of_play (play_raiseOn ..), dir_editorsReleased]
  · exact dir_editorsReleased n _

/-! ### Every command -/

/-- The command moves segments between the directory and the free list, or restores the whole part. -/
def Instr.rearranges : Instr → Bool
  | .powerOnReset _ | .linkReset _ | .createSegment .. | .abandonSegment .. | .deleteSegment .. => true
  | _ => false

/-- Every other command keeps the layout. -/
theorem exec_layout {c : Instr} {s t : State} (hc : Instr.rearranges c = false) (h : exec c s = .next t) :
    t.layout = s.layout := by
  by_cases hp : Instr.playsNothing c = true
  · exact layout_of_dir (dir_of_play (exec_play hp h))
  have frame : ∀ {n tag code p judge}, Host.Outcome.next (takeFrame n tag code p judge s) =
      (Host.Outcome.next t : Result) → (∀ u, (judge u).layout = u.layout) → t.layout = s.layout := by
    intro n tag code p judge e hj
    cases e
    exact layout_takeFrame n tag code p judge s hj
  have ticks : ∀ {levels} {b : Bool}, Host.Outcome.next (if b then tick levels s else s) =
      (Host.Outcome.next t : Result) → t.layout = s.layout := by
    intro levels b e
    cases e
    split
    · exact layout_of_dir (dir_tick levels s)
    · rfl
  cases c with
  | finishSegment n tag p => exact frame h (layout_finishSegment n tag p)
  | writeEntry n tag p => exact frame h (layout_writeEntry n tag p)
  | clearEntry n tag p => exact frame h (layout_clearEntry n tag p)
  | setTableEnd n tag p => exact frame h fun u => layout_of_dir (dir_setTableEnd n tag p u)
  | commitTable n tag p => exact frame h fun u => layout_of_dir (dir_commitTable n tag p u)
  | cancelCommit n tag p => exact frame h fun u => layout_of_dir (dir_cancelCommit n tag p u)
  | discardStaged n tag p => exact frame h (layout_discardStaged n tag p)
  | start n tag p => exact frame h fun u => layout_of_dir (dir_startChannels n tag p u)
  | stop n tag p => exact frame h fun u => layout_of_dir (dir_stopChannels n tag p u)
  | channelStatus n tag p => exact frame h fun u => layout_of_dir (dir_channelStatus n tag p u)
  | setScale n tag p => exact frame h fun u => layout_of_dir (dir_setScale n tag p u)
  | setRate n tag p => exact frame h fun u => layout_of_dir (dir_setRate n tag p u)
  | setChannelConfig n tag p => exact frame h fun u => layout_of_dir (dir_setChannelConfig n tag p u)
  | outputTick levels =>
    obtain rfl : tick levels s = t := Host.Outcome.next.inj h
    exact layout_of_dir (dir_tick levels s)
  | conditionFiring k levels => exact ticks h
  | holdoffExpiry k levels => exact ticks h
  | passEnd ch levels => exact ticks h
  | markerPulseEnd i levels => exact ticks h
  | measurementGateEnd =>
    cases h
    exact layout_of_dir (dir_gateEnd s)
  | powerOnReset selected => exact absurd hc Bool.true_eq_false.mp
  | linkReset n => exact absurd hc Bool.true_eq_false.mp
  | createSegment n tag p => exact absurd hc Bool.true_eq_false.mp
  | abandonSegment n tag p => exact absurd hc Bool.true_eq_false.mp
  | deleteSegment n tag p => exact absurd hc Bool.true_eq_false.mp
  | _ => exact absurd rfl hp

/-- No command touches the queue of the commands that wait. -/
theorem exec_pending {c : Instr} {s t : State} (h : exec c s = .next t) : t.pending = s.pending := by
  by_cases hc : Instr.rearranges c = false
  · exact pending_of_layout (exec_layout hc h)
  cases c with
  | powerOnReset selected =>
    cases h
    rfl
  | linkReset n =>
    cases h
    exact (pending_of_layout (layout_of_dir (dir_linkResets n s))).trans (pending_freeAllOwned n _)
  | createSegment n tag p =>
    cases h
    exact pending_takeFrame _ _ _ _ _ s (pending_createSegment n tag p)
  | abandonSegment n tag p =>
    cases h
    exact pending_takeFrame _ _ _ _ _ s (pending_abandonSegment n tag p)
  | deleteSegment n tag p =>
    cases h
    exact pending_takeFrame _ _ _ _ _ s (pending_deleteSegment n tag p)
  | _ => exact absurd rfl hc

/-- Settles O3: every command answers a next state but the end of a transfer outside the store (`exec_answers`), and
none touches the queue (`exec_pending`). -/
theorem onlyALineOutsideTheStoreStops : Obligations.OnlyALineOutsideTheStoreStops := by
  unfold Obligations.OnlyALineOutsideTheStoreStops
  intro c s
  refine ⟨fun t h => exec_pending h, fun hport => ?_, fun f hf => ?_, fun r hr => ?_⟩
  · obtain h | ⟨hc, x, hx, hout, -⟩ := exec_answers c s
    · exact h
    · exact absurd (hport hc x hx) (by omega)
  · obtain ⟨t, h⟩ | ⟨hc, x, hx, hout, h⟩ := exec_answers c s
    · rw [h] at hf
      cases hf
    · rw [h] at hf
      cases hf
      exact ⟨hc, x, hx, hout, rfl⟩
  · obtain ⟨t, h⟩ | ⟨-, x, -, -, h⟩ := exec_answers c s <;> rw [h] at hr <;> cases hr

end Sys2Proof.Machine
end

-- ==== A channel's seat: its record and its tables under the play law ====
section
/-! SUPPORT. The play law of one channel (R26, R35, R53, R71) as a predicate on its record and its two banks alone, given
the segments' lengths and how often the banks name each segment. The channels' operations move a record and its tables
and are judged by this predicate. -/

namespace Sys2Proof.Machine

open Sys2Proof

/-! ### What validation says of a bank -/

theorem slotFault_none {b : Bank} {x : SlotIx} (h : slotFault b x = none) (hx : x.val < b.count) :
    ∃ e, look b.slots x = some e ∧ ∀ j ∈ e.jump, j.target.val < b.count := by
  unfold slotFault at h
  rw [if_pos hx] at h
  cases he : look b.slots x with
  | none => simp [he] at h
  | some e =>
    refine ⟨e, rfl, fun j hj => ?_⟩
    simp only [he, Option.mem_def.mp hj] at h
    split at h
    · assumption
    · cases h

/-- What validation without a fault says (R35): every slot below the count holds an entry whose jump stays below it, and
so do the loop index and the target. -/
theorem validate_none {b : Bank} {target : SlotIx} (h : validate b target = none) :
    b.count ≠ 0 ∧
    (∀ x : SlotIx, x.val < b.count → ∃ e, look b.slots x = some e ∧ ∀ j ∈ e.jump, j.target.val < b.count) ∧
    (∀ i, b.endAction = .loop i → i.val < b.count) ∧ target.val < b.count := by
  unfold validate at h
  split at h
  · cases h
  · next hcount =>
    split at h
    · cases h
    · next hslots =>
      rw [List.findSome?_eq_none_iff] at hslots
      have slots := fun x (hx : x.val < b.count) => slotFault_none (hslots x (List.mem_finRange x)) hx
      cases ha : b.endAction with
      | stop =>
        simp only [ha] at h
        split at h
        · exact ⟨hcount, slots, fun i hi => by simp at hi, ‹_›⟩
        · cases h
      | loop i =>
        simp only [ha] at h
        split at h
        · cases h
        · next hloop =>
          split at h
          · refine ⟨hcount, slots, fun j hj => ?_, ‹_›⟩
            cases hj
            by_contra hn
            simp [hn] at hloop
          · cases h

/-- A target below the count changes nothing of validation's outcome. -/
theorem validate_zero {b : Bank} {target : SlotIx} (h : validate b target = none) : validate b 0 = none := by
  obtain ⟨hcount, -, -, ht⟩ := validate_none h
  have h0 : (0 : SlotIx).val < b.count := Nat.pos_of_ne_zero hcount
  unfold validate at h ⊢
  simp only [hcount, if_false, if_pos ht, if_pos h0] at h ⊢
  exact h

theorem playable_of_validate {b : Bank} {target : SlotIx} (h : validate b target = none) (hcount : b.count ≤ 64) :
    playable b = true := by
  simp [playable, validate_zero h, hcount]

theorem count_of_playable {b : Bank} (h : playable b = true) : b.count ≤ 64 := by
  simp only [playable, Bool.or_eq_true, Bool.and_eq_true, decide_eq_true_eq] at h
  omega

/-- A playable bank with a count is one validation passes. -/
theorem validate_of_playable {b : Bank} (h : playable b = true) (hcount : b.count ≠ 0) : validate b 0 = none := by
  simp only [playable, Bool.or_eq_true, Bool.and_eq_true, decide_eq_true_eq, Option.isNone_iff_eq_none] at h
  exact (h.resolve_left hcount).2

/-! ### The law of one channel -/

/-- A step is one of R26's and R71's. -/
def StepOk (n : Nat) : Prop := 1 ≤ n ∧ n ≤ 16777216

/-- Every entry of the bank names a segment of at least 64 samples. -/
def Filled (len : SegId → Nat) (b : Bank) : Prop := ∀ x, ∀ e ∈ look b.slots x, 64 ≤ len e.segment

/-- The length of the segment an entry names, 0 without an entry. -/
def lengthIn (len : SegId → Nat) : Option Entry → Nat
  | none => 0
  | some e => len e.segment

/-- What the tables and steps of a channel keep (R26, R35, R71): `TableLaw`, with the lengths of the segments its banks
name and how often they name each. -/
structure Tabled (len refs : SegId → Nat) (c : Channel) (t : Tables) : Prop where
  activeFilled : Filled len t.active
  stagedFilled : Filled len t.staged
  named : ∀ id, bankRefs t.active id + bankRefs t.staged id = refs id
  activePlayable : playable t.active = true
  activeSteps : stepsInRange t.active = true
  stagedSteps : stepsInRange t.staged = true
  stagedCount : t.staged.count ≤ 64
  commitValid : ∀ k ∈ c.commit, validate t.staged k.target = none
  defaultStep : StepOk c.defaultStep
  currentStep : StepOk c.currentStep
  pendingRate : ∀ r ∈ c.pendingRate, StepOk r

/-- What a channel's place keeps, with the running law (R53): `PlaceLaw`. -/
structure Placed (len : SegId → Nat) (c : Channel) (t : Tables) : Prop where
  entry : c.mode ≠ .idle → c.entry.val < t.active.count
  armed : ∀ x ∈ c.armed, c.mode ≠ .idle ∧ x.val < t.active.count
  waiting : c.mode = .waiting → c.passes = 0
  index : c.mode = .running → phaseIndex c < lengthIn len (look t.active.slots c.entry)
  passes : c.mode = .running → ∀ e ∈ look t.active.slots c.entry, e.repeats ≠ 0 → c.passes < e.repeats

/-- The law of one channel's tables, at a state. -/
def TabledAt (len refs : SegId → Nat) (s : State) (ch : ChanId) : Prop :=
  Tabled len refs (look s.channels ch) (look s.tables ch)

/-- The law of one channel, at a state. -/
def SeatedAt (len refs : SegId → Nat) (s : State) (ch : ChanId) : Prop :=
  TabledAt len refs s ch ∧ Placed len (look s.channels ch) (look s.tables ch)

variable {len refs : SegId → Nat} {c d : Channel} {t : Tables} {s u : State} {ch : ChanId}

theorem stepsInRange_iff {b : Bank} :
    stepsInRange b = true ↔ ∀ x, ∀ e ∈ look b.slots x, ∀ st ∈ e.step, StepOk st := by
  simp [stepsInRange, StepOk, Option.all_eq_true]

/-- The step an entry of the ACTIVE bank is played with is in range (R73). -/
theorem stepFor_ok {b : Bank} {n : Nat} (h : stepsInRange b = true) (hn : StepOk n) (x : SlotIx) :
    StepOk (stepFor (look b.slots x) n) := by
  unfold stepFor
  cases he : look b.slots x with
  | none => exact hn
  | some e =>
    cases hs : e.step with
    | none => simpa [hs] using hn
    | some st => simpa [hs] using stepsInRange_iff.mp h x e he st hs

theorem entryLength_eq (s : State) (e : Option Entry) : entryLength s e = lengthIn (segmentLength s) e := by
  cases e <;> rfl

theorem currentEntry_eq (s : State) (ch : ChanId) :
    currentEntry s ch = look (look s.tables ch).active.slots (look s.channels ch).entry := rfl

/-- The slots below the ACTIVE bank's count hold entries (R35), so a place there has samples to play. -/
theorem Tabled.lengthIn_pos (h : Tabled len refs c t) {x : SlotIx} (hx : x.val < t.active.count) :
    64 ≤ lengthIn len (look t.active.slots x) := by
  obtain ⟨-, slots, -, -⟩ := validate_none (validate_of_playable h.activePlayable (by omega))
  obtain ⟨e, he, -⟩ := slots x hx
  rw [he]
  exact h.activeFilled x e he

/-- A jump of the ACTIVE bank's entry below the count stays below it (R35). -/
theorem Tabled.jump_lt (h : Tabled len refs c t) {x : SlotIx} (hx : x.val < t.active.count) {e : Entry} {j : Jump}
    (he : look t.active.slots x = some e) (hj : e.jump = some j) : j.target.val < t.active.count := by
  obtain ⟨-, slots, -, -⟩ := validate_none (validate_of_playable h.activePlayable (by omega))
  obtain ⟨e', he', hjump⟩ := slots x hx
  cases he.symm.trans he'
  exact hjump j hj

/-- The ACTIVE bank's loop index is below the count (R35). -/
theorem Tabled.loop_lt (h : Tabled len refs c t) (hcount : t.active.count ≠ 0) {x : SlotIx}
    (hx : t.active.endAction = .loop x) : x.val < t.active.count :=
  (validate_none (validate_of_playable h.activePlayable hcount)).2.2.1 x hx

/-- The tables' law reads of the record only the commit and the steps. -/
theorem Tabled.of_record (h : Tabled len refs c t) (hcommit : ∀ k ∈ d.commit, k ∈ c.commit)
    (hdef : StepOk d.defaultStep) (hcur : StepOk d.currentStep) (hrate : ∀ r ∈ d.pendingRate, StepOk r) :
    Tabled len refs d t :=
  { h with
    commitValid := fun k hk => h.commitValid k (hcommit k hk)
    defaultStep := hdef, currentStep := hcur, pendingRate := hrate }

/-- The part of a channel's record that the law reads. -/
structure Seat where
  mode : ChannelMode
  entry : SlotIx
  passes : Nat
  armed : Option SlotIx
  phase : Nat
  commit : Option Commit
  pendingRate : Option Nat
  defaultStep : Nat
  currentStep : Nat

def Channel.seat (c : Channel) : Seat :=
  ⟨c.mode, c.entry, c.passes, c.armed, c.phase, c.commit, c.pendingRate, c.defaultStep, c.currentStep⟩

/-- Records with the same seat obey the law together. -/
theorem SeatedAt.of_seat (h : SeatedAt len refs s ch) (htables : look u.tables ch = look s.tables ch)
    (hseat : Channel.seat (look u.channels ch) = Channel.seat (look s.channels ch)) : SeatedAt len refs u ch := by
  obtain ⟨ht, hp⟩ := h
  simp only [Channel.seat, Seat.mk.injEq] at hseat
  obtain ⟨hmode, hentry, hpasses, harmed, hphase, hcommit, hrate, hdef, hcur⟩ := hseat
  unfold SeatedAt TabledAt at *
  rw [htables]
  refine ⟨ht.of_record ?_ ?_ ?_ ?_, ⟨?_, ?_, ?_, ?_, ?_⟩⟩
  · rw [hcommit]
    exact fun _ => id
  · rw [hdef]
    exact ht.defaultStep
  · rw [hcur]
    exact ht.currentStep
  · rw [hrate]
    exact ht.pendingRate
  · rw [hmode, hentry]
    exact hp.entry
  · rw [hmode, harmed]
    exact hp.armed
  · rw [hmode, hpasses]
    exact hp.waiting
  · rw [hmode, hentry, phaseIndex, hphase]
    exact hp.index
  · rw [hmode, hentry, hpasses]
    exact hp.passes

theorem tables_of_play (h : u.play = s.play) : u.tables = s.tables := congrArg PlayView.tables h
theorem channels_of_play (h : u.play = s.play) : u.channels = s.channels := congrArg PlayView.channels h

theorem TabledAt.of_play (h : TabledAt len refs s ch) (hplay : u.play = s.play) : TabledAt len refs u ch := by
  unfold TabledAt
  rw [tables_of_play hplay, channels_of_play hplay]
  exact h

theorem SeatedAt.of_play (h : SeatedAt len refs s ch) (hplay : u.play = s.play) : SeatedAt len refs u ch := by
  unfold SeatedAt TabledAt
  rw [tables_of_play hplay, channels_of_play hplay]
  exact h

/-- Another channel's work leaves the law of this one. -/
theorem SeatedAt.of_other {e : ChanId} (h : SeatedAt len refs s ch) (hother : OnlyChannel e s u) (hne : ch ≠ e) :
    SeatedAt len refs u ch := by
  unfold SeatedAt TabledAt
  rw [hother.channels ch hne, hother.tables ch hne]
  exact h

/-! ### A swap, entry into IDLE, the beginning of an entry -/

theorem Tabled.swap (h : Tabled len refs c t) {target : SlotIx} (hv : validate t.staged target = none) :
    Tabled len refs { c with commit := none } (swapped t) where
  activeFilled := h.stagedFilled
  stagedFilled := h.activeFilled
  named := fun id => (Nat.add_comm _ _).trans (h.named id)
  activePlayable := playable_of_validate hv h.stagedCount
  activeSteps := h.stagedSteps
  stagedSteps := h.activeSteps
  stagedCount := count_of_playable h.activePlayable
  commitValid := fun _ hk => by simp at hk
  defaultStep := h.defaultStep
  currentStep := h.currentStep
  pendingRate := h.pendingRate

/-- A pending rate applied at the pass end is in range, and so is the step chosen with it. -/
theorem Tabled.applyRate (h : Tabled len refs c t) (x : SlotIx) :
    Tabled len refs (applyRate (look t.active.slots x) c) t := by
  unfold Machine.applyRate
  split
  · exact h
  · next r hr =>
    have ok := h.pendingRate r hr
    exact h.of_record (fun _ => id) ok (stepFor_ok h.activeSteps ok x) fun _ hr => by simp at hr

theorem Tabled.applyRateIdle (h : Tabled len refs c t) : Tabled len refs (applyRateIdle c) t := by
  unfold Machine.applyRateIdle
  split
  · exact h
  · next r hr => exact h.of_record (fun _ => id) (h.pendingRate r hr) h.currentStep fun _ hr => by simp at hr

theorem Tabled.applyScale (h : Tabled len refs c t) : Tabled len refs (applyScale c) t := by
  unfold Machine.applyScale
  split
  · exact h
  · exact h.of_record (fun _ => id) h.defaultStep h.currentStep h.pendingRate

theorem Tabled.idle (h : Tabled len refs c t) : Tabled len refs (idleRecord c) t :=
  h.applyScale.applyRateIdle.of_record (fun _ => id) h.applyScale.applyRateIdle.defaultStep
    h.applyScale.applyRateIdle.currentStep h.applyScale.applyRateIdle.pendingRate

/-- Nothing of a place is asked of an IDLE channel but that no jump is armed. -/
theorem placed_of_idle (hmode : c.mode = .idle) (harmed : c.armed = none) : Placed len c t where
  entry := fun h => absurd hmode h
  armed := fun x hx => by simp [harmed] at hx
  waiting := fun h => by simp [hmode] at h
  index := fun h => by simp [hmode] at h
  passes := fun h => by simp [hmode] at h

theorem Tabled.begin (h : Tabled len refs c t) (x : SlotIx) (p : Nat) :
    Tabled len refs (beginRecord (look t.active.slots x) x p c) t :=
  h.of_record (fun _ => id) h.defaultStep (stepFor_ok h.activeSteps h.defaultStep x) h.pendingRate

/-- A channel at most one sample into an entry below the count is inside its segment. -/
theorem Tabled.index_first (h : Tabled len refs c t) (hentry : c.entry.val < t.active.count)
    (hphase : c.phase < Config.oneSample) : phaseIndex c < lengthIn len (look t.active.slots c.entry) := by
  have := h.lengthIn_pos hentry
  have : phaseIndex c = 0 := Nat.div_eq_of_lt hphase
  omega

/-- A channel at the first pass of an entry below the count, at most one sample into it. -/
theorem Tabled.placed_first (h : Tabled len refs c t) (hentry : c.entry.val < t.active.count) (harmed : c.armed = none)
    (hpasses : c.passes = 0) (hphase : c.phase < Config.oneSample) : Placed len c t where
  entry := fun _ => hentry
  armed := fun x hx => by simp [harmed] at hx
  waiting := fun _ => hpasses
  index := fun _ => h.index_first hentry hphase
  passes := fun _ e _ hr => by omega

end Sys2Proof.Machine
end

-- ==== The channels' operations keep the law of their channel ====
section
/-! SUPPORT. One lemma per channel operation (R48, R50 to R58, R60 to R65, R74): from the law of the channel's tables, with
what the operation asks of its target, to the law of the channel. -/

namespace Sys2Proof.Machine

open Sys2Proof

variable {len refs : SegId → Nat} {s u : State} {ch : ChanId}

/-! ### The record and the tables after each operation -/

theorem swapBanks_channel (ch : ChanId) (s : State) :
    look (swapBanks ch s).channels ch = { look s.channels ch with commit := none } := by
  rw [swapBanks, State.raise_channels]
  simp

theorem swapBanks_tables (ch : ChanId) (s : State) : look (swapBanks ch s).tables ch = swapped (look s.tables ch) :=
  swapBanks_tables_same ch s

theorem idleRecord_commit (c : Channel) : (idleRecord c).commit = c.commit := by
  have scale : (applyScale c).commit = c.commit := by unfold applyScale; split <;> rfl
  have rate : ∀ d : Channel, (applyRateIdle d).commit = d.commit := fun d => by unfold applyRateIdle; split <;> rfl
  exact (rate _).trans scale

/-- The channel's record and tables when it has entered IDLE (R58). -/
theorem enterIdle_channel (ch : ChanId) (s : State) :
    look (enterIdle ch s).channels ch = { idleRecord (look s.channels ch) with commit := none } ∧
    look (enterIdle ch s).tables ch =
      if (look s.channels ch).commit.isSome then swapped (look s.tables ch) else look s.tables ch := by
  have record : look (s.modChannel ch idleRecord).channels ch = idleRecord (look s.channels ch) := look_put_same ..
  have commit : (look (s.modChannel ch idleRecord).channels ch).commit = (look s.channels ch).commit := by
    rw [record, idleRecord_commit]
  unfold enterIdle
  dsimp only
  rw [State.raise_channels, State.raise_tables, State.setPattern_channels, State.setPattern_tables, flush_channels,
    flush_tables, commit]
  by_cases hc : (look s.channels ch).commit.isSome
  · rw [if_pos hc, if_pos hc, swapBanks_channel, swapBanks_tables, record]
    exact ⟨rfl, rfl⟩
  · rw [if_neg hc, if_neg hc, record]
    have none : (idleRecord (look s.channels ch)).commit = none := by
      rw [idleRecord_commit]
      simpa using hc
    refine ⟨?_, rfl⟩
    rw [← none]

/-- The channel's record and tables when it begins an entry behind a gate or without one (R48). -/
theorem beginEntry_channel (ch : ChanId) (x : SlotIx) (p : Nat) (s : State) :
    let begun := beginRecord (entryIn s ch x) x p (look s.channels ch)
    (∃ d, (d = { begun with mode := .running } ∨
        d = { begun with mode := .waiting, phase := 0, underrunEpisode := false }) ∧
      look (beginEntry ch x p s).channels ch = d ∧ look (beginEntry ch x p s).tables ch = look s.tables ch) ∨
    beginEntry ch x p s = enterIdle ch (s.modChannel ch (beginRecord (entryIn s ch x) x p)) := by
  intro begun
  have record : look (s.modChannel ch (beginRecord (entryIn s ch x) x p)).channels ch = begun := look_put_same ..
  unfold beginEntry
  dsimp only
  split
  · refine .inl ⟨_, .inl rfl, ?_, rfl⟩
    rw [State.modChannel_channels, look_put_same, record]
  · split
    · exact .inr rfl
    · refine .inl ⟨_, .inr rfl, ?_, rfl⟩
      rw [State.raise_channels, State.modChannel_channels, look_put_same, record]

/-! ### The law after each operation -/

theorem seated_enterIdle (h : TabledAt len refs s ch) : SeatedAt len refs (enterIdle ch s) ch := by
  obtain ⟨hrecord, htables⟩ := enterIdle_channel ch s
  unfold SeatedAt TabledAt at *
  rw [hrecord, htables]
  refine ⟨?_, placed_of_idle rfl rfl⟩
  have idle := h.idle
  cases hc : (look s.channels ch).commit with
  | none =>
    exact idle.of_record (fun _ hk => by simp at hk) idle.defaultStep idle.currentStep idle.pendingRate
  | some k => exact idle.swap (h.commitValid k hc)

theorem tabled_modChannel {f : Channel → Channel}
    (h : Tabled len refs (f (look s.channels ch)) (look s.tables ch)) : TabledAt len refs (s.modChannel ch f) ch := by
  unfold TabledAt
  rw [State.modChannel_channels, look_put_same]
  exact h

theorem seated_modChannel {f : Channel → Channel} (h : Tabled len refs (f (look s.channels ch)) (look s.tables ch))
    (hp : Placed len (f (look s.channels ch)) (look s.tables ch)) : SeatedAt len refs (s.modChannel ch f) ch := by
  refine ⟨tabled_modChannel h, ?_⟩
  rw [State.modChannel_channels, look_put_same]
  exact hp

theorem seated_beginEntry {x : SlotIx} {p : Nat} (h : TabledAt len refs s ch)
    (hx : x.val < (look s.tables ch).active.count) (hp : p < Config.oneSample) :
    SeatedAt len refs (beginEntry ch x p s) ch := by
  have begun := Tabled.begin h x p
  obtain ⟨d, hd, hrecord, htables⟩ | hidle := beginEntry_channel ch x p s
  · unfold SeatedAt TabledAt
    rw [hrecord, htables]
    have table : Tabled len refs d (look s.tables ch) := by
      obtain rfl | rfl := hd <;>
        exact begun.of_record (fun _ => id) begun.defaultStep begun.currentStep begun.pendingRate
    refine ⟨table, table.placed_first ?_ ?_ ?_ ?_⟩
    · obtain rfl | rfl := hd <;> exact hx
    · obtain rfl | rfl := hd <;> rfl
    · obtain rfl | rfl := hd <;> rfl
    · obtain rfl | rfl := hd
      · exact hp
      · exact Nat.zero_lt_succ _
  · rw [hidle]
    exact seated_enterIdle (tabled_modChannel begun)

theorem seated_turnTo {x : SlotIx} (h : TabledAt len refs s ch) (hx : x.val < (look s.tables ch).active.count) :
    SeatedAt len refs (turnTo ch x s) ch :=
  (seated_beginEntry h hx (Nat.zero_lt_succ _)).of_play (play_flush ch _)

theorem tabled_swapBanks {target : SlotIx} (h : TabledAt len refs s ch)
    (hv : validate (look s.tables ch).staged target = none) : TabledAt len refs (swapBanks ch s) ch := by
  unfold TabledAt
  rw [swapBanks_channel, swapBanks_tables]
  exact Tabled.swap h hv

theorem seated_takeCommit {target : SlotIx} (h : TabledAt len refs s ch)
    (hv : validate (look s.tables ch).staged target = none) : SeatedAt len refs (takeCommit ch target s) ch := by
  refine seated_turnTo (tabled_swapBanks h hv) ?_
  rw [swapBanks_tables]
  exact (validate_none hv).2.2.2

theorem seated_advanceTo {x : SlotIx} {p : Nat} (h : TabledAt len refs s ch)
    (hx : x.val < (look s.tables ch).active.count) (hp : p < Config.oneSample) :
    SeatedAt len refs (advanceTo ch x p s) ch :=
  seated_beginEntry (h.of_play (play_movePlay ch s)) hx hp

theorem commitAt_some {c : Channel} {point : CommitPoint} {target : SlotIx} (h : commitAt c point = some target) :
    ∃ k ∈ c.commit, k.target = target := by
  unfold commitAt at h
  split at h
  · cases h
  · next k hk =>
    split at h
    · exact ⟨k, hk, Option.some.inj h⟩
    · cases h

/-- A commit whose point has come is taken into a bank that validation passed. -/
theorem seated_commitAt {point : CommitPoint} {target : SlotIx} (h : TabledAt len refs s ch)
    (hc : commitAt (look s.channels ch) point = some target) : SeatedAt len refs (takeCommit ch target s) ch := by
  obtain ⟨k, hk, rfl⟩ := commitAt_some hc
  exact seated_takeCommit h (h.commitValid k hk)

theorem seated_tableEnd {p : Nat} (h : TabledAt len refs s ch) (hcount : (look s.tables ch).active.count ≠ 0)
    (hp : p < Config.oneSample) : SeatedAt len refs (tableEnd ch p s) ch := by
  unfold tableEnd
  split
  · exact seated_commitAt h ‹_›
  · split
    · next x hx => exact seated_advanceTo h (h.loop_lt hcount hx) hp
    · exact seated_enterIdle h

/-- An entry ends (R56): the carried phase matters only where no jump is given. -/
theorem seated_entryEnd {p : Nat} {jump : Option SlotIx} (h : TabledAt len refs s ch)
    (hentry : (look s.channels ch).entry.val < (look s.tables ch).active.count)
    (hjump : ∀ x ∈ jump, x.val < (look s.tables ch).active.count) (hp : jump = none → p < Config.oneSample) :
    SeatedAt len refs (entryEnd ch p jump s) ch := by
  unfold entryEnd
  dsimp only
  split
  · exact seated_enterIdle h
  · split
    · exact seated_commitAt h ‹_›
    · cases jump with
      | some x => exact seated_turnTo h (hjump x rfl)
      | none =>
        dsimp only
        split
        · next hn => exact seated_advanceTo h hn.1 (hp rfl)
        · exact seated_tableEnd h (by omega) (hp rfl)

/-! ### The pass end -/

theorem applyRate_seat (e : Option Entry) (c : Channel) :
    (applyRate e c).mode = c.mode ∧ (applyRate e c).entry = c.entry ∧ (applyRate e c).passes = c.passes ∧
      (applyRate e c).armed = c.armed := by
  unfold applyRate
  split <;> exact ⟨rfl, rfl, rfl, rfl⟩

theorem applyScale_seat (c : Channel) :
    (applyScale c).mode = c.mode ∧ (applyScale c).entry = c.entry ∧ (applyScale c).passes = c.passes ∧
      (applyScale c).armed = c.armed := by
  unfold applyScale
  split <;> exact ⟨rfl, rfl, rfl, rfl⟩

/-- What of a place a pass end leaves (R53): the mode, the entry and the armed jump, the pass counted. -/
theorem passEndRecord_seat (e : Option Entry) (p : Nat) (c : Channel) :
    (passEndRecord e p c).mode = c.mode ∧ (passEndRecord e p c).entry = c.entry ∧
      (passEndRecord e p c).passes = min (c.passes + 1) 65535 ∧ (passEndRecord e p c).armed = c.armed ∧
      (passEndRecord e p c).phase = p := by
  obtain ⟨m1, e1, p1, a1⟩ := applyScale_seat c
  obtain ⟨m2, e2, p2, a2⟩ := applyRate_seat e (applyScale c)
  refine ⟨m2.trans m1, e2.trans e1, ?_, a2.trans a1, rfl⟩
  simp only [passEndRecord, p2, p1]

theorem Tabled.passEnd {c : Channel} {t : Tables} (h : Tabled len refs c t) (x : SlotIx) (p : Nat) :
    Tabled len refs (passEndRecord (look t.active.slots x) p c) t := by
  have applied := h.applyScale.applyRate x
  exact applied.of_record (fun _ => id) applied.defaultStep applied.currentStep applied.pendingRate

/-- The pass after one that does not end the entry is one of its passes (R54, R55). -/
theorem passes_lt_of_goes_on {e : Entry} {c d : Channel} (hlt : e.repeats ≠ 0 → c.passes < e.repeats)
    (hpasses : d.passes = min (c.passes + 1) 65535) (hgoes : entryEndsHere (some e) d = false) (hr : e.repeats ≠ 0) :
    d.passes < e.repeats := by
  have hne : d.passes ≠ e.repeats := by
    intro heq
    simp [entryEndsHere, heq, hr] at hgoes
  have := hlt hr
  omega

theorem seated_passEnds {p : Nat} {jump : Option SlotIx} (h : SeatedAt len refs s ch)
    (hmode : (look s.channels ch).mode = .running) (hp : p < Config.oneSample)
    (hjump : ∀ x ∈ jump, x.val < (look s.tables ch).active.count) :
    SeatedAt len refs (passEnds ch p jump s) ch := by
  have before : SeatedAt len refs (passSignalled ch s) ch := h.of_play (play_passSignalled ch s)
  have hc : (passSignalled ch s).channels = s.channels := channels_of_play (play_passSignalled ch s)
  have ht : (passSignalled ch s).tables = s.tables := tables_of_play (play_passSignalled ch s)
  have hcurrent : currentEntry (passSignalled ch s) ch = currentEntry s ch := by
    rw [currentEntry_eq, currentEntry_eq, hc, ht]
  have hrecord : look (passCounted ch p s).channels ch = passEndRecord (currentEntry s ch) p (look s.channels ch) := by
    rw [passCounted, State.modChannel_channels, look_put_same, hcurrent, hc]
  have htables : look (passCounted ch p s).tables ch = look s.tables ch := by
    rw [passCounted, State.modChannel_tables, ht]
  obtain ⟨cmode, centry, cpasses, carmed, cphase⟩ :=
    passEndRecord_seat (currentEntry s ch) p (look s.channels ch)
  rw [← hrecord] at cmode centry cpasses carmed cphase
  have table : TabledAt len refs (passCounted ch p s) ch := by
    unfold TabledAt
    rw [hrecord, htables]
    exact Tabled.passEnd h.1 _ p
  have entry : (look (passCounted ch p s).channels ch).entry.val < (look (passCounted ch p s).tables ch).active.count := by
    rw [centry, htables]
    exact h.2.entry (by rw [hmode]; decide)
  have armed : ∀ x ∈ (look (passCounted ch p s).channels ch).armed,
      x.val < (look (passCounted ch p s).tables ch).active.count := by
    rw [carmed, htables]
    exact fun x hx => (h.2.armed x hx).2
  rw [passEnds_eq]
  unfold passEndDecision
  dsimp only
  split
  · exact seated_enterIdle table
  · split
    · exact seated_entryEnd table entry (by rw [htables]; exact hjump) fun _ => hp
    · split
      · exact seated_entryEnd table entry armed fun _ => hp
      · next hends =>
        refine SeatedAt.of_play ⟨table, ?_, ?_, ?_, ?_, ?_⟩ (play_movePlay ch _)
        · exact fun _ => entry
        · exact fun x hx => ⟨by rw [cmode, hmode]; decide, armed x hx⟩
        · rw [cmode, hmode]
          simp
        · exact fun _ => table.index_first entry (by rw [cphase]; exact hp)
        · intro _ e he hr
          have hcur : currentEntry (passCounted ch p s) ch = some e := he
          have hes : look (look s.tables ch).active.slots (look s.channels ch).entry = some e := by
            rw [← centry, ← htables]
            exact he
          rw [hcur, Bool.not_eq_true] at hends
          exact passes_lt_of_goes_on (h.2.passes hmode e hes) cpasses hends hr

end Sys2Proof.Machine
end

-- ==== The tick and the channel commands keep the law of every channel ====
section
/-! SUPPORT. START, STOP, the halt and the parts of the output tick, one channel at a time and then over all four. -/

namespace Sys2Proof.Machine

open Sys2Proof

variable {len refs : SegId → Nat} {s u : State} {ch : ChanId}

/-! ### One channel -/

/-- An update of the record outside its seat keeps the law. -/
theorem seated_sameSeat {f : Channel → Channel} (h : SeatedAt len refs s ch) (hf : ∀ c, (f c).seat = c.seat) :
    SeatedAt len refs (s.modChannel ch f) ch :=
  h.of_seat rfl (by rw [State.modChannel_channels, look_put_same]; exact hf _)

theorem SeatedAt.raised (e : EventFlag) (h : SeatedAt len refs s ch) : SeatedAt len refs (s.raise e) ch :=
  h.of_play (play_raise s e)

theorem seated_startChannel {x : SlotIx} (h : SeatedAt len refs s ch) (hx : x.val < (look s.tables ch).active.count) :
    SeatedAt len refs (startChannel x ch s) ch := by
  have started : SeatedAt len refs (s.modChannel ch startRecord) ch := seated_sameSeat h fun _ => rfl
  have turned := seated_turnTo (x := x) started.1 hx
  exact turned.of_play (((play_presentPrefetch ch _).trans (play_raise _ _)).trans
    ((play_setPattern _ ch _).trans (play_eachPin _ _ fun _ _ => rfl)))

theorem seated_stopChannel (mode : StopMode) (h : SeatedAt len refs s ch) :
    SeatedAt len refs (stopChannel mode ch s) ch := by
  unfold stopChannel
  split
  · exact h
  · exact seated_enterIdle h.1
  · exact seated_enterIdle h.1
  · refine SeatedAt.of_play ?_ ((play_presentPrefetch ch _).trans (play_trimToStop ch _))
    exact seated_sameSeat h fun _ => rfl

theorem placed_of_halted {c : Channel} {t : Tables} (h : Placed len c t) (hm : c.mode = .running ∨ c.mode = .waiting) :
    Placed len (haltRecord c) t where
  entry := fun _ => h.entry (by obtain hm | hm := hm <;> rw [hm] <;> decide)
  armed := fun x hx => ⟨ChannelMode.noConfusion, (h.armed x hx).2⟩
  waiting := ChannelMode.noConfusion
  index := ChannelMode.noConfusion
  passes := ChannelMode.noConfusion

theorem seated_haltChannel (h : SeatedAt len refs s ch) : SeatedAt len refs (haltChannel ch s) ch := by
  unfold haltChannel
  dsimp only
  split
  · next hc =>
    have hmode : (look s.channels ch).mode = .running ∨ (look s.channels ch).mode = .waiting := by
      simpa using And.right (by simpa using hc)
    have halted : SeatedAt len refs (s.modChannel ch haltRecord) ch :=
      seated_modChannel (h.1.of_record (fun _ => id) h.1.defaultStep h.1.currentStep h.1.pendingRate)
        (placed_of_halted h.2 hmode)
    exact halted.of_play ((play_raise _ _).trans ((play_withdrawPrefetch ch _).trans
      (play_eachPin _ _ fun _ _ => rfl)))
  · exact h

theorem seated_carryStop (h : SeatedAt len refs s ch) : SeatedAt len refs (carryStop ch s) ch := by
  unfold carryStop
  dsimp only
  split
  · exact seated_enterIdle h.1
  · exact h

theorem firedJump_some {fired : BitVec 4} {j : Jump} (h : firedJump s fired ch = some j) :
    (look s.channels ch).mode = .running ∧ ∃ e, currentEntry s ch = some e ∧ e.jump = some j := by
  unfold firedJump at h
  split at h
  · next hmode =>
    split at h
    · cases h
    · next j' hj =>
      split at h
      · cases h
        obtain ⟨e, he, hj⟩ := Option.bind_eq_some_iff.mp hj
        exact ⟨hmode, e, he, hj⟩
      · cases h
  · cases h

/-- The jump of a RUNNING channel goes to a slot below the count (R35). -/
theorem firedJump_lt {fired : BitVec 4} {j : Jump} (h : SeatedAt len refs s ch) (hj : firedJump s fired ch = some j) :
    j.target.val < (look s.tables ch).active.count := by
  obtain ⟨hmode, e, he, hjump⟩ := firedJump_some hj
  exact h.1.jump_lt (h.2.entry (by rw [hmode]; decide)) he hjump

theorem immediateJump_lt {fired : BitVec 4} {x : SlotIx} (h : SeatedAt len refs s ch)
    (hx : immediateJump s fired ch = some x) : x.val < (look s.tables ch).active.count := by
  unfold immediateJump at hx
  split at hx
  · cases hx
  · next j hj =>
    split at hx
    · cases hx
      exact firedJump_lt h hj
    · cases hx

theorem gateFires_waiting {fired : BitVec 4} (h : gateFires s fired ch = true) : (look s.channels ch).mode = .waiting := by
  simp only [gateFires, Bool.and_eq_true, decide_eq_true_eq] at h
  exact h.1

theorem seated_takeFirings (fired : BitVec 4) (h : SeatedAt len refs s ch) :
    SeatedAt len refs (takeFirings fired ch s) ch := by
  obtain ⟨table, place⟩ := h
  unfold takeFirings
  split
  · next hgate =>
    have hwait := gateFires_waiting hgate
    have hentry := place.entry (by rw [hwait]; decide)
    have opened := table.of_record (d := { look s.channels ch with mode := .running, phase := 0 }) (fun _ => id)
      table.defaultStep table.currentStep table.pendingRate
    refine seated_modChannel opened ⟨fun _ => hentry, fun x hx => ⟨ChannelMode.noConfusion, (place.armed x hx).2⟩,
      ChannelMode.noConfusion, fun _ => ?_, fun _ e _ hr => ?_⟩
    · exact opened.index_first hentry (Nat.zero_lt_succ _)
    · rw [show (look s.channels ch).passes = 0 from place.waiting hwait]
      exact Nat.pos_of_ne_zero hr
  · split
    · exact ⟨table, place⟩
    · next j hj =>
      have hlt := firedJump_lt ⟨table, place⟩ hj
      have hrun := (firedJump_some hj).1
      split
      · refine seated_modChannel (table.of_record (fun _ => id) table.defaultStep table.currentStep table.pendingRate)
          ⟨place.entry, fun x hx => ?_, place.waiting, place.index, place.passes⟩
        cases hx
        exact ⟨by rw [hrun]; decide, hlt⟩
      · exact ⟨table, place⟩

theorem seated_handOver (values : ChanId → TickValue) (h : SeatedAt len refs s ch) :
    SeatedAt len refs (handOver values ch s) ch := by
  have hand : ∀ f : Channel → Channel, (∀ c, (f c).seat = c.seat) → SeatedAt len refs (s.modChannel ch f) ch :=
    fun _ hf => seated_sameSeat h hf
  unfold handOver
  dsimp only
  split
  · exact hand _ fun _ => rfl
  · exact hand _ fun _ => rfl
  · split <;> exact hand _ fun _ => rfl
  · split
    · unfold handComputed
      dsimp only
      split
      · exact hand _ fun _ => rfl
      · split
        · exact seated_sameSeat (hand _ fun _ => rfl) fun _ => rfl
        · refine SeatedAt.raised _ (seated_sameSeat (hand _ fun _ => rfl) fun _ => rfl)
    · split
      · exact hand _ fun _ => rfl
      · exact SeatedAt.raised _ (hand _ fun _ => rfl)
    · exact hand _ fun _ => rfl
    · exact hand _ fun _ => rfl

/-- A phase below a whole number of samples lies at one of them. -/
theorem index_lt_of_phase_lt {phase n : Nat} (h : phase < n * Config.oneSample) : phase / Config.oneSample < n :=
  Nat.div_lt_of_lt_mul (by rwa [Nat.mul_comm] at h)

theorem phase_lt_of_index_lt {phase n : Nat} (h : phase / Config.oneSample < n) : phase < n * Config.oneSample :=
  (Nat.div_lt_iff_lt_mul (by decide)).mp h

/-- The advance (R74): the phase carried past a pass end is less than one step, and so less than a sample. -/
theorem seated_advance {jumps : ChanId → Option SlotIx} (h : SeatedAt len refs s ch)
    (hlen : segmentLength s = len) (hjumps : ∀ x ∈ jumps ch, x.val < (look s.tables ch).active.count) :
    SeatedAt len refs (advance jumps ch s) ch := by
  obtain ⟨table, place⟩ := h
  unfold advance
  dsimp only
  split
  · next hmode =>
    have hlast := phase_lt_of_index_lt (place.index hmode)
    have hlength : entryLength s (currentEntry s ch) =
        lengthIn len (look (look s.tables ch).active.slots (look s.channels ch).entry) := by
      rw [entryLength_eq, hlen, currentEntry_eq]
    rw [← hlength] at hlast
    split
    · refine seated_passEnds ⟨table, place⟩ hmode ?_ hjumps
      have := table.currentStep.2
      have : Config.oneSample = 16777216 := rfl
      omega
    · next hwhole =>
      have moved : SeatedAt len refs (s.modChannel ch fun c =>
          { c with phase := (look s.channels ch).phase + (look s.channels ch).currentStep }) ch := by
        refine seated_modChannel (table.of_record (fun _ => id) table.defaultStep table.currentStep table.pendingRate)
          ⟨place.entry, place.armed, place.waiting, fun _ => ?_, place.passes⟩
        refine index_lt_of_phase_lt ?_
        rw [← hlength]
        exact Nat.lt_of_not_le hwhole
      have hentry : (look (s.modChannel ch fun c =>
          { c with phase := (look s.channels ch).phase + (look s.channels ch).currentStep }).channels ch).entry.val <
          (look s.tables ch).active.count := by
        rw [State.modChannel_channels, look_put_same]
        exact place.entry (by rw [hmode]; decide)
      have turned : ∀ v : State, SeatedAt len refs v ch → v.channels = (s.modChannel ch fun c =>
            { c with phase := (look s.channels ch).phase + (look s.channels ch).currentStep }).channels →
          v.tables = s.tables → ∀ x ∈ jumps ch,
            SeatedAt len refs (entryEnd ch ((look s.channels ch).phase + (look s.channels ch).currentStep) (some x) v)
              ch := by
        intro v hv hc ht x hx
        refine seated_entryEnd hv.1 (by rw [hc, ht]; exact hentry) (fun y hy => ?_) fun hn => by cases hn
        cases hy
        rw [ht]
        exact hjumps x hx
      have played := moved.of_play (play_movePlay ch _)
      split <;> split
      · exact moved
      · exact played
      · next x hx _ => exact turned _ moved rfl rfl x hx
      · next x hx _ => exact turned _ played rfl rfl x hx
  · exact ⟨table, place⟩

/-! ### All channels -/

/-- The law of every channel, with what each one's banks name. -/
def AllSeated (len : SegId → Nat) (refs : ChanId → SegId → Nat) (s : State) : Prop :=
  ∀ ch, SeatedAt len (refs ch) s ch

variable {all : ChanId → SegId → Nat}

theorem AllSeated.of_play (h : AllSeated len all s) (hplay : u.play = s.play) : AllSeated len all u :=
  fun ch => (h ch).of_play hplay

theorem AllSeated.of_only (h : AllSeated len all s) (honly : OnlyChannel ch s u)
    (hch : SeatedAt len (all ch) u ch) : AllSeated len all u := by
  intro d
  by_cases hd : d = ch
  · subst hd
    exact hch
  · exact (h d).of_other honly hd

/-- The same work on several channels keeps the law of all where it keeps that of its own channel, under a condition on
that channel's own tables. -/
theorem allSeated_foldl {f : ChanId → State → State} {Q : ChanId → Tables → Prop} {P : State → Prop}
    (honly : ∀ ch u, OnlyChannel ch u (f ch u)) (hP : ∀ ch u, P u → P (f ch u))
    (hf : ∀ ch u, P u → Q ch (look u.tables ch) → SeatedAt len (all ch) u ch → SeatedAt len (all ch) (f ch u) ch)
    (l : List ChanId) :
    ∀ s, P s → l.Nodup → (∀ ch ∈ l, Q ch (look s.tables ch)) → AllSeated len all s →
      AllSeated len all (l.foldl (fun u ch => f ch u) s) := by
  induction l with
  | nil => exact fun s _ _ _ h => h
  | cons ch l ih =>
    intro s hs hnodup hQ h
    obtain ⟨hnot, hl⟩ := List.nodup_cons.mp hnodup
    refine ih _ (hP ch s hs) hl (fun d hd => ?_) (h.of_only (honly ch s) (hf ch s hs (hQ ch (by simp)) (h ch)))
    have hne : d ≠ ch := fun e => hnot (e ▸ hd)
    rw [(honly ch s).tables d hne]
    exact hQ d (by simp [hd])

theorem eachChannel_eq (f : ChanId → State → State) (s : State) :
    eachChannel f s = ([0, 1, 2, 3] : List ChanId).foldl (fun u ch => f ch u) s := rfl

theorem allSeated_eachChannel {f : ChanId → State → State} (honly : ∀ ch u, OnlyChannel ch u (f ch u))
    (hf : ∀ ch u, SeatedAt len (all ch) u ch → SeatedAt len (all ch) (f ch u) ch) (h : AllSeated len all s) :
    AllSeated len all (eachChannel f s) := by
  rw [eachChannel_eq]
  exact allSeated_foldl (Q := fun _ _ => True) (P := fun _ => True) honly (fun _ _ _ => trivial)
    (fun ch u _ _ => hf ch u) _ s trivial (by decide) (fun _ _ => trivial) h

theorem allSeated_forChannels {f : ChanId → State → State} {Q : ChanId → Tables → Prop} {set : BitVec 4}
    (honly : ∀ ch u, OnlyChannel ch u (f ch u))
    (hf : ∀ ch u, Q ch (look u.tables ch) → SeatedAt len (all ch) u ch → SeatedAt len (all ch) (f ch u) ch)
    (hQ : ∀ ch ∈ channelsOf set, Q ch (look s.tables ch)) (h : AllSeated len all s) :
    AllSeated len all (forChannels set f s) :=
  allSeated_foldl (P := fun _ => True) honly (fun _ _ _ => trivial) (fun ch u _ => hf ch u) _ s trivial
    ((List.nodup_finRange 4).filter _) hQ h

/-! ### The tick -/

theorem tables_takeFirings (fired : BitVec 4) (ch : ChanId) (s : State) :
    (takeFirings fired ch s).tables = s.tables := by
  unfold takeFirings
  split
  · rfl
  · split
    · rfl
    · split <;> rfl

theorem tables_handOver (values : ChanId → TickValue) (ch : ChanId) (s : State) :
    (handOver values ch s).tables = s.tables := by
  unfold handOver
  dsimp only
  split
  · rfl
  · rfl
  · split <;> rfl
  · split
    · unfold handComputed
      dsimp only
      split
      · rfl
      · split <;> rfl
    · split <;> rfl
    · rfl
    · rfl

theorem tables_eachChannel {f : ChanId → State → State} (hf : ∀ ch u, (f ch u).tables = u.tables) (s : State) :
    (eachChannel f s).tables = s.tables := by simp [eachChannel, hf]

theorem play_eachChannel {f : ChanId → State → State} (hf : ∀ ch u, (f ch u).play = u.play) (s : State) :
    (eachChannel f s).play = s.play := by simp [eachChannel, hf]

theorem play_eachCond {f : CondId → State → State} (hf : ∀ k u, (f k u).play = u.play) (s : State) :
    (eachCond f s).play = s.play := by simp [eachCond, hf]

theorem segmentLength_of_dir (h : u.dir = s.dir) : segmentLength u = segmentLength s := by
  funext id
  have hb := body_of_dir h id
  unfold segmentLength slotLength
  rw [hb]

/-- The state a tick's advance begins in: codes handed over, patterns shown, markers computed (R47, R112, R115). -/
def tickHanded (levels : BitVec 8) (s : State) : State :=
  let opened := tickOpening levels s
  let ready := tickFirings opened
  eachPin (markerTick (firedSet opened)) (eachChannel showPattern (eachChannel (handOver (tickValue ready)) ready))

theorem tick_eq (levels : BitVec 8) (s : State) :
    tick levels s = eachChannel presentPrefetch (eachChannel
      (advance (immediateJump (tickOpening levels s) (firedSet (tickOpening levels s)))) (tickHanded levels s)) := by
  rw [tick, tickHanded]

theorem allSeated_tickOpening (levels : BitVec 8) (h : AllSeated len all s) :
    AllSeated len all (tickOpening levels s) :=
  allSeated_eachChannel onlyChannel_carryStop (fun _ _ => seated_carryStop) (h.of_play (play_sampleInputs levels s))

theorem allSeated_tickHanded (levels : BitVec 8) (h : AllSeated len all s) :
    AllSeated len all (tickHanded levels s) := by
  have evaluated := (allSeated_tickOpening levels h).of_play
    (play_eachCond (f := evaluate) (fun k u => play_evaluate k u) _)
  have ready : AllSeated len all (tickFirings (tickOpening levels s)) :=
    allSeated_eachChannel (onlyChannel_takeFirings _) (fun _ _ => seated_takeFirings _) evaluated
  unfold tickHanded
  dsimp only
  refine AllSeated.of_play ?_ (play_eachPin _ _ fun i u => play_markerTick _ i u)
  refine AllSeated.of_play ?_ (play_eachChannel (fun ch u => play_showPattern ch u) _)
  exact allSeated_eachChannel (onlyChannel_handOver _) (fun _ _ => seated_handOver _) ready

theorem tickHanded_tables (levels : BitVec 8) (s : State) :
    (tickHanded levels s).tables = (tickOpening levels s).tables := by
  unfold tickHanded
  dsimp only
  rw [tables_of_play (play_eachPin _ _ fun i u => play_markerTick _ i u),
    tables_of_play (play_eachChannel (fun ch u => play_showPattern ch u) _),
    tables_eachChannel (tables_handOver _), tickFirings, tables_eachChannel (tables_takeFirings _),
    tables_of_play (play_eachCond (fun k u => play_evaluate k u) _)]

theorem tickHanded_dir (levels : BitVec 8) (s : State) : (tickHanded levels s).dir = s.dir := by
  unfold tickHanded
  dsimp only
  rw [dir_of_play (play_eachPin _ _ fun i u => play_markerTick _ i u),
    dir_of_play (play_eachChannel (fun ch u => play_showPattern ch u) _),
    dir_eachChannel _ _ fun ch u => (onlyChannel_handOver _ ch u).dir, tickFirings,
    dir_eachChannel _ _ fun ch u => (onlyChannel_takeFirings _ ch u).dir,
    dir_eachCond _ _ fun k u => dir_of_play (play_evaluate k u), tickOpening,
    dir_eachChannel _ _ fun ch u => (onlyChannel_carryStop ch u).dir, dir_of_play (play_sampleInputs levels s)]

/-- The law of every channel after a tick: the jumps fired at it go to slots of the banks the advance finds. -/
theorem allSeated_tick (levels : BitVec 8) (h : AllSeated (segmentLength s) all s) :
    AllSeated (segmentLength s) all (tick levels s) := by
  rw [tick_eq]
  refine AllSeated.of_play ?_ (play_eachChannel (fun ch u => play_presentPrefetch ch u) _)
  rw [eachChannel_eq]
  refine allSeated_foldl (P := fun u => u.dir = s.dir)
    (Q := fun ch t => ∀ x ∈ immediateJump (tickOpening levels s) (firedSet (tickOpening levels s)) ch,
      x.val < t.active.count)
    (onlyChannel_advance _) (fun ch u hu => ((onlyChannel_advance _ ch u).dir).trans hu)
    (fun ch u hu hQ hch => seated_advance hch (segmentLength_of_dir hu) hQ) _ _ (tickHanded_dir levels s) (by decide)
    (fun ch _ x hx => ?_) (allSeated_tickHanded levels h)
  rw [tickHanded_tables]
  exact immediateJump_lt (allSeated_tickOpening levels h ch) hx

theorem allSeated_gateEnd (h : AllSeated len all s) : AllSeated len all (gateEnd s) := by
  have gated : AllSeated len all { s with monitor := gateRecord s.monitor } := h.of_play rfl
  unfold gateEnd
  dsimp only
  split
  · exact (allSeated_eachChannel onlyChannel_haltChannel (fun _ _ => seated_haltChannel) gated).of_play (play_raise _ _)
  · split
    · exact gated.of_play (play_raise _ _)
    · exact gated

theorem allSeated_microsecond (h : AllSeated len all s) : AllSeated len all (microsecond s) := by
  have gate : AllSeated len all (gateMicrosecond s) := by
    unfold gateMicrosecond
    split
    · exact allSeated_gateEnd h
    · exact h.of_play rfl
  have scrub : ∀ u : State, (scrubMicrosecond u).play = u.play := by
    intro u
    unfold scrubMicrosecond
    split
    · rfl
    · split
      · exact play_scrubExpire u
      · rfl
  exact gate.of_play (scrub _)

end Sys2Proof.Machine
end

-- ==== The play law as references and seats ====
section
/-! SUPPORT. The play law is the reference-count law, the least length and the law of every channel's seat. What keeps it:
an event no view shows, one channel's work, a staged slot's change, a slot's change that no entry names. -/

namespace Sys2Proof.Machine

open Sys2Proof

variable {s t : State} {ch : ChanId}

/-! ### Counting over a vector -/

theorem countP_put_of_notMem {α : Type} {n : Nat} (v : Vector α n) (x : Fin n) (y : α) (p : α → Bool) (l : List (Fin n))
    (h : x ∉ l) : (l.countP fun i => p (look (put v x y) i)) = l.countP fun i => p (look v i) := by
  refine List.countP_congr fun i hi => ?_
  have hne : x ≠ i := fun e => h (by rwa [e])
  rw [look_put_ne v y hne]

/-- Changing one unit of a vector changes a count over it by that unit alone. -/
theorem countP_put {α : Type} {n : Nat} (v : Vector α n) (x : Fin n) (y : α) (p : α → Bool) :
    ((List.finRange n).countP fun i => p (look (put v x y) i)) + (if p (look v x) then 1 else 0) =
      ((List.finRange n).countP fun i => p (look v i)) + (if p y then 1 else 0) := by
  have general : ∀ l : List (Fin n), l.Nodup → x ∈ l →
      (l.countP fun i => p (look (put v x y) i)) + (if p (look v x) then 1 else 0) =
        (l.countP fun i => p (look v i)) + (if p y then 1 else 0) := by
    intro l
    induction l with
    | nil => intro _ hx; cases hx
    | cons i l ih =>
      intro hnodup hx
      obtain ⟨hnot, hl⟩ := List.nodup_cons.mp hnodup
      rw [List.countP_cons, List.countP_cons]
      by_cases hi : i = x
      · subst hi
        rw [countP_put_of_notMem v i y p l hnot, look_put_same]
        omega
      · have hxl : x ∈ l := (List.mem_cons.mp hx).resolve_left (Ne.symm hi)
        have := ih hl hxl
        rw [look_put_ne v y (Ne.symm hi)]
        omega
  exact general _ (List.nodup_finRange n) (List.mem_finRange x)

/-! ### References -/

/-- How often the channel's banks name a segment. -/
def chanRefs (s : State) (ch : ChanId) (id : SegId) : Nat :=
  bankRefs (look s.tables ch).active id + bankRefs (look s.tables ch).staged id

/-- Whether a slot's content names the segment, as a number. -/
def names (e : Option Entry) (id : SegId) : Nat := if e.any fun e => e.segment = id then 1 else 0

theorem references_eq (s : State) (id : SegId) :
    references s id = chanRefs s 0 id + (chanRefs s 1 id + (chanRefs s 2 id + chanRefs s 3 id)) := rfl

theorem chanRefs_le (s : State) (ch : ChanId) (id : SegId) : chanRefs s ch id ≤ references s id := by
  rw [references_eq]
  fin_cases ch <;> dsimp only [Fin.zero_eta, Fin.mk_one, Fin.reduceFinMk] <;> omega

theorem references_congr (h : ∀ ch id, chanRefs t ch id = chanRefs s ch id) (id : SegId) :
    references t id = references s id := by
  simp only [references_eq, h]

theorem bankRefs_pos {b : Bank} {x : SlotIx} {e : Entry} (h : look b.slots x = some e) : 0 < bankRefs b e.segment := by
  rw [bankRefs, List.countP_pos_iff]
  exact ⟨x, List.mem_finRange x, by simp [h]⟩

/-- A segment an entry names has a reference, so it is READY (R28). -/
theorem RefLaw.ready_of_named (h : RefLaw s) {b : Bank} (hb : b = (look s.tables ch).active ∨ b = (look s.tables ch).staged)
    {x : SlotIx} {e : Entry} (he : look b.slots x = some e) :
    0 < references s e.segment ∧ isReady (look s.slots e.segment) = true := by
  have hpos := bankRefs_pos he
  have hle := chanRefs_le s ch e.segment
  have hrefs : 0 < references s e.segment := by
    unfold chanRefs at hle
    obtain rfl | rfl := hb <;> omega
  obtain ⟨hcount, hnot⟩ := h e.segment
  refine ⟨hrefs, ?_⟩
  by_contra hready
  have := hnot (by simpa using hready)
  omega

theorem not_free_of_ready {x : Slot} (h : isReady x = true) : isFree x = false := by
  unfold isReady at h
  unfold isFree
  cases hb : x.body <;> simp [hb] at h ⊢

theorem filled_of_refLaw (h : RefLaw s) (hl : LengthLaw s) {b : Bank}
    (hb : b = (look s.tables ch).active ∨ b = (look s.tables ch).staged) : Filled (segmentLength s) b :=
  fun _ _ he => hl _ (not_free_of_ready (h.ready_of_named hb he).2)

/-! ### The play law by seats -/

theorem playLaw_iff :
    PlayLaw s ↔ RefLaw s ∧ LengthLaw s ∧ AllSeated (segmentLength s) (chanRefs s) s := by
  constructor
  · rintro ⟨href, hlen, hch⟩
    refine ⟨href, hlen, fun ch => ?_⟩
    obtain ⟨⟨hentry, harmed, hwaiting, hrunning⟩, hplay, hsteps, hstaged, hcount, hcommit, d1, d2, c1, c2, hrate⟩ := hch ch
    have index := fun hm => (hrunning hm).1
    simp only [entryLength_eq] at index
    exact ⟨⟨filled_of_refLaw href hlen (.inl rfl), filled_of_refLaw href hlen (.inr rfl), fun _ => rfl, hplay, hsteps,
        hstaged, hcount, hcommit, ⟨d1, d2⟩, ⟨c1, c2⟩, hrate⟩,
      ⟨hentry, harmed, hwaiting, index, fun hm => (hrunning hm).2⟩⟩
  · rintro ⟨href, hlen, hch⟩
    refine ⟨href, hlen, fun ch => ?_⟩
    obtain ⟨table, place⟩ := hch ch
    refine ⟨⟨place.entry, place.armed, place.waiting, fun hm => ⟨?_, place.passes hm⟩⟩, table.activePlayable,
      table.activeSteps, table.stagedSteps, table.stagedCount, table.commitValid, table.defaultStep.1,
      table.defaultStep.2, table.currentStep.1, table.currentStep.2, table.pendingRate⟩
    rw [entryLength_eq]
    exact place.index hm

theorem isReady_of_body {x y : Slot} (h : x.body = y.body) : isReady x = isReady y := by simp only [isReady, h]
theorem isFree_of_body {x y : Slot} (h : x.body = y.body) : isFree x = isFree y := by simp only [isFree, h]
theorem slotLength_of_body {x y : Slot} (h : x.body = y.body) : slotLength x = slotLength y := by
  simp only [slotLength, h]

theorem LengthLaw.of_body (h : LengthLaw s) (hbody : ∀ id, (look t.slots id).body = (look s.slots id).body) :
    LengthLaw t := by
  intro id hid
  rw [slotLength_of_body (hbody id)]
  exact h id (by rw [← isFree_of_body (hbody id)]; exact hid)

/-- An event that keeps the directory keeps the play law where it keeps every seat. -/
theorem PlayLaw.of_seats (h : PlayLaw s) (hdir : t.dir = s.dir)
    (hseats : AllSeated (segmentLength s) (chanRefs s) t) : PlayLaw t := by
  obtain ⟨href, hlen, -⟩ := playLaw_iff.mp h
  have refs : ∀ ch id, chanRefs t ch id = chanRefs s ch id := fun ch id => (hseats ch).1.named id
  refine playLaw_iff.mpr ⟨fun id => ?_, hlen.of_body (body_of_dir hdir), ?_⟩
  · rw [refCount_of_dir hdir, references_congr refs, isReady_of_body (body_of_dir hdir id)]
    exact href id
  · rw [segmentLength_of_dir hdir, show chanRefs t = chanRefs s from funext fun ch => funext (refs ch)]
    exact hseats

theorem PlayLaw.seats (h : PlayLaw s) : AllSeated (segmentLength s) (chanRefs s) s := (playLaw_iff.mp h).2.2

/-- An event the play view does not show keeps the play law. -/
theorem PlayLaw.of_play (h : PlayLaw s) (hplay : t.play = s.play) : PlayLaw t :=
  h.of_seats (dir_of_play hplay) (h.seats.of_play hplay)

/-- One channel's work keeps the play law where it keeps that channel's seat. -/
theorem PlayLaw.of_only (h : PlayLaw s) (honly : OnlyChannel ch s t)
    (hch : SeatedAt (segmentLength s) (chanRefs s ch) t ch) : PlayLaw t :=
  h.of_seats honly.dir (h.seats.of_only honly hch)

/-- An update of one channel's record keeps the play law where it keeps the channel's seat. -/
theorem PlayLaw.modChannel (h : PlayLaw s) {f : Channel → Channel}
    (hch : SeatedAt (segmentLength s) (chanRefs s ch) (s.modChannel ch f) ch) : PlayLaw (s.modChannel ch f) :=
  h.of_only ((OnlyChannel.refl ch s).modChannel f) hch

/-- An update of a channel's tables that leaves both banks keeps the play law: no law reads the editor or the swap
number. -/
theorem PlayLaw.modTables (h : PlayLaw s) {f : Tables → Tables} (ha : ∀ t, (f t).active = t.active)
    (hs : ∀ t, (f t).staged = t.staged) : PlayLaw (s.modTables ch f) := by
  refine h.of_only ((OnlyChannel.refl ch s).modTables f) ?_
  obtain ⟨table, place⟩ := h.seats ch
  unfold SeatedAt TabledAt
  rw [State.modTables_tables, look_put_same, State.modTables_channels]
  generalize hb : f (look s.tables ch) = b
  have hba : b.active = (look s.tables ch).active := hb ▸ ha _
  have hbs : b.staged = (look s.tables ch).staged := hb ▸ hs _
  cases b with
  | mk active staged editor swaps =>
    dsimp only at hba hbs
    subst hba hbs
    exact ⟨{ table with }, { place with }⟩

/-- Taking a frame keeps a law where the command's own judgement does and the link records are none of its matter. -/
theorem takeFrame_law {P : State → Prop} (hlink : ∀ u n f, P u → P (State.modLink u n f)) {judge : State → State}
    (hjudge : ∀ u, P u → P (judge u)) (n : LinkId) (tag code : Byte) (p : List Byte) (h : P s) :
    P (takeFrame n tag code p judge s) := by
  have hdrive : ∀ k, P (driveZeros n k s) := fun k => hlink s n _ h
  obtain e | e | e | e | e | e := takeFrame_cases n tag code p judge s <;> rw [e]
  · exact h
  · exact hlink _ _ _ h
  · exact hlink _ _ _ (hdrive _)
  · exact hlink _ _ _ (hdrive _)
  · rw [refuse, respond, State.raiseOn]
    exact hlink _ _ _ (hlink _ _ _ (hdrive _))
  · exact hjudge _ (hdrive _)

theorem playLaw_takeFrame {judge : State → State} (hjudge : ∀ u, PlayLaw u → PlayLaw (judge u)) (n : LinkId)
    (tag code : Byte) (p : List Byte) (h : PlayLaw s) : PlayLaw (takeFrame n tag code p judge s) :=
  takeFrame_law (fun _ _ _ h => h.of_play rfl) hjudge n tag code p h

/-! ### A staged slot's change -/

theorem body_adjustRefs (old new : Option Entry) (s : State) (id : SegId) :
    (look (adjustRefs old new s).slots id).body = (look s.slots id).body := by
  have add : ∀ (a : SegId) (u : State), (look (addRef a u).slots id).body = (look u.slots id).body := fun a u =>
    look_put_comp Slot.body _ _ _ _ rfl
  have drop : ∀ (a : SegId) (u : State), (look (dropRef a u).slots id).body = (look u.slots id).body := fun a u =>
    look_put_comp Slot.body _ _ _ _ rfl
  unfold adjustRefs
  split
  · rfl
  · exact add _ _
  · exact drop _ _
  · split
    · rfl
    · exact (add _ _).trans (drop _ _)

theorem adjustRefs_tables (old new : Option Entry) (s : State) : (adjustRefs old new s).tables = s.tables := by
  unfold adjustRefs
  split
  · rfl
  · rfl
  · rfl
  · split <;> rfl

theorem adjustRefs_channels (old new : Option Entry) (s : State) : (adjustRefs old new s).channels = s.channels := by
  unfold adjustRefs
  split
  · rfl
  · rfl
  · rfl
  · split <;> rfl

theorem addRef_refCount (a : SegId) (u : State) (id : SegId) :
    (look (addRef a u).slots id).refCount = (look u.slots id).refCount + if a = id then 1 else 0 := by
  rw [addRef, State.modSlot_slots, look_put]
  split
  · next h => rw [h]
  · rfl

theorem dropRef_refCount (a : SegId) (u : State) (id : SegId) :
    (look (dropRef a u).slots id).refCount = (look u.slots id).refCount - if a = id then 1 else 0 := by
  rw [dropRef, State.modSlot_slots, look_put]
  split
  · next h => rw [h]
  · rfl

/-- The counts follow the slot's change (R28), for an old content that is counted. -/
theorem adjustRefs_refCount (old new : Option Entry) (s : State) (id : SegId)
    (hold : names old id ≤ (look s.slots id).refCount) :
    (look (adjustRefs old new s).slots id).refCount + names old id = (look s.slots id).refCount + names new id := by
  unfold names at *
  cases old with
  | none =>
    cases new with
    | none => rfl
    | some b => simp [adjustRefs, addRef_refCount]
  | some a =>
    simp only [Option.any_some, decide_eq_true_eq] at hold ⊢
    cases new with
    | none =>
      simp only [adjustRefs, dropRef_refCount, Option.any_none, Bool.false_eq_true, if_false]
      omega
    | some b =>
      simp only [adjustRefs, Option.any_some, decide_eq_true_eq]
      by_cases hab : a.segment = b.segment
      · simp only [hab, if_true]
      · simp only [hab, if_false, addRef_refCount, dropRef_refCount]
        omega

/-- A staged slot takes a content, the reference counts following (R28, R30, R31, R41). -/
def stageSlot (ch : ChanId) (x : SlotIx) (e : Option Entry) (s : State) : State :=
  (adjustRefs (look (look s.tables ch).staged.slots x) e s).modTables ch fun t =>
    { t with staged := { t.staged with slots := put t.staged.slots x e } }

theorem setStagedSlot_eq (n : LinkId) (ch : ChanId) (x : SlotIx) (e : Option Entry) (s : State) :
    setStagedSlot n ch x e s = (stageSlot ch x e s).modTables ch fun t => { t with editor := some n } := by
  simp only [setStagedSlot, stageSlot, State.modTables, look_put_same]
  congr 1
  exact vector_ext_look fun d => by simp only [look_put]; split <;> rfl

theorem discardSlot_eq (ch : ChanId) (s : State) (x : SlotIx) :
    discardSlot ch s x = stageSlot ch x (look (look s.tables ch).active.slots x) s := by
  simp only [discardSlot, stageSlot, State.modTables, adjustRefs_tables]

theorem stageSlot_channels (x : SlotIx) (e : Option Entry) (s : State) : (stageSlot ch x e s).channels = s.channels :=
  adjustRefs_channels ..

theorem stageSlot_tables_same (x : SlotIx) (e : Option Entry) (s : State) :
    look (stageSlot ch x e s).tables ch =
      { look s.tables ch with
        staged := { (look s.tables ch).staged with slots := put (look s.tables ch).staged.slots x e } } := by
  rw [stageSlot, State.modTables_tables, look_put_same, adjustRefs_tables]

theorem stageSlot_tables_ne {d : ChanId} (x : SlotIx) (e : Option Entry) (s : State) (h : d ≠ ch) :
    look (stageSlot ch x e s).tables d = look s.tables d := by
  rw [stageSlot, State.modTables_tables, look_put_ne _ _ h.symm, adjustRefs_tables]

theorem stageSlot_body (x : SlotIx) (e : Option Entry) (s : State) (id : SegId) :
    (look (stageSlot ch x e s).slots id).body = (look s.slots id).body :=
  body_adjustRefs ..

/-- A change of one slot of a bank changes how often the bank names a segment by that slot alone. -/
theorem bankRefs_put (b : Bank) (x : SlotIx) (e : Option Entry) (id : SegId) :
    bankRefs { b with slots := put b.slots x e } id + names (look b.slots x) id = bankRefs b id + names e id :=
  countP_put b.slots x e fun o : Option Entry => o.any fun f : Entry => decide (f.segment = id)

theorem names_le_bankRefs (b : Bank) (x : SlotIx) (id : SegId) : names (look b.slots x) id ≤ bankRefs b id := by
  cases he : look b.slots x with
  | none => exact Nat.zero_le _
  | some e =>
    by_cases hs : e.segment = id
    · have := bankRefs_pos he
      simpa [names, hs] using hs ▸ this
    · simp [names, hs]

theorem references_stageSlot (x : SlotIx) (e : Option Entry) (s : State) (id : SegId) :
    references (stageSlot ch x e s) id + names (look (look s.tables ch).staged.slots x) id =
      references s id + names e id := by
  have own : chanRefs (stageSlot ch x e s) ch id + names (look (look s.tables ch).staged.slots x) id =
      chanRefs s ch id + names e id := by
    have := bankRefs_put (look s.tables ch).staged x e id
    unfold chanRefs
    rw [stageSlot_tables_same]
    dsimp only
    omega
  have other : ∀ d, d ≠ ch → chanRefs (stageSlot ch x e s) d id = chanRefs s d id := fun d hd => by
    unfold chanRefs
    rw [stageSlot_tables_ne x e s hd]
  rw [references_eq, references_eq]
  have cases4 : ch = 0 ∨ ch = 1 ∨ ch = 2 ∨ ch = 3 := by fin_cases ch <;> decide
  obtain rfl | rfl | rfl | rfl := cases4
  · have h1 := other 1 (by decide)
    have h2 := other 2 (by decide)
    have h3 := other 3 (by decide)
    omega
  · have h0 := other 0 (by decide)
    have h2 := other 2 (by decide)
    have h3 := other 3 (by decide)
    omega
  · have h0 := other 0 (by decide)
    have h1 := other 1 (by decide)
    have h3 := other 3 (by decide)
    omega
  · have h0 := other 0 (by decide)
    have h1 := other 1 (by decide)
    have h2 := other 2 (by decide)
    omega

end Sys2Proof.Machine
end

-- ==== The table and channel commands keep the play law ====
section
/-! SUPPORT. WRITE_ENTRY, CLEAR_ENTRY, SET_TABLE_END, COMMIT_TABLE, CANCEL_COMMIT, DISCARD_STAGED, START, STOP and the
updates of a channel's record. -/

namespace Sys2Proof.Machine

open Sys2Proof

variable {s t : State} {ch : ChanId}

/-! ### Staged slots -/

/-- A content a staged slot may take: nothing, or an entry of a READY segment with a step of R26. -/
def Stageable (s : State) (e : Option Entry) : Prop :=
  ∀ f ∈ e, isReady (look s.slots f.segment) = true ∧ ∀ st ∈ f.step, StepOk st

/-- Setting a staged slot while no commit is pending keeps the play law (R28, R29). -/
theorem playLaw_stageSlot (h : PlayLaw s) (hcommit : (look s.channels ch).commit = none) (x : SlotIx) {e : Option Entry}
    (he : Stageable s e) : PlayLaw (stageSlot ch x e s) := by
  obtain ⟨href, hlen, hseats⟩ := playLaw_iff.mp h
  have body : ∀ id, (look (stageSlot ch x e s).slots id).body = (look s.slots id).body := stageSlot_body x e s
  have ready : ∀ id, isReady (look (stageSlot ch x e s).slots id) = isReady (look s.slots id) := fun id =>
    isReady_of_body (body id)
  have len : segmentLength (stageSlot ch x e s) = segmentLength s := funext fun id => slotLength_of_body (body id)
  have counts : ∀ id, (look (stageSlot ch x e s).slots id).refCount = references (stageSlot ch x e s) id := by
    intro id
    have hle : names (look (look s.tables ch).staged.slots x) id ≤ (look s.slots id).refCount := by
      have := names_le_bankRefs (look s.tables ch).staged x id
      have := chanRefs_le s ch id
      have := (href id).1
      unfold chanRefs at *
      omega
    have := adjustRefs_refCount (look (look s.tables ch).staged.slots x) e s id hle
    have := references_stageSlot (ch := ch) x e s id
    have := (href id).1
    have : (look (stageSlot ch x e s).slots id).refCount =
      (look (adjustRefs (look (look s.tables ch).staged.slots x) e s).slots id).refCount := rfl
    omega
  refine playLaw_iff.mpr ⟨fun id => ⟨counts id, fun hid => ?_⟩, hlen.of_body body, fun d => ?_⟩
  · rw [ready] at hid
    have zero := (href id).2 hid
    have unnamed : names e id = 0 := by
      cases e with
      | none => rfl
      | some f =>
        have hne : f.segment ≠ id := fun hs => by simp [← hs, (he f rfl).1] at hid
        simp [names, hne]
    have := (href id).1
    have := references_stageSlot (ch := ch) x e s id
    rw [counts]
    omega
  · rw [len]
    obtain ⟨table, place⟩ := hseats d
    unfold SeatedAt TabledAt
    rw [stageSlot_channels]
    by_cases hd : d = ch
    · subst hd
      have active : (look (stageSlot d x e s).tables d).active = (look s.tables d).active := by
        rw [stageSlot_tables_same]
      have slot : ∀ y, look (look (stageSlot d x e s).tables d).staged.slots y =
          if x = y then e else look (look s.tables d).staged.slots y := fun y => by
        rw [stageSlot_tables_same, look_put]
      refine ⟨⟨?_, ?_, fun _ => rfl, ?_, ?_, ?_, ?_, ?_, table.defaultStep, table.currentStep, table.pendingRate⟩, ?_⟩
      · rw [active]
        exact table.activeFilled
      · intro y f hf
        rw [slot] at hf
        split at hf
        · exact hlen _ (not_free_of_ready (he f hf).1)
        · exact table.stagedFilled y f hf
      · rw [active]
        exact table.activePlayable
      · rw [active]
        exact table.activeSteps
      · refine stepsInRange_iff.mpr fun y f hf => ?_
        rw [slot] at hf
        split at hf
        · exact (he f hf).2
        · exact stepsInRange_iff.mp table.stagedSteps y f hf
      · rw [stageSlot_tables_same]
        exact table.stagedCount
      · simp [hcommit]
      · rw [stageSlot_tables_same]
        exact { place with }
    · have refs : chanRefs (stageSlot ch x e s) d = chanRefs s d := funext fun id => by
        unfold chanRefs
        rw [stageSlot_tables_ne x e s hd]
      rw [refs, stageSlot_tables_ne x e s hd]
      exact ⟨table, place⟩

/-- An editing command that is not refused meets no pending commit (R29). -/
theorem commit_none_of_editable {n : LinkId} (h : editRefusal s ch n = none) : (look s.channels ch).commit = none := by
  unfold editRefusal at h
  split at h
  · cases h
  · next hc => simpa using hc

theorem playLaw_setStagedSlot (n : LinkId) (h : PlayLaw s) (hcommit : (look s.channels ch).commit = none) (x : SlotIx)
    {e : Option Entry} (he : Stageable s e) : PlayLaw (setStagedSlot n ch x e s) := by
  rw [setStagedSlot_eq]
  exact (playLaw_stageSlot h hcommit x he).modTables (fun _ => rfl) fun _ => rfl

theorem clampStep_ok (n : Nat) : StepOk (clampStep n) := by
  have : Config.oneSample = 16777216 := rfl
  unfold clampStep StepOk
  split <;> omega

theorem stepOverrideAt_ok {p : List Byte} {i : Nat} {step : Option Nat} (h : stepOverrideAt p i = some step) :
    ∀ st ∈ step, StepOk st := by
  unfold stepOverrideAt at h
  split at h
  · cases h
  · cases h
    simp
  · cases h
    intro st hst
    cases hst
    exact clampStep_ok _

/-- An entry read from a payload has a step of R26. -/
theorem entryAtOffset_step {p : List Byte} {i : Nat} {e : Entry} (h : entryAtOffset p i = some e) :
    ∀ st ∈ e.step, StepOk st := by
  unfold entryAtOffset at h
  split at h
  · next hstep =>
    split at h
    · cases h
      exact stepOverrideAt_ok hstep
    · cases h
  · cases h

theorem playLaw_writeEntry (n : LinkId) (tag : Byte) (p : List Byte) (h : PlayLaw s) : PlayLaw (writeEntry n tag p s) := by
  unfold writeEntry
  split
  · split
    · exact h.of_play (play_refuse ..)
    · next hedit =>
      split
      · exact h.of_play (play_refuse ..)
      · next e he =>
        split
        · next hready =>
          refine PlayLaw.of_play ?_ (play_respond ..)
          refine playLaw_setStagedSlot n h (commit_none_of_editable hedit) _ fun f hf => ?_
          cases hf
          exact ⟨hready, entryAtOffset_step he⟩
        · exact h.of_play (play_refuse ..)
  · exact h.of_play (play_refuse ..)

theorem playLaw_clearEntry (n : LinkId) (tag : Byte) (p : List Byte) (h : PlayLaw s) : PlayLaw (clearEntry n tag p s) := by
  unfold clearEntry
  split
  · split
    · exact h.of_play (play_refuse ..)
    · next hedit =>
      refine PlayLaw.of_play ?_ (play_respond ..)
      exact playLaw_setStagedSlot n h (commit_none_of_editable hedit) _ fun f hf => by cases hf
  · exact h.of_play (play_refuse ..)

/-- A staged bank's count and end action are free up to 64 while no commit is pending (R32). -/
theorem playLaw_stagedEnd (h : PlayLaw s) (hcommit : (look s.channels ch).commit = none)
    {f : Tables → Tables} (hactive : ∀ t, (f t).active = t.active) (hslots : ∀ t, (f t).staged.slots = t.staged.slots)
    (hcount : (f (look s.tables ch)).staged.count ≤ 64) : PlayLaw (s.modTables ch f) := by
  refine h.of_only ((OnlyChannel.refl ch s).modTables f) ?_
  obtain ⟨table, place⟩ := h.seats ch
  unfold SeatedAt TabledAt
  rw [State.modTables_tables, look_put_same, State.modTables_channels]
  have ha := hactive (look s.tables ch)
  have hs := hslots (look s.tables ch)
  have named : ∀ id, bankRefs (f (look s.tables ch)).staged id = bankRefs (look s.tables ch).staged id := fun id => by
    simp only [bankRefs, hs]
  refine ⟨⟨?_, ?_, ?_, ?_, ?_, ?_, hcount, ?_, table.defaultStep, table.currentStep, table.pendingRate⟩, ?_⟩
  · rw [ha]
    exact table.activeFilled
  · unfold Filled
    rw [hs]
    exact table.stagedFilled
  · intro id
    rw [ha, named]
    exact table.named id
  · rw [ha]
    exact table.activePlayable
  · rw [ha]
    exact table.activeSteps
  · unfold stepsInRange
    rw [hs]
    exact table.stagedSteps
  · simp [hcommit]
  · obtain ⟨pentry, parmed, pwaiting, pindex, ppasses⟩ := place
    refine ⟨?_, ?_, pwaiting, ?_, ?_⟩ <;> rw [ha] <;> assumption

theorem playLaw_setTableEnd (n : LinkId) (tag : Byte) (p : List Byte) (h : PlayLaw s) :
    PlayLaw (setTableEnd n tag p s) := by
  unfold setTableEnd
  split
  · next count action hch hcount haction =>
    split
    · exact h.of_play (play_refuse ..)
    · next hedit =>
      refine PlayLaw.of_play ?_ (play_respond ..)
      exact playLaw_stagedEnd h (commit_none_of_editable hedit) (fun _ => rfl) (fun _ => rfl) (Nat.le_of_lt_succ count.isLt)
  · exact h.of_play (play_refuse ..)

theorem discardSlot_channels (ch : ChanId) (s : State) (x : SlotIx) : (discardSlot ch s x).channels = s.channels := by
  rw [discardSlot_eq, stageSlot_channels]

theorem playLaw_discardSlot (h : PlayLaw s) (hcommit : (look s.channels ch).commit = none) (x : SlotIx) :
    PlayLaw (discardSlot ch s x) := by
  rw [discardSlot_eq]
  refine playLaw_stageSlot h hcommit x fun e he => ⟨(h.1.ready_of_named (ch := ch) (.inl rfl) he).2, ?_⟩
  exact stepsInRange_iff.mp (h.seats ch).1.activeSteps x e he

theorem playLaw_copyActive (h : PlayLaw s) (hcommit : (look s.channels ch).commit = none) :
    PlayLaw (copyActive ch s) := by
  have fold : ∀ (l : List SlotIx) (u : State), PlayLaw u → (look u.channels ch).commit = none →
      PlayLaw (l.foldl (discardSlot ch) u) ∧ (look (l.foldl (discardSlot ch) u).channels ch).commit = none := by
    intro l
    induction l with
    | nil => exact fun u hu hc => ⟨hu, hc⟩
    | cons x l ih => exact fun u hu hc => ih _ (playLaw_discardSlot hu hc x) (by rw [discardSlot_channels]; exact hc)
  unfold copyActive
  obtain ⟨copied, pending⟩ := fold (List.finRange 64) s h hcommit
  generalize (List.finRange 64).foldl (discardSlot ch) s = u at copied pending ⊢
  have count : (look u.tables ch).active.count ≤ 64 := count_of_playable (copied.seats ch).1.activePlayable
  exact playLaw_stagedEnd copied pending (fun _ => rfl) (fun _ => rfl) count

theorem playLaw_discardStaged (n : LinkId) (tag : Byte) (p : List Byte) (h : PlayLaw s) :
    PlayLaw (discardStaged n tag p s) := by
  unfold discardStaged
  split
  · exact h.of_play (play_refuse ..)
  · split
    · exact h.of_play (play_refuse ..)
    · next hedit =>
      refine PlayLaw.of_play ?_ (play_respond ..)
      exact playLaw_copyActive h (commit_none_of_editable hedit)

/-! ### Commits -/

theorem playLaw_cancelCommit (n : LinkId) (tag : Byte) (p : List Byte) (h : PlayLaw s) :
    PlayLaw (cancelCommit n tag p s) := by
  unfold cancelCommit
  split
  · exact h.of_play (play_refuse ..)
  · next ch _ =>
    split
    · refine PlayLaw.of_play ?_ (play_respond ..)
      obtain ⟨table, place⟩ := h.seats ch
      exact h.modChannel (seated_modChannel (table.of_record (fun _ hk => by simp at hk) table.defaultStep
        table.currentStep table.pendingRate) { place with })
    · exact h.of_play (play_refuse ..)

/-- A swap on an IDLE channel keeps its seat: nothing of its place is asked (R36, R37). -/
theorem seated_swapBanks_idle {len refs : SegId → Nat} {target : SlotIx} (h : SeatedAt len refs s ch)
    (hv : validate (look s.tables ch).staged target = none) (hmode : (look s.channels ch).mode = .idle) :
    SeatedAt len refs (swapBanks ch s) ch := by
  refine ⟨tabled_swapBanks h.1 hv, ?_⟩
  rw [swapBanks_channel]
  refine placed_of_idle hmode (Option.eq_none_iff_forall_not_mem.mpr fun x hx => ?_)
  exact (h.2.armed x hx).1 hmode

/-- An accepted commit (R36): taken at once on an IDLE channel, turned to on a WAITING one, or held. -/
theorem playLaw_acceptCommit (n : LinkId) (tag : Byte) (k : Commit) (h : PlayLaw s)
    (hv : validate (look s.tables ch).staged k.target = none) : PlayLaw (acceptCommit n tag ch k s) := by
  unfold acceptCommit
  dsimp only
  generalize hu : (s.modTables ch fun t => { t with editor := none }) = u
  have law : PlayLaw u := hu ▸ h.modTables (fun _ => rfl) fun _ => rfl
  have valid : validate (look u.tables ch).staged k.target = none := by
    rw [← hu, State.modTables_tables, look_put_same]
    exact hv
  split
  · next hmode => exact (law.of_only (onlyChannel_swapBanks ch u)
      (seated_swapBanks_idle (law.seats ch) valid hmode)).of_play (play_respond ..)
  · exact (law.of_only (onlyChannel_takeCommit ch _ u) (seated_takeCommit (law.seats ch).1 valid)).of_play
      ((play_respond ..).trans (play_presentPrefetch ..))
  · refine PlayLaw.of_play ?_ (play_respond ..)
    obtain ⟨table, place⟩ := law.seats ch
    refine law.modChannel (seated_modChannel { table with commitValid := fun k' hk => ?_ } { place with })
    cases hk
    exact valid

theorem playLaw_commitTable (n : LinkId) (tag : Byte) (p : List Byte) (h : PlayLaw s) :
    PlayLaw (commitTable n tag p s) := by
  unfold commitTable
  split
  · split
    · exact h.of_play (play_refuse ..)
    · split
      · exact h.of_play (play_respond ..)
      · next hv => exact playLaw_acceptCommit n tag _ h hv
  · exact h.of_play (play_refuse ..)

/-! ### START and STOP -/

theorem dir_forChannels_start (set : BitVec 4) (x : SlotIx) (s : State) :
    (forChannels set (startChannel x) s).dir = s.dir :=
  dir_forChannels set _ s fun ch u => (onlyChannel_startChannel x ch u).dir

/-- An accepted START finds the index below the count on every channel of the set (R49 order 4). -/
theorem startFault_none {set : BitVec 4} {x : SlotIx} (h : startFault s set x = none) :
    ∀ ch ∈ channelsOf set, x.val < (look s.tables ch).active.count := by
  unfold startFault at h
  split at h
  · cases h
  · split at h
    · cases h
    · split at h
      · cases h
      · next hrange =>
        intro ch hch
        have := List.find?_eq_none.mp hrange ch hch
        simpa using this

theorem playLaw_startChannels (n : LinkId) (tag : Byte) (p : List Byte) (h : PlayLaw s) :
    PlayLaw (startChannels n tag p s) := by
  unfold startChannels
  split
  · split
    · exact h.of_play (play_respond ..)
    · next x _ hx hfault =>
      refine PlayLaw.of_play ?_ (play_respond ..)
      exact h.of_seats (dir_forChannels_start ..) (allSeated_forChannels (Q := fun _ t => _ < t.active.count)
        (onlyChannel_startChannel _) (fun ch u hQ hch => seated_startChannel hch hQ) (startFault_none hfault) h.seats)
  · exact h.of_play (play_refuse ..)

theorem playLaw_stopChannels (n : LinkId) (tag : Byte) (p : List Byte) (h : PlayLaw s) :
    PlayLaw (stopChannels n tag p s) := by
  unfold stopChannels
  split
  · next set mode _ _ =>
    refine PlayLaw.of_play ?_ (play_respond ..)
    exact h.of_seats (dir_forChannels set _ s fun ch u => (onlyChannel_stopChannel mode ch u).dir)
      (allSeated_forChannels (Q := fun _ _ => True) (onlyChannel_stopChannel mode)
        (fun ch u _ hch => seated_stopChannel mode hch) (fun _ _ => trivial) h.seats)
  · exact h.of_play (play_refuse ..)

/-! ### Updates of a channel's record -/

theorem PlayLaw.sameSeat (h : PlayLaw s) {f : Channel → Channel} (hf : ∀ c, (f c).seat = c.seat) :
    PlayLaw (s.modChannel ch f) :=
  h.modChannel (seated_sameSeat (h.seats ch) hf)

theorem playLaw_channelStatus (n : LinkId) (tag : Byte) (p : List Byte) (h : PlayLaw s) :
    PlayLaw (channelStatus n tag p s) := by
  unfold channelStatus
  split
  · refine PlayLaw.of_play ?_ (play_respond ..)
    split
    · exact h.sameSeat fun _ => rfl
    · exact h
  · exact h.of_play (play_refuse ..)

theorem playLaw_setScale (n : LinkId) (tag : Byte) (p : List Byte) (h : PlayLaw s) : PlayLaw (setScale n tag p s) := by
  unfold setScale
  split
  · refine PlayLaw.of_play (h.sameSeat fun c => ?_) (play_respond ..)
    unfold scaleRecord
    split <;> rfl
  · exact h.of_play (play_refuse ..)

theorem playLaw_setChannelConfig (n : LinkId) (tag : Byte) (p : List Byte) (h : PlayLaw s) :
    PlayLaw (setChannelConfig n tag p s) := by
  unfold setChannelConfig
  split
  · split
    · exact h.of_play (play_refuse ..)
    · split
      · exact h.of_play (play_refuse ..)
      · refine PlayLaw.of_play ?_ (play_respond ..)
        exact h.sameSeat fun _ => rfl
  · exact h.of_play (play_refuse ..)

/-- A clamped rate keeps the seat, held or set at once (R73, R87). -/
theorem seated_rateRecord {len refs : SegId → Nat} (h : SeatedAt len refs s ch) {step : Nat} (hstep : StepOk step)
    (held : Bool) : SeatedAt len refs (s.modChannel ch (rateRecord (currentEntry s ch) step held)) ch := by
  obtain ⟨table, place⟩ := h
  have chosen := stepFor_ok table.activeSteps hstep (look s.channels ch).entry
  have pending : ∀ r ∈ some step, StepOk r := fun r hr => by cases hr; exact hstep
  have gone : ∀ r ∈ (none : Option Nat), StepOk r := fun r hr => by cases hr
  apply seated_modChannel
  · unfold rateRecord
    split
    · exact table.of_record (fun _ => id) table.defaultStep table.currentStep pending
    · split
      · exact table.of_record (fun _ => id) hstep table.currentStep gone
      · exact table.of_record (fun _ => id) hstep chosen gone
  · unfold rateRecord
    split
    · exact { place with }
    · split <;> exact { place with }

theorem playLaw_setRate (n : LinkId) (tag : Byte) (p : List Byte) (h : PlayLaw s) : PlayLaw (setRate n tag p s) := by
  unfold setRate
  split
  · next ch held _ _ =>
    refine PlayLaw.of_play ?_ (play_respond ..)
    exact h.modChannel (seated_rateRecord (h.seats ch) (clampStep_ok _) held)
  · exact h.of_play (play_refuse ..)

/-! ### Ticks, gates and microseconds -/

theorem playLaw_tick (levels : BitVec 8) (h : PlayLaw s) : PlayLaw (tick levels s) :=
  h.of_seats (dir_tick levels s) (allSeated_tick levels h.seats)

theorem playLaw_gateEnd (h : PlayLaw s) : PlayLaw (gateEnd s) := h.of_seats (dir_gateEnd s) (allSeated_gateEnd h.seats)

theorem playLaw_microsecond (h : PlayLaw s) : PlayLaw (microsecond s) :=
  h.of_seats (dir_microsecond s) (allSeated_microsecond h.seats)

end Sys2Proof.Machine
end

-- ==== The segment commands and the resets keep the play law ====
section
/-! SUPPORT. A slot without references may change its content, for no entry names it: CREATE_SEGMENT, FINISH_SEGMENT,
ABANDON_SEGMENT, DELETE_SEGMENT and LINK_RESET. With the power-on state, the play law's step lemma. -/

namespace Sys2Proof.Machine

open Sys2Proof

variable {s t : State}

/-- The play law reads the directory, the tables and the channels alone. -/
theorem PlayLaw.congr (h : PlayLaw s) (hslots : t.slots = s.slots) (htables : t.tables = s.tables)
    (hchannels : t.channels = s.channels) : PlayLaw t := by
  cases s
  cases t
  dsimp only at hslots htables hchannels
  subst hslots htables hchannels
  exact h

/-- A slot without references takes another content without any, of the least length where it is not FREE (R2, R28). -/
theorem PlayLaw.setSlot (h : PlayLaw s) {id : SegId} {y : Slot} (hcount : (look s.slots id).refCount = 0)
    (hy : y.refCount = 0) (hlength : isFree y = false → 64 ≤ slotLength y) (hslots : t.slots = put s.slots id y)
    (htables : t.tables = s.tables) (hchannels : t.channels = s.channels) : PlayLaw t := by
  obtain ⟨href, hlen, hseats⟩ := playLaw_iff.mp h
  have same : ∀ j, j ≠ id → look t.slots j = look s.slots j := fun j hj => by rw [hslots, look_put_ne _ _ hj.symm]
  have own : look t.slots id = y := by rw [hslots, look_put_same]
  have refs : ∀ j, references t j = references s j := references_congr fun ch j => by rw [chanRefs, htables]; rfl
  have unnamed : references s id = 0 := (href id).1 ▸ hcount
  have kept : ∀ {ch : ChanId} {b : Bank}, b = (look s.tables ch).active ∨ b = (look s.tables ch).staged →
      ∀ {x : SlotIx} {e : Entry}, look b.slots x = some e → segmentLength t e.segment = segmentLength s e.segment := by
    intro ch b hb x e he
    have hne : e.segment ≠ id := fun hs => by
      have := (href.ready_of_named hb he).1
      rw [hs, unnamed] at this
      exact absurd this (Nat.lt_irrefl 0)
    unfold segmentLength
    rw [same _ hne]
  refine playLaw_iff.mpr ⟨fun j => ?_, fun j hj => ?_, fun ch => ?_⟩
  · by_cases hj : j = id
    · rw [refs, hj, own, hy, unnamed]
      exact ⟨rfl, fun _ => rfl⟩
    · rw [refs, same j hj]
      exact href j
  · by_cases hid : j = id
    · rw [hid, own] at hj ⊢
      exact hlength hj
    · rw [same j hid] at hj ⊢
      exact hlen j hj
  · obtain ⟨table, place⟩ := hseats ch
    unfold SeatedAt TabledAt
    have hrefs : chanRefs t ch = chanRefs s ch := funext fun j => by rw [chanRefs, htables]; rfl
    rw [hrefs, htables, hchannels]
    refine ⟨{ table with activeFilled := fun x e he => ?_, stagedFilled := fun x e he => ?_ },
      { place with index := fun hm => ?_ }⟩
    · rw [kept (.inl rfl) he]
      exact table.activeFilled x e he
    · rw [kept (.inr rfl) he]
      exact table.stagedFilled x e he
    · have hindex := place.index hm
      cases he : look (look s.tables ch).active.slots (look s.channels ch).entry with
      | none => rwa [he] at hindex
      | some e =>
        rw [he] at hindex
        exact hindex.trans_eq (kept (.inl rfl) he).symm

/-- A slot that is not READY has no references (R28). -/
theorem RefLaw.refCount_zero (h : RefLaw s) {id : SegId} (hready : isReady (look s.slots id) = false) :
    (look s.slots id).refCount = 0 :=
  (h id).2 hready

theorem isReady_opened {x : Slot} {owner : LinkId} {length : Nat} {extent : Extent}
    (h : x.body = .opened owner length extent) : isReady x = false := by simp [isReady, h]

theorem isReady_free {x : Slot} (h : isFree x = true) : isReady x = false := by
  unfold isFree at h
  unfold isReady
  cases hb : x.body <;> simp [hb] at h ⊢

theorem lowestFree_free {id : SegId} (h : lowestFree s = some id) : isFree (look s.slots id) = true := by
  have := List.find?_some h
  exact this

/-- What freeing a segment does to the directory and to nothing else of the play view. -/
theorem freeSegment_eq {id : SegId} {e : Extent} (h : slotExtent (look s.slots id) = some e) :
    freeSegment id s = { s with slots := put s.slots id Slot.empty, free := freeInto e s.free } := by
  unfold freeSegment
  rw [h]
  rfl

/-- Freeing a segment without references keeps the play law. -/
theorem playLaw_freeSegment (h : PlayLaw s) {id : SegId} (hcount : (look s.slots id).refCount = 0) :
    PlayLaw (freeSegment id s) := by
  cases he : slotExtent (look s.slots id) with
  | none =>
    unfold freeSegment
    rw [he]
    exact h
  | some e =>
    rw [freeSegment_eq he]
    exact h.setSlot hcount rfl (fun hf => by simp [isFree, Slot.empty] at hf) rfl rfl rfl

theorem refCount_of_play (h : t.play = s.play) (id : SegId) : (look t.slots id).refCount = (look s.slots id).refCount :=
  refCount_of_dir (dir_of_play h) id

theorem playLaw_createSegment (n : LinkId) (tag : Byte) (p : List Byte) (h : PlayLaw s) :
    PlayLaw (createSegment n tag p s) := by
  unfold createSegment
  dsimp only
  split
  · exact h.of_play (play_refuse ..)
  · next hrange =>
    have hlength : 64 ≤ fieldAt p 0 4 := by
      simp only [Bool.or_eq_true, decide_eq_true_eq] at hrange
      omega
    split
    · exact h.of_play (play_refuse ..)
    · next id hid =>
      split
      · exact h.of_play (play_respond ..)
      · refine PlayLaw.of_play ?_ ((play_execute ..).trans (play_raise ..))
        refine h.setSlot (h.1.refCount_zero (isReady_free (lowestFree_free hid)))
          (y := ⟨.opened n (fieldAt p 0 4) ⟨_, _⟩, 0, 0, true⟩) rfl
          (fun _ => hlength) rfl rfl rfl

theorem playLaw_finishSegment (n : LinkId) (tag : Byte) (p : List Byte) (h : PlayLaw s) :
    PlayLaw (finishSegment n tag p s) := by
  unfold finishSegment
  dsimp only
  split
  · next owner length extent hbody =>
    split
    · exact h.of_play (play_refuse ..)
    · refine PlayLaw.of_play ?_ ((play_respond ..).trans (play_raise ..))
      have hcount := h.1.refCount_zero (isReady_opened hbody)
      have hlength : 64 ≤ slotLength (look s.slots (segmentAt p 0)) := h.2.1 _ (by simp [isFree, hbody])
      have hl : slotLength (look s.slots (segmentAt p 0)) = length := by simp only [slotLength, hbody]
      refine h.setSlot hcount
        (y := { look s.slots (segmentAt p 0) with body := .ready length extent (BitVec.ofNat 32 (fieldAt p 1 4)) })
        hcount (fun _ => ?_) rfl rfl rfl
      simp only [slotLength]
      omega
  · exact h.of_play (play_refuse ..)
  · exact h.of_play (play_refuse ..)

theorem playLaw_abandonSegment (n : LinkId) (tag : Byte) (p : List Byte) (h : PlayLaw s) :
    PlayLaw (abandonSegment n tag p s) := by
  unfold abandonSegment
  dsimp only
  split
  · next owner length extent hbody =>
    split
    · exact h.of_play (play_refuse ..)
    · have dropped := play_dropSegmentRecords (segmentAt p 0) s
      refine PlayLaw.of_play (playLaw_freeSegment (h.of_play dropped) ?_)
        ((play_respond ..).trans ((play_raise ..).trans (play_presentWriteSide _)))
      rw [refCount_of_play dropped]
      exact h.1.refCount_zero (isReady_opened hbody)
  · exact h.of_play (play_refuse ..)
  · exact h.of_play (play_refuse ..)

theorem playLaw_deleteSegment (n : LinkId) (tag : Byte) (p : List Byte) (h : PlayLaw s) :
    PlayLaw (deleteSegment n tag p s) := by
  unfold deleteSegment
  dsimp only
  split
  · next length extent label hbody =>
    split
    · exact h.of_play (play_refuse ..)
    · split
      · exact h.of_play (play_refuse ..)
      · next hcount _ =>
        have dropped := (play_dropSegmentRecords (segmentAt p 0) (withdrawScrub extent s)).trans
          (play_withdrawScrub extent s)
        refine PlayLaw.of_play (playLaw_freeSegment (h.of_play dropped) ?_)
          ((play_respond ..).trans ((play_raise ..).trans (play_presentWriteSide _)))
        rw [refCount_of_play dropped]
        omega
  · exact h.of_play (play_refuse ..)
  · exact h.of_play (play_refuse ..)

theorem isReady_owned {n : LinkId} {x : Slot} (h : ownedBy n x = true) : isReady x = false := by
  unfold ownedBy at h
  unfold isReady
  cases hb : x.body <;> simp [hb] at h ⊢

theorem playLaw_freeOwned (n : LinkId) (id : SegId) (h : PlayLaw s) : PlayLaw (freeOwned n id s) := by
  unfold freeOwned
  split
  · next hown =>
    have dropped := play_dropSegmentRecords id s
    refine playLaw_freeSegment (h.of_play dropped) ?_
    rw [refCount_of_play dropped]
    exact h.1.refCount_zero (isReady_owned hown)
  · exact h

/-- What every one of the ids keeps, freeing all of the link's segments keeps. -/
theorem freeAllOwned_law {P : State → Prop} {n : LinkId} (hP : ∀ id u, P u → P (freeOwned n id u)) (h : P s) :
    P (freeAllOwned n s) := by
  have fold : ∀ (l : List SegId) (u : State), P u → P (l.foldl (fun s id => freeOwned n id s) u) := by
    intro l
    induction l with
    | nil => exact fun _ hu => hu
    | cons id l ih => exact fun u hu => ih _ (hP id u hu)
  unfold freeAllOwned
  exact fold _ s h

theorem releaseEditor_banks (n : LinkId) (t : Tables) :
    (releaseEditor n t).active = t.active ∧ (releaseEditor n t).staged = t.staged := by
  unfold releaseEditor
  split <;> exact ⟨rfl, rfl⟩

theorem playLaw_editorsReleased (n : LinkId) (h : PlayLaw s) : PlayLaw (editorsReleased n s) := by
  have release : ∀ (ch : ChanId) (u : State), PlayLaw u → PlayLaw (u.modTables ch (releaseEditor n)) := fun ch u hu =>
    hu.modTables (fun t => (releaseEditor_banks n t).1) fun t => (releaseEditor_banks n t).2
  exact release 3 _ (release 2 _ (release 1 _ (release 0 _ h)))

theorem playLaw_linkResets (n : LinkId) (h : PlayLaw s) : PlayLaw (linkResets n s) := by
  have freed : PlayLaw (freeAllOwned n (linkSilenced n s)) :=
    freeAllOwned_law (P := PlayLaw) (fun id _ hu => playLaw_freeOwned n id hu) (h.of_play (play_linkSilenced n s))
  have released := playLaw_editorsReleased n freed
  rw [linkResets_eq]
  refine PlayLaw.of_play ?_ (play_presentWriteSide _)
  split
  · exact released.of_play (play_raiseOn ..)
  · exact released

/-! ### Power-on -/

/-- The play law holds right after a power-on reset. -/
theorem playLaw_reset : PlayLaw State.reset := by
  have banks : ∀ id, bankRefs Bank.empty id = 0 := fun id => List.countP_eq_zero.mpr fun x _ => by simp [Bank.empty]
  have slots : ∀ id, look State.reset.slots id = Slot.empty := look_replicate _
  have tables : ∀ ch, look State.reset.tables ch = Tables.reset := look_replicate _
  have channels : ∀ ch, look State.reset.channels ch = Channel.reset := look_replicate _
  have refs : ∀ ch id, chanRefs State.reset ch id = 0 := fun ch id => by
    rw [chanRefs, tables]
    simp only [Tables.reset, banks]
  refine ⟨fun id => ?_, fun id hid => ?_, fun ch => ⟨?_, ?_⟩⟩
  · rw [references_eq]
    simp only [refs, slots]
    exact ⟨rfl, fun _ => rfl⟩
  · rw [slots] at hid
    cases hid
  · unfold PlaceLaw
    rw [channels]
    exact ⟨fun hm => absurd rfl hm, fun x hx => (Option.not_mem_none x hx).elim, ChannelMode.noConfusion,
      ChannelMode.noConfusion⟩
  · have steps : stepsInRange Bank.empty = true := by simp [stepsInRange, Bank.empty]
    unfold TableLaw
    rw [channels, tables]
    exact ⟨rfl, steps, steps, Nat.zero_le 64, fun k hk => (Option.not_mem_none k hk).elim, by decide, by decide,
      by decide, by decide, fun r hr => (Option.not_mem_none r hr).elim⟩

/-! ### Every command -/

/-- Every command keeps the play law. -/
theorem exec_playLaw {c : Instr} (h : PlayLaw s) (hexec : exec c s = .next t) : PlayLaw t := by
  by_cases hp : Instr.playsNothing c = true
  · exact h.of_play (exec_play hp hexec)
  have frame : ∀ {n tag code p judge}, Host.Outcome.next (takeFrame n tag code p judge s) =
      (Host.Outcome.next t : Result) → (∀ u, PlayLaw u → PlayLaw (judge u)) → PlayLaw t := by
    intro n tag code p judge e hj
    cases e
    exact playLaw_takeFrame hj n tag code p h
  have ticks : ∀ {levels} {b : Bool}, Host.Outcome.next (if b then tick levels s else s) =
      (Host.Outcome.next t : Result) → PlayLaw t := by
    intro levels b e
    cases e
    split
    · exact playLaw_tick levels h
    · exact h
  cases c with
  | powerOnReset selected =>
    cases hexec
    exact playLaw_reset.congr rfl rfl rfl
  | linkReset n =>
    cases hexec
    exact playLaw_linkResets n h
  | createSegment n tag p => exact frame hexec fun _ => playLaw_createSegment n tag p
  | finishSegment n tag p => exact frame hexec fun _ => playLaw_finishSegment n tag p
  | abandonSegment n tag p => exact frame hexec fun _ => playLaw_abandonSegment n tag p
  | deleteSegment n tag p => exact frame hexec fun _ => playLaw_deleteSegment n tag p
  | writeEntry n tag p => exact frame hexec fun _ => playLaw_writeEntry n tag p
  | clearEntry n tag p => exact frame hexec fun _ => playLaw_clearEntry n tag p
  | setTableEnd n tag p => exact frame hexec fun _ => playLaw_setTableEnd n tag p
  | commitTable n tag p => exact frame hexec fun _ => playLaw_commitTable n tag p
  | cancelCommit n tag p => exact frame hexec fun _ => playLaw_cancelCommit n tag p
  | discardStaged n tag p => exact frame hexec fun _ => playLaw_discardStaged n tag p
  | start n tag p => exact frame hexec fun _ => playLaw_startChannels n tag p
  | stop n tag p => exact frame hexec fun _ => playLaw_stopChannels n tag p
  | channelStatus n tag p => exact frame hexec fun _ => playLaw_channelStatus n tag p
  | setScale n tag p => exact frame hexec fun _ => playLaw_setScale n tag p
  | setRate n tag p => exact frame hexec fun _ => playLaw_setRate n tag p
  | setChannelConfig n tag p => exact frame hexec fun _ => playLaw_setChannelConfig n tag p
  | outputTick levels =>
    obtain rfl : tick levels s = t := Host.Outcome.next.inj hexec
    exact playLaw_tick levels h
  | conditionFiring k levels => exact ticks hexec
  | holdoffExpiry k levels => exact ticks hexec
  | passEnd ch levels => exact ticks hexec
  | markerPulseEnd i levels => exact ticks hexec
  | measurementGateEnd =>
    cases hexec
    exact playLaw_gateEnd h
  | _ => exact absurd rfl hp

/-- A law that no queue is part of, kept by every command and by the microsecond, is kept by every step. -/
theorem step_law {P : State → Prop} (hqueue : ∀ (u : State) (q : List Instr), P u → P { u with pending := q })
    (hmicro : ∀ u, P u → P (microsecond u)) (hexec : ∀ c u v, P u → exec c u = .next v → P v) (h : P s)
    (hstep : Sys2Proof.Machine.step s = .next t) : P t := by
  unfold step at hstep
  split at hstep
  · obtain rfl := Host.Outcome.next.inj hstep
    exact hmicro s h
  · exact hexec _ _ t (hqueue s _ h) hstep

/-- Settles O54: the laws of references, lengths and seats are kept by every command and by the microsecond. -/
theorem stepsKeepThePlayLaw : Obligations.StepsKeepThePlayLaw := by
  unfold Obligations.StepsKeepThePlayLaw
  intro s t h hstep
  exact step_law (P := PlayLaw) (fun _ _ hu => hu.congr rfl rfl rfl) (fun _ => playLaw_microsecond)
    (fun _ _ _ => exec_playLaw) h hstep

end Sys2Proof.Machine
end

-- ==== Extents: allocation, freeing and the layout law ====
section
/-! SUPPORT. First fit and coalescing over the free-extent list (R5, R6), and the layout law (R4) they keep. -/

namespace Sys2Proof.Machine

open Sys2Proof

/-! ### First fit -/

theorem allocate_cons (b : Nat) (x : Extent) (xs : List Extent) :
    allocate b (x :: xs) =
      if b ≤ x.count then
        some (x.first, if x.count = b then xs else ⟨x.first + b, x.count - b⟩ :: xs)
      else (allocate b xs).map fun r => (r.1, x :: r.2) := by
  rw [allocate]
  split
  · split <;> rfl
  · rfl

/-- What first fit takes and what it leaves (R5). -/
theorem allocate_some {b first : Nat} {l rest : List Extent} (h : allocate b l = some (first, rest)) :
    ∃ pre x post, l = pre ++ x :: post ∧ (∀ e ∈ pre, e.count < b) ∧ b ≤ x.count ∧ first = x.first ∧
      rest = pre ++ (if x.count = b then post else ⟨x.first + b, x.count - b⟩ :: post) := by
  induction l generalizing rest with
  | nil => cases h
  | cons x xs ih =>
    rw [allocate_cons] at h
    split at h
    · next hb =>
      simp only [Option.some.injEq, Prod.mk.injEq] at h
      obtain ⟨rfl, rfl⟩ := h
      exact ⟨[], x, xs, rfl, by simp, hb, rfl, rfl⟩
    · next hb =>
      obtain ⟨⟨first', rest'⟩, hr, he⟩ := Option.map_eq_some_iff.mp h
      simp only [Prod.mk.injEq] at he
      obtain ⟨rfl, rfl⟩ := he
      obtain ⟨pre, y, post, rfl, hpre, hy, hf, hrest⟩ := ih hr
      refine ⟨x :: pre, y, post, rfl, fun e he => ?_, hy, hf, by rw [hrest]; rfl⟩
      obtain rfl | he := List.mem_cons.mp he
      · omega
      · exact hpre e he

theorem allocate_none {b : Nat} {l : List Extent} (h : allocate b l = none) : ∀ e ∈ l, e.count < b := by
  induction l with
  | nil => simp
  | cons x xs ih =>
    rw [allocate_cons] at h
    split at h
    · cases h
    · next hb =>
      intro e he
      obtain rfl | he := List.mem_cons.mp he
      · omega
      · exact ih (Option.map_eq_none_iff.mp h) e he

/-! ### The blocks a list of extents holds -/

/-- The extent holds the block. -/
def Extent.holdsBlock (e : Extent) (b : Nat) : Bool := e.first ≤ b && b < e.first + e.count

theorem holdsBlock_iff {e : Extent} {b : Nat} : e.holdsBlock b = true ↔ e.first ≤ b ∧ b < e.first + e.count := by
  simp [Extent.holdsBlock]

/-- How many extents of the list hold the block. -/
def holders (l : List Extent) (b : Nat) : Nat := l.countP fun e => e.holdsBlock b

theorem holders_cons (e : Extent) (l : List Extent) (b : Nat) :
    holders (e :: l) b = holders l b + if e.holdsBlock b then 1 else 0 := List.countP_cons ..

theorem holders_append (l m : List Extent) (b : Nat) : holders (l ++ m) b = holders l b + holders m b :=
  List.countP_append

/-- Two extents end to end hold what the one they make up holds. -/
theorem holdsBlock_join {x e : Extent} (h : x.first + x.count = e.first) (b : Nat) :
    (if Extent.holdsBlock ⟨x.first, x.count + e.count⟩ b then 1 else 0) =
      (if x.holdsBlock b then 1 else 0) + (if e.holdsBlock b then 1 else 0) := by
  simp only [holdsBlock_iff]
  split_ifs <;> omega

theorem holders_joinAbove (e : Extent) (l : List Extent) (b : Nat) :
    holders (joinAbove e l) b = holders (e :: l) b := by
  cases l with
  | nil => rfl
  | cons y ys =>
    rw [joinAbove]
    split
    · next h => rw [holders_cons, holdsBlock_join h, holders_cons, holders_cons]; omega
    · rfl

/-- Freeing an extent adds its blocks to the list and no others (R6). -/
theorem holders_freeInto (e : Extent) (l : List Extent) (b : Nat) :
    holders (freeInto e l) b = holders (e :: l) b := by
  induction l with
  | nil => rfl
  | cons x xs ih =>
    rw [freeInto]
    split
    · next h => rw [holders_joinAbove, holders_cons, holdsBlock_join h, holders_cons, holders_cons]; omega
    · split
      · exact holders_joinAbove ..
      · rw [holders_cons, ih, holders_cons, holders_cons, holders_cons]; omega

/-- First fit takes the blocks it answers from the list and no others (R5). -/
theorem holders_allocate {b first : Nat} {l rest : List Extent} (h : allocate b l = some (first, rest)) (blk : Nat) :
    holders l blk = holders rest blk + if Extent.holdsBlock ⟨first, b⟩ blk then 1 else 0 := by
  obtain ⟨pre, x, post, rfl, -, hx, rfl, rfl⟩ := allocate_some h
  rw [holders_append, holders_append, holders_cons]
  obtain ⟨first, count⟩ := x
  dsimp only at hx ⊢
  by_cases hc : count = b
  · subst hc
    rw [if_pos rfl]
    omega
  · have parts := holdsBlock_join (x := ⟨first, b⟩) (e := ⟨first + b, count - b⟩) rfl blk
    dsimp only at parts
    rw [show b + (count - b) = count by omega] at parts
    rw [if_neg hc, holders_cons]
    omega

/-! ### Gaps -/

/-- The list's first extent begins above a bound. -/
def Above (lo : Nat) (l : List Extent) : Prop := ∀ e ∈ l.head?, lo < e.first

theorem above_cons {lo : Nat} {x : Extent} {xs : List Extent} : Above lo (x :: xs) ↔ lo < x.first := by simp [Above]

theorem gapped_cons {x : Extent} {xs : List Extent} :
    gapped (x :: xs) = true ↔ Above (x.first + x.count) xs ∧ gapped xs = true := by
  cases xs with
  | nil => simp [gapped, Above]
  | cons y ys => simp [gapped, Above]

/-- What the end and the beginning of the first extent are is all the rest's gaps depend on. -/
theorem gapped_joinAbove {e : Extent} {l : List Extent} (hl : gapped l = true)
    (he : ∀ y ∈ l.head?, e.first + e.count ≤ y.first) : gapped (joinAbove e l) = true := by
  cases l with
  | nil => simp [joinAbove, gapped]
  | cons y ys =>
    have hy := he y rfl
    rw [joinAbove]
    split
    · next h =>
      obtain ⟨above, hys⟩ := gapped_cons.mp hl
      refine gapped_cons.mpr ⟨?_, hys⟩
      rw [show e.first + (e.count + y.count) = y.first + y.count by omega]
      exact above
    · exact gapped_cons.mpr ⟨above_cons.mpr (by omega), hl⟩

theorem above_joinAbove {lo : Nat} {e : Extent} (l : List Extent) (h : lo < e.first) : Above lo (joinAbove e l) := by
  cases l with
  | nil => exact above_cons.mpr h
  | cons y ys =>
    rw [joinAbove]
    split <;> exact above_cons.mpr h

theorem above_freeInto {lo : Nat} {e : Extent} {l : List Extent} (he : lo < e.first) (hl : Above lo l) :
    Above lo (freeInto e l) := by
  cases l with
  | nil => exact above_cons.mpr he
  | cons x xs =>
    have hx := above_cons.mp hl
    rw [freeInto]
    split
    · exact above_joinAbove xs hx
    · split
      · exact above_joinAbove (x :: xs) he
      · exact above_cons.mpr hx

/-- The two extents share no block. -/
def Apart (x e : Extent) : Prop := x.first + x.count ≤ e.first ∨ e.first + e.count ≤ x.first

/-- Freeing an extent apart from the free ones leaves gaps between all of them (R6). -/
theorem gapped_freeInto {e : Extent} (he : 1 ≤ e.count) {l : List Extent} (hl : gapped l = true)
    (hcount : ∀ x ∈ l, 1 ≤ x.count) (hapart : ∀ x ∈ l, Apart x e) : gapped (freeInto e l) = true := by
  induction l with
  | nil => simp [freeInto, gapped]
  | cons x xs ih =>
    obtain ⟨above, hxs⟩ := gapped_cons.mp hl
    have hx : Apart x e := hapart x (by simp)
    unfold Apart at hx
    rw [freeInto]
    split
    · next h =>
      refine gapped_joinAbove hxs fun y hy => ?_
      have hmem : y ∈ x :: xs := List.mem_cons_of_mem _ (List.mem_of_mem_head? hy)
      have := above y hy
      have := hcount y hmem
      have hyapart : Apart y e := hapart y hmem
      unfold Apart at hyapart
      show x.first + (x.count + e.count) ≤ y.first
      omega
    · split
      · refine gapped_joinAbove hl fun y hy => ?_
        cases hy
        omega
      · have tail := ih hxs (fun y hy => hcount y (by simp [hy])) fun y hy => hapart y (by simp [hy])
        exact gapped_cons.mpr ⟨above_freeInto (by omega) above, tail⟩

theorem above_trans {lo : Nat} {x : Extent} {xs : List Extent} (hx : lo < x.first)
    (h : Above (x.first + x.count) xs) : Above lo xs := fun y hy => by
  have := h y hy
  omega

/-- First fit leaves gaps between the free extents. -/
theorem gapped_allocate {b first : Nat} {l rest : List Extent} (hl : gapped l = true)
    (h : allocate b l = some (first, rest)) : gapped rest = true ∧ ∀ lo, Above lo l → Above lo rest := by
  induction l generalizing first rest with
  | nil => cases h
  | cons x xs ih =>
    obtain ⟨above, hxs⟩ := gapped_cons.mp hl
    rw [allocate_cons] at h
    split at h
    · simp only [Option.some.injEq, Prod.mk.injEq] at h
      obtain ⟨-, rfl⟩ := h
      split
      · exact ⟨hxs, fun lo hlo => above_trans (above_cons.mp hlo) above⟩
      · refine ⟨gapped_cons.mpr ⟨?_, hxs⟩, fun lo hlo => above_cons.mpr ?_⟩
        · show Above (x.first + b + (x.count - b)) xs
          rw [show x.first + b + (x.count - b) = x.first + x.count by omega]
          exact above
        · have := above_cons.mp hlo
          show lo < x.first + b
          omega
    · obtain ⟨⟨first', rest'⟩, hr, he⟩ := Option.map_eq_some_iff.mp h
      simp only [Prod.mk.injEq] at he
      obtain ⟨-, rfl⟩ := he
      obtain ⟨tail, keeps⟩ := ih hxs hr
      exact ⟨gapped_cons.mpr ⟨keeps _ above, tail⟩, fun lo hlo => above_cons.mpr (above_cons.mp hlo)⟩

/-- Settles O15. -/
theorem extentsAreTakenFirstFitAndJoined : Obligations.ExtentsAreTakenFirstFitAndJoined := by
  unfold Obligations.ExtentsAreTakenFirstFitAndJoined
  exact ⟨fun b l => ⟨fun _ _ h => allocate_some h, allocate_none⟩,
    fun e l => ⟨holders_freeInto e l, fun hl he hcount hapart => gapped_freeInto he hl hcount hapart⟩⟩

/-! ### The layout law -/

theorem inStore_iff {e : Extent} : e.inStore = true ↔ 1 ≤ e.count ∧ e.first + e.count ≤ 16384 := by
  simp [Extent.inStore]

theorem inStore_joinAbove {e : Extent} {l : List Extent} (he : e.inStore = true) (hl : ∀ x ∈ l, x.inStore = true) :
    ∀ x ∈ joinAbove e l, x.inStore = true := by
  cases l with
  | nil => simpa [joinAbove] using he
  | cons y ys =>
    have hy := inStore_iff.mp (hl y (by simp))
    rw [joinAbove]
    split
    · next h =>
      intro x hx
      obtain rfl | hx := List.mem_cons.mp hx
      · rw [inStore_iff] at he ⊢
        dsimp only
        omega
      · exact hl x (by simp [hx])
    · intro x hx
      obtain rfl | hx := List.mem_cons.mp hx
      · exact he
      · exact hl x hx

theorem inStore_freeInto {e : Extent} {l : List Extent} (he : e.inStore = true) (hl : ∀ x ∈ l, x.inStore = true) :
    ∀ x ∈ freeInto e l, x.inStore = true := by
  induction l with
  | nil => simpa [freeInto] using he
  | cons x xs ih =>
    have hx := inStore_iff.mp (hl x (by simp))
    have hxs : ∀ y ∈ xs, y.inStore = true := fun y hy => hl y (by simp [hy])
    rw [freeInto]
    split
    · refine inStore_joinAbove ?_ hxs
      rw [inStore_iff] at he ⊢
      dsimp only
      omega
    · split
      · exact inStore_joinAbove he hl
      · intro y hy
        obtain rfl | hy := List.mem_cons.mp hy
        · exact hl y (by simp)
        · exact ih hxs y hy

theorem inStore_allocate {b first : Nat} {l rest : List Extent} (hl : ∀ x ∈ l, x.inStore = true) (hb : 1 ≤ b)
    (h : allocate b l = some (first, rest)) :
    Extent.inStore ⟨first, b⟩ = true ∧ ∀ x ∈ rest, x.inStore = true := by
  obtain ⟨pre, x, post, rfl, -, hx, rfl, rfl⟩ := allocate_some h
  have hin := inStore_iff.mp (hl x (by simp))
  refine ⟨inStore_iff.mpr ⟨hb, by dsimp only; omega⟩, fun y hy => ?_⟩
  obtain hy | hy := List.mem_append.mp hy
  · exact hl y (by simp [hy])
  · split at hy
    · exact hl y (by simp [hy])
    · obtain rfl | hy := List.mem_cons.mp hy
      · exact inStore_iff.mpr ⟨by dsimp only; omega, by dsimp only; omega⟩
      · exact hl y (by simp [hy])

variable {s t : State}

/-- How many slots' extents hold the block. -/
def slotHolders (s : State) (b : Nat) : Nat :=
  (List.finRange 256).countP fun id => (slotExtent (look s.slots id)).any fun e => e.holdsBlock b

theorem blockHolders_eq (s : State) (b : Nat) : blockHolders s b = slotHolders s b + holders s.free b := rfl

/-- The layout law reads the layout alone. -/
theorem LayoutLaw.of_layout (h : LayoutLaw s) (hlayout : t.layout = s.layout) : LayoutLaw t := by
  have hfree : t.free = s.free := congrArg Layout.free hlayout
  have hextent : ∀ id, slotExtent (look t.slots id) = slotExtent (look s.slots id) :=
    congrFun (congrArg Layout.extent hlayout)
  obtain ⟨hblocks, hgapped, hin, hslots⟩ := h
  refine ⟨fun b hb => ?_, hfree ▸ hgapped, hfree ▸ hin, fun id => (hextent id).symm ▸ hslots id⟩
  rw [blockHolders_eq, slotHolders, hfree]
  simp only [hextent]
  exact hblocks b hb

theorem slotHolders_put (s : State) (id : SegId) (x : Slot) (b : Nat) (ht : t.slots = put s.slots id x) :
    slotHolders t b + (if (slotExtent (look s.slots id)).any fun e => e.holdsBlock b then 1 else 0) =
      slotHolders s b + if (slotExtent x).any fun e => e.holdsBlock b then 1 else 0 := by
  rw [slotHolders, ht]
  exact countP_put s.slots id x fun y : Slot => (slotExtent y).any fun e => e.holdsBlock b

/-- A FREE slot takes an extent that first fit gave it (R5). -/
theorem layoutLaw_take (h : LayoutLaw s) {id : SegId} {x : Slot} {b first : Nat} {rest : List Extent}
    (hold : slotExtent (look s.slots id) = none) (hb : 1 ≤ b) (halloc : allocate b s.free = some (first, rest))
    (hx : slotExtent x = some ⟨first, b⟩) (hslots : t.slots = put s.slots id x) (hfree : t.free = rest) :
    LayoutLaw t := by
  obtain ⟨hblocks, hgapped, hin, hextents⟩ := h
  obtain ⟨hnew, hrest⟩ := inStore_allocate hin hb halloc
  refine ⟨fun blk hblk => ?_, hfree ▸ (gapped_allocate hgapped halloc).1, hfree ▸ hrest, fun j e he => ?_⟩
  · have hslot := slotHolders_put s id x blk hslots
    rw [hold, hx] at hslot
    simp only [Option.any_none, Option.any_some, Bool.false_eq_true, if_false] at hslot
    have := holders_allocate halloc blk
    have := hblocks blk hblk
    rw [blockHolders_eq] at this ⊢
    rw [hfree]
    omega
  · rw [hslots, look_put] at he
    split at he
    · rw [hx] at he
      cases he
      exact hnew
    · exact hextents j e he

/-- A slot's extent is apart from the free ones. -/
theorem LayoutLaw.apart (h : LayoutLaw s) {id : SegId} {e x : Extent} (he : slotExtent (look s.slots id) = some e)
    (hx : x ∈ s.free) : Apart x e := by
  obtain ⟨hblocks, -, hin, hextents⟩ := h
  have hxin := inStore_iff.mp (hin x hx)
  have hein := inStore_iff.mp (hextents id e he)
  unfold Apart
  by_contra hover
  have own : e.holdsBlock (max e.first x.first) = true := holdsBlock_iff.mpr (by omega)
  have free : x.holdsBlock (max e.first x.first) = true := holdsBlock_iff.mpr (by omega)
  have hs : 0 < slotHolders s (max e.first x.first) :=
    List.countP_pos_iff.mpr ⟨id, List.mem_finRange id, by rw [he]; exact own⟩
  have hf : 0 < holders s.free (max e.first x.first) := List.countP_pos_iff.mpr ⟨x, hx, free⟩
  have := hblocks (max e.first x.first) (by omega)
  rw [blockHolders_eq] at this
  omega

/-- A slot gives its extent back to the free list (R6). -/
theorem layoutLaw_freeSegment (h : LayoutLaw s) (id : SegId) : LayoutLaw (freeSegment id s) := by
  cases he : slotExtent (look s.slots id) with
  | none =>
    unfold freeSegment
    rw [he]
    exact h
  | some e =>
    rw [freeSegment_eq he]
    have apart := fun x hx => h.apart (x := x) he hx
    obtain ⟨hblocks, hgapped, hin, hextents⟩ := h
    have hein := hextents id e he
    refine ⟨fun blk hblk => ?_, ?_, inStore_freeInto hein hin, fun j f hf => ?_⟩
    · have hslot := slotHolders_put (t := { s with slots := put s.slots id Slot.empty, free := freeInto e s.free })
        s id Slot.empty blk rfl
      have hempty : slotExtent Slot.empty = none := rfl
      rw [he, hempty] at hslot
      simp only [Option.any_none, Option.any_some, Bool.false_eq_true, if_false] at hslot
      have := hblocks blk hblk
      rw [blockHolders_eq] at this ⊢
      rw [holders_freeInto, holders_cons]
      omega
    · exact gapped_freeInto (inStore_iff.mp hein).1 hgapped (fun x hx => (inStore_iff.mp (hin x hx)).1) apart
    · rw [look_put] at hf
      split at hf
      · cases hf
      · exact hextents j f hf

theorem LayoutLaw.of_play (h : LayoutLaw s) (hplay : t.play = s.play) : LayoutLaw t :=
  h.of_layout (layout_of_dir (dir_of_play hplay))

theorem slotExtent_of_free {x : Slot} (h : isFree x = true) : slotExtent x = none := by
  unfold isFree at h
  unfold slotExtent
  cases hb : x.body <;> simp [hb] at h ⊢

theorem layoutLaw_createSegment (n : LinkId) (tag : Byte) (p : List Byte) (h : LayoutLaw s) :
    LayoutLaw (createSegment n tag p s) := by
  unfold createSegment
  dsimp only
  split
  · exact h.of_play (play_refuse ..)
  · next hrange =>
    have hblocks : 1 ≤ blocksFor (fieldAt p 0 4) := by
      simp only [Bool.or_eq_true, decide_eq_true_eq] at hrange
      unfold blocksFor
      omega
    split
    · exact h.of_play (play_refuse ..)
    · next id hid =>
      split
      · exact h.of_play (play_respond ..)
      · next first rest halloc =>
        refine LayoutLaw.of_play ?_ ((play_execute ..).trans (play_raise ..))
        exact layoutLaw_take h (slotExtent_of_free (lowestFree_free hid)) hblocks halloc
          (x := ⟨.opened n (fieldAt p 0 4) ⟨first, blocksFor (fieldAt p 0 4)⟩, 0, 0, true⟩) rfl rfl rfl

theorem layoutLaw_abandonSegment (n : LinkId) (tag : Byte) (p : List Byte) (h : LayoutLaw s) :
    LayoutLaw (abandonSegment n tag p s) := by
  unfold abandonSegment
  dsimp only
  split
  · split
    · exact h.of_play (play_refuse ..)
    · exact (layoutLaw_freeSegment (h.of_play (play_dropSegmentRecords ..)) _).of_play
        ((play_respond ..).trans ((play_raise ..).trans (play_presentWriteSide _)))
  · exact h.of_play (play_refuse ..)
  · exact h.of_play (play_refuse ..)

theorem layoutLaw_deleteSegment (n : LinkId) (tag : Byte) (p : List Byte) (h : LayoutLaw s) :
    LayoutLaw (deleteSegment n tag p s) := by
  unfold deleteSegment
  dsimp only
  split
  · next extent _ _ =>
    split
    · exact h.of_play (play_refuse ..)
    · split
      · exact h.of_play (play_refuse ..)
      · have dropped := (play_dropSegmentRecords (segmentAt p 0) (withdrawScrub extent s)).trans
          (play_withdrawScrub extent s)
        exact (layoutLaw_freeSegment (h.of_play dropped) _).of_play
          ((play_respond ..).trans ((play_raise ..).trans (play_presentWriteSide _)))
  · exact h.of_play (play_refuse ..)
  · exact h.of_play (play_refuse ..)

theorem layoutLaw_freeOwned (n : LinkId) (id : SegId) (h : LayoutLaw s) : LayoutLaw (freeOwned n id s) := by
  unfold freeOwned
  split
  · exact layoutLaw_freeSegment (h.of_play (play_dropSegmentRecords ..)) id
  · exact h

/-- The layout law holds right after a power-on reset: the one free extent is the store. -/
theorem layoutLaw_reset : LayoutLaw State.reset := by
  have none : ∀ id, slotExtent (look State.reset.slots id) = none := fun id => by
    rw [show look State.reset.slots id = Slot.empty from look_replicate _ id]
    rfl
  refine ⟨fun b hb => ?_, rfl, by decide, fun id e he => by rw [none] at he; cases he⟩
  have slots : slotHolders State.reset b = 0 := List.countP_eq_zero.mpr fun id _ => by simp [none]
  rw [blockHolders_eq, slots]
  simp [holders, State.reset, Extent.holdsBlock, hb]

/-- Every command keeps the layout law. -/
theorem exec_layoutLaw {c : Instr} (h : LayoutLaw s) (hexec : exec c s = .next t) : LayoutLaw t := by
  by_cases hc : Instr.rearranges c = false
  · exact h.of_layout (exec_layout hc hexec)
  have frame : ∀ {n tag code p judge}, Host.Outcome.next (takeFrame n tag code p judge s) =
      (Host.Outcome.next t : Result) → (∀ u, LayoutLaw u → LayoutLaw (judge u)) → LayoutLaw t := by
    intro n tag code p judge e hj
    cases e
    exact takeFrame_law (P := LayoutLaw) (fun _ _ _ hu => hu.of_play rfl) hj n tag code p h
  cases c with
  | powerOnReset selected =>
    cases hexec
    exact layoutLaw_reset
  | linkReset n =>
    cases hexec
    exact (freeAllOwned_law (P := LayoutLaw) (fun id _ hu => layoutLaw_freeOwned n id hu)
      (h.of_play (play_linkSilenced n s))).of_layout (layout_of_dir (dir_linkResets n s))
  | createSegment n tag p => exact frame hexec fun _ => layoutLaw_createSegment n tag p
  | abandonSegment n tag p => exact frame hexec fun _ => layoutLaw_abandonSegment n tag p
  | deleteSegment n tag p => exact frame hexec fun _ => layoutLaw_deleteSegment n tag p
  | _ => exact absurd rfl hc

/-- Settles O55: five commands move extents, each between the directory and the free list; no other touches one. -/
theorem stepsKeepTheLayoutLaw : Obligations.StepsKeepTheLayoutLaw := by
  unfold Obligations.StepsKeepTheLayoutLaw
  intro s t h hstep
  exact step_law (P := LayoutLaw) (fun _ _ hu => hu) (fun u hu => hu.of_layout (layout_of_dir (dir_microsecond u)))
    (fun _ _ _ => exec_layoutLaw) h hstep

end Sys2Proof.Machine
end

-- ==== The state after a power-on reset ====
section
/-! SUPPORT. What each block holds right after reset, and the laws there. -/

namespace Sys2Proof.Machine

open Sys2Proof

theorem reset_slot (id : SegId) : look State.reset.slots id = Slot.empty := look_replicate _ id
theorem reset_tables (ch : ChanId) : look State.reset.tables ch = Tables.reset := look_replicate _ ch
theorem reset_channel (ch : ChanId) : look State.reset.channels ch = Channel.reset := look_replicate _ ch
theorem reset_prefetch (ch : ChanId) : look State.reset.prefetch ch = Prefetch.reset := look_replicate _ ch
theorem reset_cond (k : CondId) : look State.reset.trigger.conds k = Condition.reset := look_replicate _ k
theorem reset_pin (i : PinId) : look State.reset.pins i = MarkerPin.reset := look_replicate _ i
theorem reset_pattern (ch : ChanId) : look State.reset.patterns ch = 0#4 := look_replicate _ ch
theorem reset_link (n : LinkId) : look State.reset.links n = Link.reset := look_replicate _ n
theorem empty_slot (x : SlotIx) : look Bank.empty.slots x = none := look_replicate _ x

/-- Settles O4: every unit's record is its block's power-on record. -/
theorem resetHoldsThePowerOnValues : Obligations.ResetHoldsThePowerOnValues := by
  unfold Obligations.ResetHoldsThePowerOnValues
  dsimp only
  simp only [reset_slot, reset_tables, reset_channel, reset_prefetch, reset_cond, reset_pin, reset_pattern, reset_link]
  refine ⟨fun _ => ?slots, rfl, fun _ => ⟨fun x => ⟨empty_slot x, empty_slot x⟩, ?tables⟩, fun _ => ?channels,
    fun _ => rfl, rfl, rfl, fun _ => ?pins, fun _ => trivial, rfl, fun _ => ?prefetch, rfl, rfl, rfl, rfl, rfl, rfl,
    fun _ => ?links⟩
  case slots => exact ⟨rfl, rfl, rfl, rfl⟩
  case tables => exact ⟨rfl, rfl, rfl, rfl, rfl, rfl⟩
  case channels => repeat' constructor
  case pins => exact ⟨rfl, rfl, rfl, rfl⟩
  case prefetch => exact ⟨rfl, rfl, rfl, rfl⟩
  case links => exact ⟨rfl, rfl, rfl, rfl⟩

theorem linkLaw_reset : LinkLaw State.reset := fun n h => by
  rw [reset_link] at h
  cases h

theorem oneRequestLaw_reset : OneRequestLaw State.reset := by
  refine ⟨fun ch h => ?_, fun h => Bool.noConfusion h, fun h => Bool.noConfusion h⟩
  rw [reset_prefetch] at h
  cases h

theorem prefetchLaw_reset : PrefetchLaw State.reset := by
  intro ch
  have unread : wantedRead State.reset ch = none := rfl
  rw [reset_prefetch, unread]
  refine ⟨Nat.zero_le 64, ?_, ?_, ?_, fun _ => ⟨rfl, rfl, rfl⟩⟩
  · exact fun l hl => absurd hl List.not_mem_nil
  · exact fun r hr => absurd hr (Option.not_mem_none r)
  · exact fun r hr => absurd hr (Option.not_mem_none r)

theorem pendingLaw_reset : PendingLaw State.reset := fun ch => by
  rw [reset_channel]
  exact ⟨fun _ => ⟨rfl, rfl, rfl⟩, fun _ => rfl⟩

theorem editorLaw_reset : EditorLaw State.reset := fun ch h => by
  rw [reset_channel] at h
  cases h

theorem markLaw_reset : MarkLaw State.reset := ⟨Nat.zero_le 4, List.nodup_nil⟩

theorem writeBackLaw_reset : WriteBackLaw State.reset := ⟨Nat.zero_le 8, List.nodup_nil, fun r hr => by cases hr⟩

theorem errorLogLaw_reset : ErrorLogLaw State.reset := ⟨fun _ => ⟨rfl, rfl, rfl⟩, fun r hr => by cases hr⟩

theorem monitorLaw_reset : MonitorLaw State.reset := by decide

/-- Settles O60. -/
theorem resetKeepsEveryLaw : Obligations.ResetKeepsEveryLaw := by
  unfold Obligations.ResetKeepsEveryLaw
  exact ⟨playLaw_reset, layoutLaw_reset, editorLaw_reset, pendingLaw_reset, reset_store_wf, markLaw_reset,
    writeBackLaw_reset, linkLaw_reset, oneRequestLaw_reset, prefetchLaw_reset, errorLogLaw_reset, monitorLaw_reset⟩

end Sys2Proof.Machine
end

-- ==== Frames that are taken: payloads, answers, long commands begun ====
section
/-! SUPPORT. The payloads of the library's commands read back (R178), and what a taken frame leaves: the answer held
(R165) or the long command begun with its first request (R123, R170). -/

namespace Sys2Proof.Machine

open Sys2Proof

/-! ### Payloads -/

theorem fieldAt_leBytes {k n : Nat} (h : n < 256 ^ k) : fieldAt (leBytes k n) 0 k = n := by
  have := fieldAt_leBytes_append [] k n
  rwa [List.append_nil, Nat.mod_eq_of_lt h] at this

/-- A field written after other bytes reads back. -/
theorem fieldAt_written {a p : List Byte} {i k n : Nat} (hi : a.length = i) (h : n < 256 ^ k) :
    fieldAt (a ++ (leBytes k n ++ p)) i k = n := by
  have := fieldAt_append_right a (leBytes k n ++ p) k 0
  rw [Nat.add_zero, hi, fieldAt_leBytes_append, Nat.mod_eq_of_lt h] at this
  exact this

/-- FINISH_SEGMENT's payload: id, tag. -/
theorem fieldAt_label (b : Byte) {n : Nat} (h : n < 4294967296) : fieldAt (b :: leBytes 4 n) 1 4 = n := by
  rw [fieldAt_cons_succ]
  exact fieldAt_leBytes h

/-- The payload of WRITE_SAMPLES: id, offset, sample count, samples (spec 10 section 10.7.2). -/
def writePayload (id : SegId) (offset count : Nat) (samples : List Code) : List Byte :=
  oneByte id.val :: (leBytes 4 offset ++ leBytes 2 count ++ samples.flatMap fun c => leBytes 2 c.toNat)

/-- The payload of READ_SAMPLES: id, offset, sample count. -/
def readPayload (id : SegId) (offset count : Nat) : List Byte :=
  oneByte id.val :: (leBytes 4 offset ++ leBytes 2 count)

theorem readPayload_eq (id : SegId) (offset count : Nat) : readPayload id offset count = writePayload id offset count [] := by
  simp [readPayload, writePayload]

theorem length_samples (samples : List Code) :
    (samples.flatMap fun c => leBytes 2 c.toNat).length = 2 * samples.length := by
  induction samples with
  | nil => rfl
  | cons c cs ih => simp only [List.flatMap_cons, List.length_append, length_leBytes, ih, List.length_cons]; omega

theorem writePayload_length (id : SegId) (offset count : Nat) (samples : List Code) :
    (writePayload id offset count samples).length = 7 + 2 * samples.length := by
  simp only [writePayload, List.length_cons, List.length_append, length_leBytes, length_samples]
  omega

theorem readPayload_length (id : SegId) (offset count : Nat) : (readPayload id offset count).length = 7 := by
  rw [readPayload_eq, writePayload_length]
  rfl

theorem segmentAt_writePayload (id : SegId) (offset count : Nat) (samples : List Code) :
    segmentAt (writePayload id offset count samples) 0 = id := segmentAt_oneByte id _

theorem offset_writePayload (id : SegId) {offset : Nat} (count : Nat) (samples : List Code) (h : offset < 4294967296) :
    fieldAt (writePayload id offset count samples) 1 4 = offset := by
  rw [writePayload, List.append_assoc]
  exact fieldAt_written (a := [oneByte id.val]) (k := 4) rfl h

theorem count_writePayload (id : SegId) (offset : Nat) {count : Nat} (samples : List Code) (h : count < 65536) :
    fieldAt (writePayload id offset count samples) 5 2 = count := by
  rw [writePayload, List.append_assoc]
  exact fieldAt_written (a := oneByte id.val :: leBytes 4 offset) (k := 2) (by simp) h

theorem codeAt_samples (samples : List Code) : ∀ j < samples.length,
    codeAt (samples.flatMap fun c => leBytes 2 c.toNat) (2 * j) = samples.getD j 0#16 := by
  induction samples with
  | nil => intro j hj; cases hj
  | cons c cs ih =>
    intro j hj
    rw [List.flatMap_cons]
    cases j with
    | zero =>
      have hc : c.toNat % 256 ^ 2 = c.toNat := Nat.mod_eq_of_lt c.isLt
      rw [codeAt, Nat.mul_zero, fieldAt_leBytes_append, hc]
      exact (BitVec.ofNat_toNat 16 c).trans (BitVec.setWidth_eq c)
    | succ j =>
      have shift : 2 * (j + 1) = (leBytes 2 c.toNat).length + 2 * j := by rw [length_leBytes]; omega
      rw [codeAt, shift, fieldAt_append_right]
      exact ih j (by simpa using hj)

/-- A frame's sample codes are the ones its writer put there. -/
theorem samplesAt_writePayload (id : SegId) (offset count : Nat) (samples : List Code) :
    samplesAt (writePayload id offset count samples) = samples := by
  have number : (7 + 2 * samples.length - 7) / 2 = samples.length := by omega
  rw [samplesAt, writePayload_length, number]
  refine List.ext_getElem (by simp) fun j h1 h2 => ?_
  have header : (oneByte id.val :: (leBytes 4 offset ++ leBytes 2 count)).length = 7 := by simp
  rw [List.getElem_map, List.getElem_range, codeAt, writePayload, ← List.cons_append, ← header, fieldAt_append_right]
  have := codeAt_samples samples j h2
  rw [codeAt] at this
  rw [this]
  simp [h2]

/-! ### The answer a link holds -/

variable {s u : State} {n : LinkId}

theorem look_inBothSets (f : EventFlag) (links : Vector Link 2) (m : LinkId) :
    look (inBothSets f links) m = { look links m with flags := (look links m).flags ||| flagBit f } := by
  simp [look, inBothSets, flagBit]

theorem raise_links (s : State) (f : EventFlag) : (s.raise f).links = inBothSets f s.links :=
  vector_ext_look fun m => by rw [State.raise_links_look, look_inBothSets]

/-- A link's record once it has driven zeros under a frame of `len` payload bytes. -/
def heardFrame (n : LinkId) (len : Nat) (links : Vector Link 2) : Vector Link 2 :=
  put links n { look links n with sdo := List.replicate (5 + len) 0#8 }

/-- The state in which a taken frame of `len` payload bytes is judged: its zeros driven (R166). -/
def heard (n : LinkId) (len : Nat) (s : State) : State := { s with links := heardFrame n len s.links }

theorem look_heardFrame_ne {m : LinkId} (len : Nat) (links : Vector Link 2) (h : n ≠ m) :
    look (heardFrame n len links) m = look links m := look_put_ne _ _ h

theorem inBothSets_heardFrame (f : EventFlag) (n : LinkId) (len : Nat) (links : Vector Link 2) :
    inBothSets f (heardFrame n len links) = heardFrame n len (inBothSets f links) := by
  apply vector_ext_look
  intro m
  by_cases h : n = m
  · subst h
    simp [heardFrame, look_inBothSets]
  · simp [heardFrame, look_inBothSets, h]

/-- The state of a link that has heard the frame and responds is the state of the statements. -/
theorem respond_heard (tag : Byte) (status : Status) (payload : List Byte) {len : Nat} {links : Vector Link 2}
    (h : u.links = heardFrame n len links) :
    respond n tag status payload u = { u with links := answered n len tag status payload links } := by
  rw [respond_eq, h]
  congr 1
  apply vector_ext_look
  intro m
  by_cases hm : n = m
  · subst hm
    simp [heardFrame, answered, flagBit, flagPos]
  · simp [heardFrame, answered, hm]

/-- The same after an event of the part that both links are told of. -/
theorem respond_heard_raised (tag : Byte) (status : Status) (payload : List Byte) (f : EventFlag) {len : Nat}
    {links : Vector Link 2} (h : u.links = heardFrame n len links) :
    respond n tag status payload (u.raise f) =
      { u with links := answered n len tag status payload (inBothSets f links) } := by
  have told : (u.raise f).links = heardFrame n len (inBothSets f links) := by
    rw [raise_links, h, inBothSets_heardFrame]
  rw [respond_heard tag status payload told]
  rfl

/-- A frame that a link takes is judged in the state in which its zeros have been driven (R166, R169). -/
theorem takeFrame_taken {code : Byte} {payload : List Byte} (tag : Byte) (judge : State → State) (h : Takes s n)
    (hfit : payload.length ≤ 2056) (hlayout : layoutAllows code payload.length ≠ some false) :
    takeFrame n tag code payload judge s = judge (heard n payload.length s) := by
  obtain ⟨⟨hreset, hignore⟩, hphase⟩ := h
  exact takeFrame_judged tag judge hreset hignore hphase hfit hlayout

/-- A taken frame whose judgement responds at once changes the link's own record and nothing else. -/
theorem exec_responds {c : Instr} {code tag : Byte} {payload p : List Byte} {status : Status} {judge : State → State}
    (hexec : exec c s = .next (takeFrame n tag code payload judge s)) (h : Takes s n) {len : Nat}
    (hlen : payload.length = len) (hfit : len ≤ 2056) (hlayout : layoutAllows code len ≠ some false)
    (hjudge : judge (heard n len s) = respond n tag status p (heard n len s)) :
    exec c s = .next { s with links := answered n len tag status p s.links } := by
  subst hlen
  rw [hexec, takeFrame_taken tag judge h hfit hlayout, hjudge, respond_heard tag status p rfl]
  rfl

/-! ### A long command begun -/

/-- An accepted long command asks at once for its first transfer where the link has none, waiting or on the port
(R123, R170). -/
theorem execute_eq (tag : Byte) (work : LongWork) (hrequest : (look u.links n).request = none)
    (hport : linkInTransfer u n = false) :
    execute n tag work u = { u with links := put u.links n { look u.links n with
      phase := .executing tag work, request := workRequest work } } := by
  have record : look (u.modLink n fun l => { l with phase := .executing tag work }).links n =
      { look u.links n with phase := .executing tag work } := look_put_same ..
  have port : linkInTransfer (u.modLink n fun l => { l with phase := .executing tag work }) n = false := hport
  rw [execute, presentLink, record, hrequest]
  dsimp only
  rw [port]
  simp only [Option.isSome_none, Bool.or_self, Bool.false_eq_true, if_false, State.modLink, look_put_same]
  congr 1
  apply vector_ext_look
  intro m
  simp only [look_put]
  split <;> rfl

/-- The state of a link that has heard the frame and begins its command is the state of the statements. -/
theorem execute_heard (tag : Byte) (work : LongWork) {len : Nat} {links : Vector Link 2}
    (h : u.links = heardFrame n len links) (hrequest : (look links n).request = none)
    (hport : linkInTransfer u n = false) :
    execute n tag work u = { u with links := nowExecuting n len tag work (workRequest work) links } := by
  rw [execute_eq tag work (by rw [h, heardFrame, look_put_same]; exact hrequest) hport, h]
  congr 1
  apply vector_ext_look
  intro m
  by_cases hm : n = m
  · subst hm
    simp [heardFrame, nowExecuting]
  · simp [heardFrame, nowExecuting, hm]

end Sys2Proof.Machine
end

-- ==== The library's commands judged ====
section
/-! SUPPORT. For each command of the waveform library the outcome of its checks in their order (R9, R12, R15 to R18), as an
equation per outcome, and with them the refusals of the library. -/

namespace Sys2Proof.Machine

open Sys2Proof

variable {s u : State} {n owner : LinkId} {tag : Byte} {p : List Byte} {id : SegId} {length : Nat} {extent : Extent}

theorem exists_ready {x : Slot} (h : isReady x = true) : ∃ length extent label, x.body = .ready length extent label := by
  unfold isReady at h
  cases hb : x.body with
  | ready length extent label => exact ⟨length, extent, label, rfl⟩
  | _ => simp [hb] at h

/-- A slot that is not OPEN is FREE or READY. -/
theorem free_or_ready {x : Slot} (h : isOpen x = false) :
    x.body = .free ∨ ∃ length extent label, x.body = .ready length extent label := by
  unfold isOpen at h
  cases hb : x.body with
  | free => exact .inl rfl
  | ready length extent label => exact .inr ⟨length, extent, label, rfl⟩
  | opened => simp [hb] at h

/-- A slot that is not READY is FREE or OPEN. -/
theorem free_or_opened {x : Slot} (h : isReady x = false) :
    x.body = .free ∨ ∃ owner length extent, x.body = .opened owner length extent := by
  unfold isReady at h
  cases hb : x.body with
  | free => exact .inl rfl
  | opened owner length extent => exact .inr ⟨owner, length, extent, rfl⟩
  | ready => simp [hb] at h

theorem isFree_iff {x : Slot} : isFree x = true ↔ x.body = .free := by
  unfold isFree
  cases hb : x.body <;> simp

/-! ### The lowest FREE id -/

theorem lowestFree_none (h : ∀ id : SegId, (look s.slots id).body ≠ .free) : lowestFree s = none :=
  List.find?_eq_none.mpr fun id _ hfree => h id (isFree_iff.mp hfree)

/-- The lowest FREE id is the FREE one with none below it (R5). -/
theorem lowestFree_eq (hid : (look s.slots id).body = .free) (hmin : ∀ j : SegId, j < id → (look s.slots j).body ≠ .free) :
    lowestFree s = some id := by
  rw [lowestFree, ← Fin.find?_eq_find?_finRange, Fin.find?_eq_some_iff]
  exact ⟨isFree_iff.mpr hid, fun j hj => Bool.eq_false_iff.mpr fun hfree => hmin j hj (isFree_iff.mp hfree)⟩

/-! ### CREATE_SEGMENT (R9) -/

theorem createSegment_outOfRange (hp : fieldAt p 0 4 = length) (h : length < 64 ∨ 1048576 < length) :
    createSegment n tag p u = respond n tag .outOfRange [] u := by
  simp only [createSegment, hp, Bool.or_eq_true, decide_eq_true_eq, if_pos h]
  rfl

theorem createSegment_noId (hp : fieldAt p 0 4 = length) (h1 : 64 ≤ length) (h2 : length ≤ 1048576)
    (hfree : lowestFree u = none) : createSegment n tag p u = respond n tag .noId [] u := by
  have h : ¬ (length < 64 ∨ 1048576 < length) := by omega
  simp only [createSegment, hp, Bool.or_eq_true, decide_eq_true_eq, if_neg h, hfree]
  rfl

theorem createSegment_noSpace (hp : fieldAt p 0 4 = length) (h1 : 64 ≤ length) (h2 : length ≤ 1048576)
    (hfree : lowestFree u = some id) (halloc : allocate (blocksFor length) u.free = none) :
    createSegment n tag p u = respond n tag .noSpace (leBytes 2 (largestFree u.free)) u := by
  have h : ¬ (length < 64 ∨ 1048576 < length) := by omega
  simp only [createSegment, hp, Bool.or_eq_true, decide_eq_true_eq, if_neg h, hfree, halloc]

theorem createSegment_accepted {first : Nat} {rest : List Extent} (hp : fieldAt p 0 4 = length) (h1 : 64 ≤ length)
    (h2 : length ≤ 1048576) (hfree : lowestFree u = some id)
    (halloc : allocate (blocksFor length) u.free = some (first, rest)) :
    createSegment n tag p u =
      execute n tag (.zeroFill id (16 * first) (16 * (first + blocksFor length)))
        (State.raise { u with
          free := rest
          slots := put u.slots id ⟨.opened n length ⟨first, blocksFor length⟩, 0, 0, true⟩ } .libraryChanged) := by
  have h : ¬ (length < 64 ∨ 1048576 < length) := by omega
  simp only [createSegment, hp, Bool.or_eq_true, decide_eq_true_eq, if_neg h, hfree, halloc]
  rfl

/-! ### FINISH_SEGMENT, ABANDON_SEGMENT, DELETE_SEGMENT (R15 to R17) -/

theorem finishSegment_wrongState (hp : segmentAt p 0 = id) (h : isOpen (look u.slots id) = false) :
    finishSegment n tag p u = respond n tag .wrongState [] u := by
  unfold finishSegment
  dsimp only
  rw [hp]
  obtain hb | ⟨_, _, _, hb⟩ := free_or_ready h <;> rw [hb] <;> rfl

theorem finishSegment_notOwner (hp : segmentAt p 0 = id) (hb : (look u.slots id).body = .opened owner length extent)
    (hne : owner ≠ n) : finishSegment n tag p u = respond n tag .notOwner [] u := by
  unfold finishSegment
  dsimp only
  rw [hp, hb]
  exact if_pos hne

theorem finishSegment_accepted (hp : segmentAt p 0 = id) (hb : (look u.slots id).body = .opened n length extent) :
    finishSegment n tag p u = respond n tag .ok [] (State.raise { u with
      slots := put u.slots id
        { look u.slots id with body := .ready length extent (BitVec.ofNat 32 (fieldAt p 1 4)) } } .libraryChanged) := by
  unfold finishSegment
  dsimp only
  rw [hp, hb]
  exact if_neg (not_not.mpr rfl)

theorem abandonSegment_wrongState (hp : segmentAt p 0 = id) (h : isOpen (look u.slots id) = false) :
    abandonSegment n tag p u = respond n tag .wrongState [] u := by
  unfold abandonSegment
  dsimp only
  rw [hp]
  obtain hb | ⟨_, _, _, hb⟩ := free_or_ready h <;> rw [hb] <;> rfl

theorem abandonSegment_notOwner (hp : segmentAt p 0 = id) (hb : (look u.slots id).body = .opened owner length extent)
    (hne : owner ≠ n) : abandonSegment n tag p u = respond n tag .notOwner [] u := by
  unfold abandonSegment
  dsimp only
  rw [hp, hb]
  exact if_pos hne

theorem abandonSegment_accepted (hp : segmentAt p 0 = id) (hb : (look u.slots id).body = .opened n length extent) :
    abandonSegment n tag p u =
      respond n tag .ok [] ((presentWriteSide (freeSegment id (dropSegmentRecords id u))).raise .libraryChanged) := by
  unfold abandonSegment
  dsimp only
  rw [hp, hb]
  exact if_neg (not_not.mpr rfl)

theorem deleteSegment_wrongState (hp : segmentAt p 0 = id) (h : isReady (look u.slots id) = false) :
    deleteSegment n tag p u = respond n tag .wrongState [] u := by
  unfold deleteSegment
  dsimp only
  rw [hp]
  obtain hb | ⟨_, _, _, hb⟩ := free_or_opened h <;> rw [hb] <;> rfl

theorem deleteSegment_referenced (hp : segmentAt p 0 = id) (h : isReady (look u.slots id) = true)
    (hcount : 0 < (look u.slots id).refCount) : deleteSegment n tag p u = respond n tag .inUse [] u := by
  obtain ⟨_, _, _, hb⟩ := exists_ready h
  unfold deleteSegment
  dsimp only
  rw [hp, hb]
  exact if_pos hcount

theorem deleteSegment_read (hp : segmentAt p 0 = id) (h : isReady (look u.slots id) = true)
    (hread : isReading (look u.links (otherLink n)) id = true) :
    deleteSegment n tag p u = respond n tag .inUse [] u := by
  obtain ⟨_, _, _, hb⟩ := exists_ready h
  unfold deleteSegment
  dsimp only
  rw [hp, hb, hread]
  exact ite_self _

theorem deleteSegment_accepted {label : BitVec 32} (hp : segmentAt p 0 = id)
    (hb : (look u.slots id).body = .ready length extent label) (hcount : (look u.slots id).refCount = 0)
    (hread : isReading (look u.links (otherLink n)) id = false) :
    deleteSegment n tag p u = respond n tag .ok []
      ((presentWriteSide (freeSegment id (dropSegmentRecords id (withdrawScrub extent u)))).raise .libraryChanged) := by
  unfold deleteSegment
  dsimp only
  rw [hp, hb, hcount, hread]
  rfl

/-! ### WRITE_SAMPLES and READ_SAMPLES (R12, R18) -/

section Samples

variable {offset count : Nat} {samples : List Code}

theorem writeSamples_badLength (hoffset : count < 65536) (h : count ≠ samples.length) :
    writeSamples n tag (writePayload id offset count samples) u = respond n tag .badLength [] u := by
  unfold writeSamples
  dsimp only
  rw [count_writePayload id offset samples hoffset, samplesAt_writePayload]
  exact if_pos h

theorem writeSamples_empty : writeSamples n tag (writePayload id offset 0 []) u = respond n tag .outOfRange [] u := by
  unfold writeSamples
  dsimp only
  rw [count_writePayload id offset [] (by decide), samplesAt_writePayload]
  rfl

/-- What WRITE_SAMPLES comes to once its count is that of its samples and in range. -/
theorem writeSamples_counted (hoffset : offset < 4294967296) (h1 : 1 ≤ samples.length) (h2 : samples.length ≤ 1024) :
    writeSamples n tag (writePayload id offset samples.length samples) u =
      match (look u.slots id).body with
      | .opened owner length _ =>
        if owner ≠ n then respond n tag .notOwner [] u
        else if length < offset + samples.length then respond n tag .outOfRange [] u
        else execute n tag (.write id (segmentBase u id) offset samples (offset / 4)
          ((offset + samples.length - 1) / 4) none) u
      | .free => respond n tag .wrongState [] u
      | .ready _ _ _ => respond n tag .wrongState [] u := by
  have hzero : (decide (samples.length = 0) || decide (1024 < samples.length)) = false := by
    simp only [Bool.or_eq_false_iff, decide_eq_false_iff_not]
    omega
  unfold writeSamples
  dsimp only
  rw [count_writePayload id offset samples (by omega), samplesAt_writePayload, segmentAt_writePayload,
    offset_writePayload id _ samples hoffset, hzero]
  simp only [ne_eq, not_true_eq_false, Bool.false_eq_true, if_false]
  cases (look u.slots id).body <;> rfl

theorem writeSamples_wrongState (hoffset : offset < 4294967296) (h1 : 1 ≤ samples.length) (h2 : samples.length ≤ 1024)
    (h : isOpen (look u.slots id) = false) :
    writeSamples n tag (writePayload id offset samples.length samples) u = respond n tag .wrongState [] u := by
  rw [writeSamples_counted hoffset h1 h2]
  obtain hb | ⟨_, _, _, hb⟩ := free_or_ready h <;> rw [hb]

theorem writeSamples_notOwner (hoffset : offset < 4294967296) (h1 : 1 ≤ samples.length) (h2 : samples.length ≤ 1024)
    (hb : (look u.slots id).body = .opened owner length extent) (hne : owner ≠ n) :
    writeSamples n tag (writePayload id offset samples.length samples) u = respond n tag .notOwner [] u := by
  rw [writeSamples_counted hoffset h1 h2, hb]
  exact if_pos hne

theorem writeSamples_outOfRange (hoffset : offset < 4294967296) (h1 : 1 ≤ samples.length) (h2 : samples.length ≤ 1024)
    (hb : (look u.slots id).body = .opened n length extent) (hlong : length < offset + samples.length) :
    writeSamples n tag (writePayload id offset samples.length samples) u = respond n tag .outOfRange [] u := by
  rw [writeSamples_counted hoffset h1 h2, hb]
  exact (if_neg (not_not.mpr rfl)).trans (if_pos hlong)

theorem writeSamples_accepted (hoffset : offset < 4294967296) (h1 : 1 ≤ samples.length) (h2 : samples.length ≤ 1024)
    (hb : (look u.slots id).body = .opened n length extent) (hfits : offset + samples.length ≤ length) :
    writeSamples n tag (writePayload id offset samples.length samples) u =
      execute n tag (.write id (segmentBase u id) offset samples (offset / 4) ((offset + samples.length - 1) / 4) none)
        u := by
  rw [writeSamples_counted hoffset h1 h2, hb]
  exact (if_neg (not_not.mpr rfl)).trans (if_neg (by omega))

theorem readSamples_count (hcount : count < 65536) (h : count = 0 ∨ 1024 < count) :
    readSamples n tag (readPayload id offset count) u = respond n tag .outOfRange [] u := by
  have hrange : (decide (count = 0) || decide (1024 < count)) = true := by simpa using h
  unfold readSamples
  dsimp only
  rw [readPayload_eq, count_writePayload id offset [] hcount, hrange]
  rfl

/-- What READ_SAMPLES comes to once its count is in range. -/
theorem readSamples_counted (hoffset : offset < 4294967296) (h1 : 1 ≤ count) (h2 : count ≤ 1024) :
    readSamples n tag (readPayload id offset count) u =
      match (look u.slots id).body with
      | .free => respond n tag .wrongState [] u
      | .opened owner _ _ =>
        if owner ≠ n then respond n tag .notOwner [] u else acceptRead n tag id offset count u
      | .ready _ _ _ => acceptRead n tag id offset count u := by
  have hrange : (decide (count = 0) || decide (1024 < count)) = false := by
    simp only [Bool.or_eq_false_iff, decide_eq_false_iff_not]
    omega
  unfold readSamples
  dsimp only
  rw [readPayload_eq, count_writePayload id offset [] (by omega), segmentAt_writePayload,
    offset_writePayload id _ [] hoffset, hrange]
  simp only [Bool.false_eq_true, if_false]
  cases (look u.slots id).body <;> rfl

theorem readSamples_wrongState (hoffset : offset < 4294967296) (h1 : 1 ≤ count) (h2 : count ≤ 1024)
    (hb : (look u.slots id).body = .free) :
    readSamples n tag (readPayload id offset count) u = respond n tag .wrongState [] u := by
  rw [readSamples_counted hoffset h1 h2, hb]

theorem readSamples_notOwner (hoffset : offset < 4294967296) (h1 : 1 ≤ count) (h2 : count ≤ 1024)
    (hb : (look u.slots id).body = .opened owner length extent) (hne : owner ≠ n) :
    readSamples n tag (readPayload id offset count) u = respond n tag .notOwner [] u := by
  rw [readSamples_counted hoffset h1 h2, hb]
  exact if_pos hne

/-- A segment the link may read: its own OPEN one, or a READY one, of this length in this extent (R18). -/
def Readable (n : LinkId) (x : Slot) (length : Nat) (extent : Extent) : Prop :=
  x.body = .opened n length extent ∨ ∃ label, x.body = .ready length extent label

theorem Readable.length_eq {x : Slot} (h : Readable n x length extent) : slotLength x = length := by
  obtain hb | ⟨label, hb⟩ := h <;> simp only [slotLength, hb]

theorem Readable.extent_eq {x : Slot} (h : Readable n x length extent) : slotExtent x = some extent := by
  rw [slotExtent_eq]
  obtain hb | ⟨label, hb⟩ := h <;> rw [hb] <;> rfl

theorem readSamples_readable (hoffset : offset < 4294967296) (h1 : 1 ≤ count) (h2 : count ≤ 1024)
    (hb : Readable n (look u.slots id) length extent) :
    readSamples n tag (readPayload id offset count) u = acceptRead n tag id offset count u := by
  rw [readSamples_counted hoffset h1 h2]
  obtain hb | ⟨label, hb⟩ := hb <;> rw [hb]
  exact if_neg (not_not.mpr rfl)

theorem readSamples_outOfRange (hoffset : offset < 4294967296) (h1 : 1 ≤ count) (h2 : count ≤ 1024)
    (hb : Readable n (look u.slots id) length extent) (hlong : length < offset + count) :
    readSamples n tag (readPayload id offset count) u = respond n tag .outOfRange [] u :=
  (readSamples_readable hoffset h1 h2 hb).trans (if_pos (hb.length_eq.trans_lt hlong))

theorem readSamples_accepted (hoffset : offset < 4294967296) (h1 : 1 ≤ count) (h2 : count ≤ 1024)
    (hb : Readable n (look u.slots id) length extent) (hfits : offset + count ≤ length) :
    readSamples n tag (readPayload id offset count) u =
      execute n tag (.read id (segmentBase u id) offset count (offset / 4) ((offset + count - 1) / 4) []) u :=
  (readSamples_readable hoffset h1 h2 hb).trans (if_neg (Nat.not_lt.mpr (hfits.trans_eq hb.length_eq.symm)))

end Samples

/-! ### The refusals -/

theorem layout_write (k : Nat) : layoutAllows 0x11#8 (7 + 2 * k) ≠ some false := by
  have h : layoutAllows 0x11#8 (7 + 2 * k) = some (7 ≤ 7 + 2 * k && (7 + 2 * k - 7) % 2 == 0) := rfl
  have hmod : (7 + 2 * k - 7) % 2 = 0 := by omega
  rw [h, hmod]
  simp

theorem refused_create {status : Status} {answer : List Byte} (h : Takes s n) (l : Nat)
    (hjudge : createSegment n tag (leBytes 4 l) (heard n 4 s) =
      respond n tag status answer (heard n 4 s)) :
    exec (.createSegment n tag (leBytes 4 l)) s =
      .next { s with links := answered n 4 tag status answer s.links } :=
  exec_responds (code := 0x10#8) rfl h (length_leBytes 4 l) (by decide) (by decide) hjudge

theorem refused_finish {status : Status} (h : Takes s n) (label : Nat)
    (hjudge : finishSegment n tag (oneByte id.val :: leBytes 4 label) (heard n 5 s) =
      respond n tag status [] (heard n 5 s)) :
    exec (.finishSegment n tag (oneByte id.val :: leBytes 4 label)) s =
      .next { s with links := answered n 5 tag status [] s.links } :=
  exec_responds (code := 0x12#8) rfl h (by simp) (by decide) (by decide) hjudge

theorem refused_abandon {status : Status} (h : Takes s n)
    (hjudge : abandonSegment n tag [oneByte id.val] (heard n 1 s) =
      respond n tag status [] (heard n 1 s)) :
    exec (.abandonSegment n tag [oneByte id.val]) s =
      .next { s with links := answered n 1 tag status [] s.links } :=
  exec_responds (code := 0x13#8) rfl h rfl (by decide) (by decide) hjudge

theorem refused_delete {status : Status} (h : Takes s n)
    (hjudge : deleteSegment n tag [oneByte id.val] (heard n 1 s) =
      respond n tag status [] (heard n 1 s)) :
    exec (.deleteSegment n tag [oneByte id.val]) s =
      .next { s with links := answered n 1 tag status [] s.links } :=
  exec_responds (code := 0x14#8) rfl h rfl (by decide) (by decide) hjudge

theorem refused_write {status : Status} {offset count : Nat} {samples : List Code} (h : Takes s n)
    (hsamples : samples.length ≤ 1024)
    (hjudge : writeSamples n tag (writePayload id offset count samples)
        (heard n (7 + 2 * samples.length) s) =
      respond n tag status [] (heard n (7 + 2 * samples.length) s)) :
    exec (.writeSamples n tag (writePayload id offset count samples)) s =
      .next { s with links := answered n (7 + 2 * samples.length) tag status [] s.links } :=
  exec_responds (code := 0x11#8) rfl h (writePayload_length ..) (by omega) (layout_write _) hjudge

theorem refused_read {status : Status} {offset count : Nat} (h : Takes s n)
    (hjudge : readSamples n tag (readPayload id offset count) (heard n 7 s) =
      respond n tag status [] (heard n 7 s)) :
    exec (.readSamples n tag (readPayload id offset count)) s =
      .next { s with links := answered n 7 tag status [] s.links } :=
  exec_responds (code := 0x15#8) rfl h (readPayload_length ..) (by decide) (by decide) hjudge

theorem isReading_heardFrame (len : Nat) (links : Vector Link 2) :
    isReading (look (heardFrame n len links) (otherLink n)) id = isReading (look links (otherLink n)) id := by
  rw [look_heardFrame_ne len links (otherLink_ne n).symm]

theorem length_pos_of_ne_nil {samples : List Code} (h : samples ≠ []) : 1 ≤ samples.length :=
  List.length_pos_iff.mpr h

/-- Settles O14, one refusal after the other by the judgement lemmas. -/
theorem libraryCommandsAreRefused : Obligations.LibraryCommandsAreRefused := by
  unfold Obligations.LibraryCommandsAreRefused
  intro n tag s h refused
  refine ⟨fun l hl hrange => ?_, fun l h1 h2 => ⟨fun hfree => ?_, fun ⟨id, hid⟩ hspace => ?_⟩, fun id label => ?_,
    fun id offset count samples hoffset hcount hsamples => ?_⟩
  · exact refused_create h l (createSegment_outOfRange (fieldAt_leBytes (k := 4) hl) hrange)
  · exact refused_create h l (createSegment_noId (fieldAt_leBytes (k := 4) (by omega)) h1 h2 (lowestFree_none hfree))
  · have halloc : allocate (blocksFor l) s.free = none := by
      cases ha : allocate (blocksFor l) s.free with
      | none => rfl
      | some r =>
        obtain ⟨pre, x, post, hsplit, -, hx, -⟩ := allocate_some (first := r.1) (rest := r.2) ha
        have := hspace x (by simp [hsplit])
        unfold blocksFor at hx
        omega
    obtain ⟨j, hj⟩ : ∃ j, lowestFree s = some j := by
      refine Option.isSome_iff_exists.mp (List.find?_isSome.mpr ⟨id, List.mem_finRange id, isFree_iff.mpr hid⟩)
    exact refused_create h l (createSegment_noSpace (id := j) (fieldAt_leBytes (k := 4) (by omega)) h1 h2 hj halloc)
  · refine ⟨fun l e hb => ⟨?_, ?_⟩, fun hopen => ⟨?_, ?_⟩, fun hready => ?_, fun hready href => ?_, fun hready hread => ?_⟩
    · exact refused_finish h label (finishSegment_notOwner (segmentAt_oneByte id _) hb (otherLink_ne n))
    · exact refused_abandon h (abandonSegment_notOwner (segmentAt_oneByte id _) hb (otherLink_ne n))
    · exact refused_finish h label (finishSegment_wrongState (segmentAt_oneByte id _) hopen)
    · exact refused_abandon h (abandonSegment_wrongState (segmentAt_oneByte id _) hopen)
    · exact refused_delete h (deleteSegment_wrongState (segmentAt_oneByte id _) hready)
    · exact refused_delete h (deleteSegment_referenced (segmentAt_oneByte id _) hready href)
    · exact refused_delete h (deleteSegment_read (segmentAt_oneByte id _) hready
        ((isReading_heardFrame 1 s.links).trans hread))
  · intro write read
    refine ⟨fun hne => ?_, fun he => ?_, fun hrange => ?_, fun hne hopen => ?_, fun h1 h2 hb => ?_,
      fun l e hb => ⟨fun hne => ?_, fun h1 h2 => ?_⟩, fun l e hb => ⟨fun hne hlong => ?_, fun h1 h2 hlong => ?_⟩,
      fun l e label hb h1 h2 hlong => ?_⟩
    · exact refused_write h hsamples (writeSamples_badLength hcount hne)
    · subst he
      exact refused_write h hsamples writeSamples_empty
    · exact refused_read h (readSamples_count hcount hrange)
    · exact refused_write h hsamples (writeSamples_wrongState hoffset (length_pos_of_ne_nil hne) hsamples hopen)
    · exact refused_read h (readSamples_wrongState hoffset h1 h2 hb)
    · exact refused_write h hsamples
        (writeSamples_notOwner hoffset (length_pos_of_ne_nil hne) hsamples hb (otherLink_ne n))
    · exact refused_read h (readSamples_notOwner hoffset h1 h2 hb (otherLink_ne n))
    · exact refused_write h hsamples (writeSamples_outOfRange hoffset (length_pos_of_ne_nil hne) hsamples hb hlong)
    · exact refused_read h (readSamples_outOfRange hoffset h1 h2 (.inl hb) hlong)
    · exact refused_read h (readSamples_outOfRange hoffset h1 h2 (.inr ⟨label, hb⟩) hlong)

end Sys2Proof.Machine
end

-- ==== The library's commands accepted ====
section
/-! SUPPORT. CREATE_SEGMENT, WRITE_SAMPLES and READ_SAMPLES begun, FINISH_SEGMENT, ABANDON_SEGMENT and DELETE_SEGMENT
carried out, the library's reports (R9, R12, R15 to R18, R20 to R22). -/

namespace Sys2Proof.Machine

open Sys2Proof

variable {s u : State} {n : LinkId} {id : SegId}

/-- A taken frame is judged, and the state the judgement leaves is the answer. -/
theorem exec_taken {c : Instr} {code tag : Byte} {payload : List Byte} {judge : State → State}
    (hexec : exec c s = .next (takeFrame n tag code payload judge s)) (h : Takes s n) {len : Nat}
    (hlen : payload.length = len) (hfit : len ≤ 2056) (hlayout : layoutAllows code len ≠ some false) :
    exec c s = .next (judge (heard n len s)) := by
  subst hlen
  rw [hexec, takeFrame_taken tag judge h hfit hlayout]

theorem blocksFor_pos {length : Nat} (h : 64 ≤ length) : 1 ≤ blocksFor length := by
  unfold blocksFor
  omega

/-- A zero-fill asks first for its extent's first line (R10). -/
theorem workRequest_zeroFill {next stop : Nat} (h : next < stop) :
    workRequest (.zeroFill id next stop) = some (.zeroWrite next) := if_pos h

theorem request_inBothSets (f : EventFlag) (links : Vector Link 2) (m : LinkId) :
    (look (inBothSets f links) m).request = (look links m).request := by rw [look_inBothSets]

/-- Settles O13: the accepted command's state, its link begun on the zero-fill. -/
theorem createSegmentOpensTheLowestFreeId : Obligations.CreateSegmentOpensTheLowestFreeId := by
  unfold Obligations.CreateSegmentOpensTheLowestFreeId
  intro n tag length id first rest s h hrequest hport h1 h2 hid hmin halloc
  have told : (State.raise { heard n 4 s with
      free := rest
      slots := put s.slots id ⟨.opened n length ⟨first, blocksFor length⟩, 0, 0, true⟩ } .libraryChanged).links =
        heardFrame n 4 (inBothSets .libraryChanged s.links) := by
    rw [raise_links, ← inBothSets_heardFrame]
    rfl
  have hpos := blocksFor_pos h1
  rw [exec_taken (code := 0x10#8) rfl h (length_leBytes 4 length) (by decide) (by decide),
    createSegment_accepted (u := heard n 4 s) (fieldAt_leBytes (k := 4) (by omega)) h1 h2 (lowestFree_eq hid hmin) halloc]
  refine congrArg _ ((execute_heard tag _ told (by rw [request_inBothSets]; exact hrequest) hport).trans ?_)
  rw [workRequest_zeroFill (by omega)]
  rfl

/-! ### The first line of a WRITE_SAMPLES or READ_SAMPLES -/

theorem wholeLine_iff {offset count line : Nat} :
    wholeLine offset count line = true ↔ offset ≤ 4 * line ∧ 4 * line + 4 ≤ offset + count := by
  simp [wholeLine]

/-- The write of a line that the written range covers begins with the line's write, of one that it does not with the
merge read (R12, R14). -/
theorem workRequest_write {base offset line last : Nat} {samples : List Code} (h : line ≤ last) :
    workRequest (.write id base offset samples line last none) =
      some (if offset ≤ 4 * line ∧ 4 * line + 4 ≤ offset + samples.length
        then .lineWrite (base + line) (mergedLine offset samples line 0#64) else .mergeRead (base + line)) := by
  rw [workRequest, if_pos h]
  by_cases hw : wholeLine offset samples.length line = true
  · rw [if_pos hw, if_pos (wholeLine_iff.mp hw)]
  · rw [if_neg hw, if_neg fun hn => hw (wholeLine_iff.mpr hn)]

theorem workRequest_read {base offset count line last : Nat} {got : List (LineData × Bool)} (h : line ≤ last) :
    workRequest (.read id base offset count line last got) = some (.sampleRead (base + line)) := if_pos h

/-- A line the written range covers holds four of the samples, in their order (R12). -/
theorem mergedLine_covered {offset line : Nat} {samples : List Code} (kept : LineData)
    (h : offset ≤ 4 * line ∧ 4 * line + 4 ≤ offset + samples.length) :
    mergedLine offset samples line kept = samples.getD (4 * line + 3 - offset) 0#16 ++
      samples.getD (4 * line + 2 - offset) 0#16 ++ samples.getD (4 * line + 1 - offset) 0#16 ++
      samples.getD (4 * line + 0 - offset) 0#16 := by
  have covered : ∀ j < 4, (decide (offset ≤ 4 * line + j) && decide (4 * line + j < offset + samples.length)) = true := by
    intro j hj
    simp only [Bool.and_eq_true, decide_eq_true_eq]
    omega
  simp only [mergedLine, packLine, covered 0 (by decide), covered 1 (by decide), covered 2 (by decide),
    covered 3 (by decide), if_true]

theorem segmentBase_of_extent {e : Extent} (h : slotExtent (look s.slots id) = some e) :
    segmentBase s id = 16 * e.first := by
  rw [segmentBase, h]
  rfl

/-- Settles O16: the accepted commands begin with the first line of the range. -/
theorem sampleCommandsBeginTheirFirstLine : Obligations.SampleCommandsBeginTheirFirstLine := by
  unfold Obligations.SampleCommandsBeginTheirFirstLine
  intro n tag id offset length extent s h hrequest hport hlength
  refine ⟨fun samples hb h1 h2 hfits => ?_, fun count hb h1 h2 hfits => ?_⟩
  · have hbase : segmentBase (heard n (7 + 2 * samples.length) s) id = 16 * extent.first :=
      segmentBase_of_extent (s := s) (by rw [slotExtent_eq, hb]; rfl)
    refine (exec_taken (code := 0x11#8) rfl h (writePayload_length id offset samples.length samples) (by omega)
      (layout_write _)).trans (congrArg _ ?_)
    refine (writeSamples_accepted (u := heard n (7 + 2 * samples.length) s) (by omega) h1 h2 hb hfits).trans ?_
    rw [hbase, execute_heard (u := heard n _ s) tag _ rfl hrequest hport, workRequest_write (by omega)]
    by_cases hwhole : offset % 4 = 0 ∧ 4 ≤ samples.length
    · have hline : 4 * (offset / 4) = offset := by omega
      have hcovered : offset ≤ 4 * (offset / 4) ∧ 4 * (offset / 4) + 4 ≤ offset + samples.length := by omega
      rw [if_pos hwhole, if_pos hcovered, mergedLine_covered _ hcovered, hline]
      simp only [Nat.add_sub_cancel_left]
      rfl
    · rw [if_neg hwhole, if_neg (by omega)]
      rfl
  · have hread : Readable n (look s.slots id) length extent := hb
    have hbase : segmentBase (heard n 7 s) id = 16 * extent.first := segmentBase_of_extent (s := s) hread.extent_eq
    refine (exec_taken (code := 0x15#8) rfl h (readPayload_length id offset count) (by decide) (by decide)).trans
      (congrArg _ ?_)
    refine (readSamples_accepted (u := heard n 7 s) (by omega) h1 h2 hread hfits).trans ?_
    rw [hbase, execute_heard (u := heard n _ s) tag _ rfl hrequest hport, workRequest_read (by omega)]
    rfl

/-! ### Segments finished and freed -/

/-- A segment's records dropped and its extent freed, as one change of the state (R6, R144, R147). -/
theorem freeSegment_dropSegmentRecords {e : Extent} (h : slotExtent (look s.slots id) = some e) :
    freeSegment id (dropSegmentRecords id s) = withdrawWriteSide (isOfSegment id) { s with
      slots := put s.slots id Slot.empty
      free := freeInto e s.free
      marks := s.marks.filter fun r => r.segment ≠ id
      writeBacks := s.writeBacks.filter fun r => r.segment ≠ id } := by
  have hslots : (dropSegmentRecords id s).slots = s.slots := by
    obtain hw | hw := withdrawWriteSide_cases (isOfSegment id)
      { s with marks := s.marks.filter fun r => r.segment ≠ id,
               writeBacks := s.writeBacks.filter fun r => r.segment ≠ id } <;> rw [dropSegmentRecords, hw]
  rw [freeSegment_eq (by rw [hslots]; exact h), hslots]
  unfold dropSegmentRecords withdrawWriteSide
  cases hw : s.writeSide with
  | none => rfl
  | some r =>
    dsimp only
    split <;> rfl

theorem isOfSegment_eq (id : SegId) : isOfSegment id = fun r => decide (r.segment = id) :=
  funext fun r => by cases r <;> rfl

/-- A segment freed and the write side's next request presented (R143). -/
theorem presentWriteSide_freed {e : Extent} (h : slotExtent (look s.slots id) = some e) :
    presentWriteSide (freeSegment id (dropSegmentRecords id s)) = { s with
      slots := put s.slots id ⟨.free, 0, 0, false⟩
      free := freeInto e s.free
      marks := s.marks.filter fun r => r.segment ≠ id
      writeBacks := s.writeBacks.filter fun r => r.segment ≠ id
      writeSide := writeSideAfter (fun r => r.segment = id) (s.marks.filter fun r => r.segment ≠ id)
        (s.writeBacks.filter fun r => r.segment ≠ id) s.arbiter.port s.writeSide } := by
  rw [freeSegment_dropSegmentRecords h, presentWriteSide_withdrawn, isOfSegment_eq]
  rfl

theorem withdrawScrub_eq (e : Extent) (s : State) :
    withdrawScrub e s = { s with scrub := { s.scrub with
      request := if scrubInTransfer s then s.scrub.request
        else s.scrub.request.filter fun a => !(16 * e.first ≤ a && a < 16 * (e.first + e.count)) } } := by
  have self : ∀ r, s.scrub.request = r → ({ s with scrub := { s.scrub with request := r } } : State) = s :=
    fun _ hr => hr ▸ rfl
  unfold withdrawScrub
  cases hr : s.scrub.request with
  | none => simp [self _ hr]
  | some a =>
    cases hport : scrubInTransfer s with
    | true => simp [self _ hr]
    | false =>
      have held : e.holdsLine a = (decide (16 * e.first ≤ a) && decide (a < 16 * (e.first + e.count))) := rfl
      rw [Option.filter, ← held]
      by_cases hin : e.holdsLine a = true <;> simp [hin, self _ hr]

/-- Settles O17: the three commands accepted. -/
theorem segmentsBecomeReadyOrFree : Obligations.SegmentsBecomeReadyOrFree := by
  unfold Obligations.SegmentsBecomeReadyOrFree
  intro n tag id length extent s h
  refine ⟨fun label hb => ?_, fun hb => ?_, fun label hb hcount hread => ?_⟩
  · have htag : BitVec.ofNat 32 (fieldAt (oneByte id.val :: leBytes 4 label.toNat) 1 4) = label := by
      rw [fieldAt_label _ label.isLt]
      exact (BitVec.ofNat_toNat 32 label).trans (BitVec.setWidth_eq label)
    rw [exec_taken (code := 0x12#8) rfl h (len := 5) (by simp) (by decide) (by decide),
      finishSegment_accepted (u := heard n 5 s) (segmentAt_oneByte id _) hb, htag,
      respond_heard_raised tag .ok [] .libraryChanged rfl]
    rfl
  · rw [exec_taken (code := 0x13#8) rfl h (len := 1) rfl (by decide) (by decide),
      abandonSegment_accepted (u := heard n 1 s) (segmentAt_oneByte id _) hb,
      presentWriteSide_freed (s := heard n 1 s) (e := extent) (congrArg SlotBody.extent hb),
      respond_heard_raised tag .ok [] .libraryChanged rfl]
    rfl
  · rw [exec_taken (code := 0x14#8) rfl h (len := 1) rfl (by decide) (by decide),
      deleteSegment_accepted (u := heard n 1 s) (segmentAt_oneByte id _) hb hcount ((isReading_heardFrame 1 s.links).trans hread),
      presentWriteSide_freed (s := withdrawScrub extent (heard n 1 s)) (e := extent)
        (by rw [withdrawScrub_eq]; exact congrArg SlotBody.extent hb), withdrawScrub_eq,
      respond_heard_raised tag .ok [] .libraryChanged rfl]
    rfl

/-! ### Reports -/

theorem carriesTag_iff {label : BitVec 32} {x : Slot} :
    carriesTag label x = true ↔ ∃ length extent, x.body = .ready length extent label := by
  unfold carriesTag
  cases x.body <;> simp

theorem freeBlocks_eq (l : List Extent) : freeBlocks l = (l.map Extent.count).sum := by
  induction l with
  | nil => rfl
  | cons e l ih => rw [freeBlocks, ih]; rfl

theorem largestFree_eq (l : List Extent) : largestFree l = (l.map Extent.count).foldr max 0 := by
  induction l with
  | nil => rfl
  | cons e l ih => rw [largestFree, ih]; rfl

/-- Settles O18: the three reports as they are formed. -/
theorem libraryQueriesReport : Obligations.LibraryQueriesReport := by
  unfold Obligations.LibraryQueriesReport
  intro n tag s h
  refine ⟨fun id => ?_, fun label => ?_, ?_⟩
  · have report : exec (.querySegment n tag [oneByte id.val]) s = .next { s with
        links := answered n 1 tag .ok (segmentRecord id (look s.slots id)) s.links } := by
      refine exec_responds (code := 0x16#8) rfl h rfl (by decide) (by decide) ?_
      rw [segmentAt_oneByte]
      rfl
    intro x tail told
    refine ⟨fun hb => ?_, fun owner length extent hb => ?_, fun length extent label hb => ?_⟩ <;>
      refine report.trans ?_ <;> unfold segmentRecord <;> rw [show (look s.slots id).body = _ from hb] <;>
      simp [tail, x, linkByte, leBytes]
  · refine ⟨idsWithTag s label, (List.pairwise_lt_finRange 256).filter _, fun id => ?_, ?_⟩
    · rw [idsWithTag, List.mem_filter, carriesTag_iff]
      exact ⟨And.right, fun hb => ⟨List.mem_finRange id, hb⟩⟩
    · have htag : BitVec.ofNat 32 (fieldAt (leBytes 4 label.toNat) 0 4) = label := by
        rw [fieldAt_leBytes (k := 4) label.isLt]
        exact (BitVec.ofNat_toNat 32 label).trans (BitVec.setWidth_eq label)
      refine exec_responds (code := 0x17#8) rfl h (length_leBytes 4 _) (by decide) (by decide) ?_
      simp only [htag, findReport, List.length_take]
      rfl
  · refine exec_responds (code := 0x18#8) rfl h rfl (by decide) (by decide) ?_
    simp only [libraryReport, freeBlocks_eq, largestFree_eq]
    rfl

end Sys2Proof.Machine
end

-- ==== The arbiter's grant ====
section
/-! SUPPORT. One grant decision: the round robin of the two prefetch classes, the link class, the scrubber and the write
side, and what the grant of a link write does to its line's mark (R3, R122, R124 to R127, R144, R146). -/

namespace Sys2Proof.Machine

open Sys2Proof

variable {s : State} {ch : ChanId} {n : LinkId}

/-! ### The choice within a class -/

theorem roundRobin_eq_find (ptr : ChanId) (test : ChanId → Bool) :
    roundRobin ptr test = (Fin.find? fun j => test (ptr + j)).map (ptr + ·) := by
  rw [Fin.find?_eq_find?_finRange]
  refine Eq.trans ?_ (List.find?_map (p := test) (f := (ptr + ·)) (l := List.finRange 4))
  change List.find? test [ptr, ptr + 1, ptr + 2, ptr + 3] = List.find? test [ptr + 0, ptr + 1, ptr + 2, ptr + 3]
  rw [add_zero]

/-- The round robin takes the first channel from the pointer that passes (R125). -/
theorem roundRobin_first {ptr : ChanId} {k : Fin 4} {test : ChanId → Bool} (hk : test (ptr + k) = true)
    (hmin : ∀ j < k, test (ptr + j) = false) : roundRobin ptr test = some (ptr + k) := by
  have h : (Fin.find? fun j => test (ptr + j)) = some k := Fin.find?_eq_some_iff.mpr ⟨hk, hmin⟩
  rw [roundRobin_eq_find, h]
  rfl

theorem roundRobin_none {ptr : ChanId} {test : ChanId → Bool} (h : ∀ ch, test ch = false) : roundRobin ptr test = none := by
  rw [roundRobin_eq_find, Fin.find?_eq_none_iff.mpr fun j => h (ptr + j)]
  rfl

theorem urgentWaits_iff :
    urgentWaits s ch = true ↔ (look s.prefetch ch).waiting.isSome ∧ (look s.prefetch ch).fifo.length < 16 := by
  simp [urgentWaits, isUrgent]

theorem calmWaits_iff :
    calmWaits s ch = true ↔ (look s.prefetch ch).waiting.isSome ∧ 16 ≤ (look s.prefetch ch).fifo.length := by
  simp [calmWaits, isUrgent]

theorem linkChoice_none (h : ∀ n : LinkId, (look s.links n).request = none) : linkChoice s = none := by
  rw [linkChoice, h 0, h 1]
  rfl

/-- The link that waits alone, or the one not named in the record (R126). -/
theorem linkChoice_eq (h : (look s.links n).request.isSome = true)
    (hturn : (look s.links (otherLink n)).request = none ∨ s.arbiter.lastLink = otherLink n) : linkChoice s = some n := by
  unfold linkChoice
  match n with
  | 0 =>
    rw [h]
    obtain hother | hlast := hturn
    · rw [show (look s.links 1).request = none from hother]
      rfl
    · rw [hlast]
      cases (look s.links 1).request <;> rfl
  | 1 =>
    rw [h]
    obtain hother | hlast := hturn
    · rw [show (look s.links 0).request = none from hother]
      rfl
    · rw [hlast]
      cases (look s.links 0).request <;> rfl

theorem class4Choice_none (h : s.scrub.request = none) (hw : s.writeSide = none) : class4Choice s = none := by
  rw [class4Choice, h, hw]
  rfl

theorem class4Choice_scrubber {a : Nat} (h : s.scrub.request = some a)
    (hturn : s.writeSide = none ∨ s.arbiter.lastClass4 = .writeSide) : class4Choice s = some .scrubber := by
  rw [class4Choice, h]
  obtain hw | hlast := hturn
  · rw [hw]
    rfl
  · rw [hlast]
    cases s.writeSide <;> rfl

theorem class4Choice_writeSide {r : WriteRequest} (h : s.writeSide = some r)
    (hturn : s.scrub.request = none ∨ s.arbiter.lastClass4 = .scrubber) : class4Choice s = some .writeSide := by
  rw [class4Choice, h]
  obtain hscrub | hlast := hturn
  · rw [hscrub]
    rfl
  · rw [hlast]
    cases s.scrub.request <;> rfl

/-! ### The grants -/

theorem grantPrefetch_eq {r : PrefetchRequest} (h : (look s.prefetch ch).waiting = some r) :
    grantPrefetch ch s = { s with
      prefetch := put s.prefetch ch { look s.prefetch ch with waiting := none }
      arbiter := { s.arbiter with port := some (.prefetch ch r true) } } := by
  rw [grantPrefetch, h]
  rfl

/-- The slots after the grant of a link write of a line: the owning segment's count falls where the line is marked (R3). -/
def slotsCleared (a : Nat) (s : State) : Vector Slot 256 :=
  if (lineAt s a).mark || onMarkList s a then
    match ownerOf s a with
    | none => s.slots
    | some id => put s.slots id { look s.slots id with poisoned := (look s.slots id).poisoned - 1 }
  else s.slots

theorem marked_iff {a : Nat} :
    ((lineAt s a).mark || onMarkList s a) = true ↔ (lineAt s a).mark = true ∨ ∃ r ∈ s.marks, r.addr = a := by
  simp [onMarkList]

theorem look_slotsCleared (a : Nat) (s : State) (id : SegId) :
    look (slotsCleared a s) id = { look s.slots id with
      poisoned := (look s.slots id).poisoned -
        if ownerOf s a = some id ∧ ((lineAt s a).mark = true ∨ ∃ r ∈ s.marks, r.addr = a) then 1 else 0 } := by
  simp only [← marked_iff]
  unfold slotsCleared
  cases (lineAt s a).mark || onMarkList s a with
  | false => simp
  | true =>
    cases howner : ownerOf s a with
    | none => simp
    | some owner =>
      obtain rfl | hne := eq_or_ne owner id
      · simp
      · simp [look_put_ne _ _ hne, hne]

/-- A withdrawal as one change of the state. -/
theorem withdrawWriteSide_eq (drop : WriteRequest → Bool) (s : State) :
    withdrawWriteSide drop s = { s with writeSide := s.writeSide.filter fun r => !drop r } := by
  have self : ∀ w, s.writeSide = w → ({ s with writeSide := w } : State) = s := fun _ e => e ▸ rfl
  unfold withdrawWriteSide
  cases hw : s.writeSide with
  | none => exact (self _ hw).symm
  | some r => cases hdrop : drop r <;> simp [Option.filter, hdrop, self _ hw]

/-- The grant of a link write takes its line's record off the list and withdraws the waiting mark write (R144). -/
theorem clearMarkAtGrant_eq (a : Nat) (s : State) :
    clearMarkAtGrant a s = withdrawWriteSide (isMarkOf a) { s with
      marks := s.marks.filter fun r => r.addr ≠ a
      slots := slotsCleared a s } := by
  simp only [clearMarkAtGrant, slotsCleared, withdrawWriteSide_eq]
  cases (lineAt s a).mark || onMarkList s a with
  | false => rfl
  | true =>
    have howner (marks : List MarkRecord) (held : Option WriteRequest) :
        ownerOf { s with marks := marks, writeSide := held } a = ownerOf s a := rfl
    rw [howner]
    cases ownerOf s a <;> rfl

theorem exec_storeGrant_busy (h : s.arbiter.port ≠ none) : exec .storeGrant s = .next s :=
  congrArg _ (if_pos (Option.isSome_iff_ne_none.mpr h))

theorem exec_storeGrant_free (h : s.arbiter.port = none) : exec .storeGrant s = .next (grantDecision s) :=
  congrArg _ (if_neg (by simp [h]))

/-! ### The decision, class by class -/

theorem grantDecision_urgent {k : Fin 4} {r : PrefetchRequest} (hk : urgentWaits s (s.arbiter.urgentPtr + k) = true)
    (hmin : ∀ j < k, urgentWaits s (s.arbiter.urgentPtr + j) = false)
    (hr : (look s.prefetch (s.arbiter.urgentPtr + k)).waiting = some r) :
    grantDecision s = { s with
      prefetch := put s.prefetch (s.arbiter.urgentPtr + k) { look s.prefetch (s.arbiter.urgentPtr + k) with waiting := none }
      arbiter := { s.arbiter with
        port := some (.prefetch (s.arbiter.urgentPtr + k) r true), urgentPtr := s.arbiter.urgentPtr + k + 1 } } := by
  simp only [grantDecision, roundRobin_first hk hmin, grantPrefetch_eq hr]

section NoneUrgent

variable (hurgent : ∀ ch, urgentWaits s ch = false)
include hurgent

theorem grantDecision_link (h : linkChoice s = some n) : grantDecision s = grantLink n s := by
  simp only [grantDecision, roundRobin_none hurgent, h]

variable (hlink : linkChoice s = none)
include hlink

theorem grantDecision_calm {k : Fin 4} {r : PrefetchRequest} (hk : calmWaits s (s.arbiter.calmPtr + k) = true)
    (hmin : ∀ j < k, calmWaits s (s.arbiter.calmPtr + j) = false)
    (hr : (look s.prefetch (s.arbiter.calmPtr + k)).waiting = some r) :
    grantDecision s = { s with
      prefetch := put s.prefetch (s.arbiter.calmPtr + k) { look s.prefetch (s.arbiter.calmPtr + k) with waiting := none }
      arbiter := { s.arbiter with
        port := some (.prefetch (s.arbiter.calmPtr + k) r true), calmPtr := s.arbiter.calmPtr + k + 1 } } := by
  simp only [grantDecision, roundRobin_none hurgent, hlink, roundRobin_first hk hmin, grantPrefetch_eq hr]

variable (hcalm : ∀ ch, calmWaits s ch = false)
include hcalm

theorem grantDecision_scrub (h : class4Choice s = some .scrubber) : grantDecision s = grantScrub s := by
  simp only [grantDecision, roundRobin_none hurgent, hlink, roundRobin_none hcalm, h]

theorem grantDecision_writeSide (h : class4Choice s = some .writeSide) : grantDecision s = grantWriteSide s := by
  simp only [grantDecision, roundRobin_none hurgent, hlink, roundRobin_none hcalm, h]

theorem grantDecision_none (h : class4Choice s = none) : grantDecision s = s := by
  simp only [grantDecision, roundRobin_none hurgent, hlink, roundRobin_none hcalm, h]

end NoneUrgent

/-! ### The grant of a link transfer -/

/-- The link's request taken and its transfer put on the port (R126). -/
def linkGranted (n : LinkId) (x : LinkXfer) (s : State) : State :=
  { s with
    links := put s.links n { look s.links n with request := none }
    arbiter := { s.arbiter with port := some (.link n x true), lastLink := n } }

theorem grantLink_eq {x : LinkXfer} (h : (look s.links n).request = some x) :
    grantLink n s = linkGrantMark x (linkGranted n x s) := by
  rw [grantLink, h]
  rfl

theorem linkGrantMark_zeroWrite (a : Nat) (s : State) :
    linkGrantMark (.zeroWrite a) s = { s with
      marks := s.marks.filter fun r => r.addr ≠ a
      writeSide := writeSideAfter (isMarkOf a) (s.marks.filter fun r => r.addr ≠ a) s.writeBacks s.arbiter.port s.writeSide } :=
  presentWriteSide_withdrawn (isMarkOf a) { s with marks := s.marks.filter fun r => r.addr ≠ a }

theorem linkGrantMark_lineWrite (a : Nat) (data : LineData) (s : State) :
    linkGrantMark (.lineWrite a data) s = { s with
      marks := s.marks.filter fun r => r.addr ≠ a
      slots := slotsCleared a s
      writeSide := writeSideAfter (isMarkOf a) (s.marks.filter fun r => r.addr ≠ a) s.writeBacks s.arbiter.port s.writeSide } := by
  rw [linkGrantMark, clearMarkAtGrant_eq, presentWriteSide_withdrawn]

/-- Settles O27: class by class, in their order. -/
theorem grantsFollowTheClasses : Obligations.GrantsFollowTheClasses := by
  unfold Obligations.GrantsFollowTheClasses
  intro s urgent calm
  have not_urgent (ch : ChanId) (h : ¬ urgent ch) : urgentWaits s ch = false :=
    Bool.eq_false_iff.mpr fun hw => h (urgentWaits_iff.mp hw)
  have not_calm (ch : ChanId) (h : ¬ calm ch) : calmWaits s ch = false :=
    Bool.eq_false_iff.mpr fun hw => h (calmWaits_iff.mp hw)
  refine ⟨exec_storeGrant_busy, fun hport => ?_⟩
  simp only [exec_storeGrant_free hport, Host.Outcome.next.injEq, exists_eq_left']
  refine ⟨fun k r hk hr hmin => ?_, fun hurgent => ?_⟩
  · exact grantDecision_urgent (urgentWaits_iff.mpr hk) (fun j hj => not_urgent _ (hmin j hj)) hr
  have hnone := fun ch => not_urgent ch (hurgent ch)
  refine ⟨fun n x hx hturn => ?_, fun hlinks => ?_⟩
  · rw [grantDecision_link hnone (linkChoice_eq (by rw [hx]; rfl) hturn), grantLink_eq hx]
    have hother : look (linkGranted n x s).links (otherLink n) = look s.links (otherLink n) :=
      look_put_ne _ _ (otherLink_ne n).symm
    cases x with
    | zeroWrite a =>
      rw [linkGrantMark_zeroWrite]
      exact ⟨rfl, look_put_same _ _ _, hother, rfl, rfl, rfl, rfl, rfl, rfl, fun _ => rfl, rfl⟩
    | lineWrite a data =>
      rw [linkGrantMark_lineWrite]
      exact ⟨rfl, look_put_same _ _ _, hother, rfl, rfl, rfl, rfl, rfl, rfl, look_slotsCleared a s, rfl⟩
    | mergeRead a => exact ⟨rfl, look_put_same _ _ _, hother, rfl, rfl, rfl, rfl, rfl, rfl, fun _ => rfl, rfl⟩
    | sampleRead a => exact ⟨rfl, look_put_same _ _ _, hother, rfl, rfl, rfl, rfl, rfl, rfl, fun _ => rfl, rfl⟩
  have hlink := linkChoice_none hlinks
  refine ⟨fun k r hk hr hmin => ?_, fun hcalm => ?_⟩
  · exact grantDecision_calm hnone hlink (calmWaits_iff.mpr hk) (fun j hj => not_calm _ (hmin j hj)) hr
  have hnone' := fun ch => not_calm ch (hcalm ch)
  refine ⟨fun a ha hturn => ?_, fun hturn => ⟨fun r hr => ?_, fun r hr => ?_⟩, fun hscrub hwrite => ?_⟩
  · rw [grantDecision_scrub hnone hlink hnone' (class4Choice_scrubber ha hturn), grantScrub, ha]
  · rw [grantDecision_writeSide hnone hlink hnone' (class4Choice_writeSide hr hturn), grantWriteSide, hr]
  · rw [grantDecision_writeSide hnone hlink hnone' (class4Choice_writeSide hr hturn), grantWriteSide, hr]
  · exact grantDecision_none hnone hlink hnone' (class4Choice_none hscrub hwrite)

end Sys2Proof.Machine
end

-- ==== The end of a read ====
section
/-! SUPPORT. What the end of a read does beyond its delivery, for every kind of read (R140 to R142, R145, R147, R153),
and what it leaves. -/

namespace Sys2Proof.Machine

open Sys2Proof

variable {s t : State} {k : ReadKind} {a : Nat}

/-! ### The outcomes acted on -/

/-- The line belongs to a segment that is not being zero-filled (R141). -/
def Concerns (s : State) (a : Nat) (id : SegId) : Prop := ownerOf s a = some id ∧ (look s.slots id).filling = false

theorem judgeRead_unconcerned (h : ∀ id, ¬ Concerns s a id) : judgeRead k a s = s := by
  unfold judgeRead
  cases howner : ownerOf s a with
  | none => rfl
  | some id =>
    cases hfilling : (look s.slots id).filling with
    | true => exact if_pos hfilling
    | false => exact absurd ⟨howner, hfilling⟩ (h id)

theorem judgeRead_concerned {id : SegId} (h : Concerns s a id) :
    judgeRead k a s = actOnOutcome k a id (lineAt s a) (classify s a) s := by
  obtain ⟨howner, hfilling⟩ := h
  rw [judgeRead, howner]
  simp only [hfilling, Bool.false_eq_true, if_false]

/-- A marked or clean line, and one of no segment or of one being zero-filled, has nothing done. -/
theorem judgeRead_quiet (h : (∀ id, ¬ Concerns s a id) ∨ classify s a = .marked ∨ classify s a = .checked .clean) :
    judgeRead k a s = s := by
  by_cases hc : ∃ id, Concerns s a id
  · obtain ⟨id, hid⟩ := hc
    rw [judgeRead_concerned hid]
    obtain h | h | h := h
    · exact absurd hid (h id)
    · rw [h]
      rfl
    · rw [h]
      rfl
  · exact judgeRead_unconcerned (not_exists.mp hc)

/-- A single-bit error is logged and, but by a merge read, its write-back offered (R140, R145). -/
theorem judgeRead_single {id : SegId} {p : Fin 72} (hid : Concerns s a id) (h : classify s a = .checked (.single p)) :
    judgeRead k a s =
      let logged := logError ⟨.correctable, readSource k, a, id, some p⟩ s
      if isMerge k then logged else offerWriteBack a id (correctedData (lineAt s a) p) logged := by
  rw [judgeRead_concerned hid, h]
  rfl

/-- A double-bit error is logged and, but by a merge read, its line marked (R140, R142). -/
theorem judgeRead_double {id : SegId} (hid : Concerns s a id) (h : classify s a = .checked .double) :
    judgeRead k a s =
      let logged := logError ⟨.uncorrectable, readSource k, a, id, none⟩ s
      if isMerge k then logged else enterMark a id logged := by
  rw [judgeRead_concerned hid, h]
  rfl

/-- Every read is quiet, or meets an error of a segment that is not being zero-filled. -/
theorem read_cases (s : State) (a : Nat) :
    ((∀ id, ¬ Concerns s a id) ∨ classify s a = .marked ∨ classify s a = .checked .clean) ∨
    (∃ id p, Concerns s a id ∧ classify s a = .checked (.single p)) ∨
    ∃ id, Concerns s a id ∧ classify s a = .checked .double := by
  by_cases hc : ∃ id, Concerns s a id
  · obtain ⟨id, hid⟩ := hc
    match h : classify s a with
    | .marked => exact .inl (.inr (.inl rfl))
    | .checked .clean => exact .inl (.inr (.inr rfl))
    | .checked (.single p) => exact .inr (.inl ⟨id, p, hid, rfl⟩)
    | .checked .double => exact .inr (.inr ⟨id, hid, rfl⟩)
  · exact .inl (.inl (not_exists.mp hc))

theorem readDelivery_single {p : Fin 72} (h : classify s a = .checked (.single p)) :
    (readDelivery s a).data = correctedData (lineAt s a) p := by
  rw [readDelivery, h]
  rfl

/-! ### What each act changes -/

theorem raise_eq (f : EventFlag) (s : State) : s.raise f = { s with links := inBothSets f s.links } :=
  congrArg (fun links => ({ s with links := links } : State)) (raise_links s f)

theorem logError_eq (r : ErrorRecord) (s : State) :
    logError r s = { s with
      log := countError r.cls (logRecord r s.log)
      links := inBothSets (errorFlag r.cls) s.links } := raise_eq _ _

theorem offerWriteBack_eq (a : Nat) (id : SegId) (data : LineData) (s : State) :
    offerWriteBack a id data s = { s with
      writeBacks := if isReady (look s.slots id) = false ∨ (∃ r ∈ s.writeBacks, r.addr = a) ∨ 8 ≤ s.writeBacks.length
        then s.writeBacks else s.writeBacks ++ [⟨a, id, data⟩] } := by
  have refused : (isReady (look s.slots id) && !(s.writeBacks.any fun r => r.addr = a) && s.writeBacks.length < 8) = true ↔
      ¬ (isReady (look s.slots id) = false ∨ (∃ r ∈ s.writeBacks, r.addr = a) ∨ 8 ≤ s.writeBacks.length) := by
    simp [and_assoc]
  unfold offerWriteBack
  by_cases h : isReady (look s.slots id) = false ∨ (∃ r ∈ s.writeBacks, r.addr = a) ∨ 8 ≤ s.writeBacks.length
  · rw [if_pos h, if_neg fun hn => refused.mp hn h]
  · rw [if_neg h, if_pos (refused.mpr h)]

theorem enterMark_full {id : SegId} (h : 4 ≤ s.marks.length) : enterMark a id s = s := if_neg (Nat.not_lt.mpr h)

theorem enterMark_room {id : SegId} (h : s.marks.length < 4) :
    enterMark a id s = withdrawWriteSide (isWriteBackOf a) { s with
      slots := put s.slots id { look s.slots id with poisoned := min ((look s.slots id).poisoned + 1) 16384 }
      marks := s.marks ++ [⟨a, id⟩]
      writeBacks := s.writeBacks.filter fun r => r.addr ≠ a } := if_pos h

/-! ### The flags of the log -/

theorem errorFlags_kept (h : ∀ n, (look t.links n).flags = (look s.links n).flags) : ErrorFlags false false s t := by
  intro n
  simp [h n]

theorem errorFlags_corrected (h : t.links = inBothSets .corrected s.links) : ErrorFlags true false s t := by
  intro n
  simp [h, look_inBothSets, flagBit, flagPos]

theorem errorFlags_uncorrectable (h : t.links = inBothSets .uncorrectable s.links) : ErrorFlags false true s t := by
  intro n
  simp [h, look_inBothSets, flagBit, flagPos]

/-! ### The column of R140's table -/

/-- The end of a read acts on its outcome as the kind's column says. -/
theorem readActed_judged (k : ReadKind) (a : Nat) (v : State) :
    ReadActed (readSource k) (isMerge k) a v (presentWriteSide (judgeRead k a (v.setPort none))) := by
  refine ⟨fun hquiet => ?_, fun id p hid h => ?_, fun id hid h => ?_⟩
  · rw [judgeRead_quiet (s := v.setPort none) hquiet, presentWriteSide_eq]
    exact ⟨rfl, rfl, rfl, rfl, errorFlags_kept fun _ => rfl, rfl⟩
  · rw [judgeRead_single (s := v.setPort none) hid h, readDelivery_single h]
    dsimp only
    rw [logError_eq]
    cases isMerge k with
    | true =>
      rw [if_pos rfl, presentWriteSide_eq]
      exact ⟨rfl, rfl, rfl, rfl, errorFlags_corrected rfl, rfl⟩
    | false =>
      rw [if_neg Bool.false_ne_true, presentWriteSide_eq, offerWriteBack_eq]
      simp only [Bool.false_eq_true, false_or]
      exact ⟨rfl, rfl, rfl, rfl, errorFlags_corrected rfl, rfl⟩
  · rw [judgeRead_double (s := v.setPort none) hid h]
    have hmarks : (logError ⟨.uncorrectable, readSource k, a, id, none⟩ (v.setPort none)).marks = v.marks := by
      rw [logError_eq]
      rfl
    dsimp only
    cases isMerge k with
    | true =>
      rw [if_pos rfl, presentWriteSide_eq, logError_eq]
      exact ⟨rfl, errorFlags_uncorrectable rfl, fun _ => ⟨rfl, rfl, rfl, rfl⟩, fun hmerge => nomatch hmerge⟩
    | false =>
      rw [if_neg Bool.false_ne_true]
      obtain hfull | hroom := Nat.lt_or_ge 3 v.marks.length
      · rw [enterMark_full (hmarks ▸ hfull), presentWriteSide_eq, logError_eq]
        exact ⟨rfl, errorFlags_uncorrectable rfl, fun _ => ⟨rfl, rfl, rfl, rfl⟩, fun _ hlt => absurd hlt (by omega)⟩
      · rw [enterMark_room (hmarks ▸ Nat.lt_succ_of_le hroom), presentWriteSide_withdrawn, logError_eq]
        exact ⟨rfl, errorFlags_uncorrectable rfl, fun hmany => absurd hmany (by simp; omega),
          fun _ _ => ⟨rfl, rfl, rfl, rfl⟩⟩

/-! ### What the end of a read leaves -/

/-- `t` differs from `s` in what the integrity unit holds, the slots and the links' flags only. -/
def IntegrityOnly (s t : State) : Prop :=
  t = { s with log := t.log, marks := t.marks, writeBacks := t.writeBacks, writeSide := t.writeSide, slots := t.slots,
               links := t.links } ∧
  ∀ m, look t.links m = { look s.links m with flags := (look t.links m).flags }

theorem IntegrityOnly.refl (s : State) : IntegrityOnly s s := ⟨rfl, fun _ => rfl⟩

theorem IntegrityOnly.trans {u : State} (h : IntegrityOnly s t) (h' : IntegrityOnly t u) : IntegrityOnly s u := by
  obtain ⟨ht, hl⟩ := h
  obtain ⟨hu, hl'⟩ := h'
  refine ⟨?_, fun m => ?_⟩
  · rw [hu, ht]
  · rw [hl' m, hl m]

theorem integrityOnly_presentWriteSide (s : State) : IntegrityOnly s (presentWriteSide s) := by
  rw [presentWriteSide_eq]
  exact ⟨rfl, fun _ => rfl⟩

theorem integrityOnly_logError (r : ErrorRecord) (s : State) : IntegrityOnly s (logError r s) := by
  rw [logError_eq]
  exact ⟨rfl, fun m => by rw [look_inBothSets]⟩

theorem integrityOnly_offerWriteBack (id : SegId) (data : LineData) (s : State) :
    IntegrityOnly s (offerWriteBack a id data s) := by
  rw [offerWriteBack_eq]
  exact ⟨rfl, fun _ => rfl⟩

theorem integrityOnly_enterMark (id : SegId) (s : State) : IntegrityOnly s (enterMark a id s) := by
  obtain h | h := Nat.lt_or_ge s.marks.length 4
  · rw [enterMark_room h, withdrawWriteSide_eq]
    exact ⟨rfl, fun _ => rfl⟩
  · rw [enterMark_full h]
    exact .refl s

theorem integrityOnly_judgeRead (k : ReadKind) (a : Nat) (s : State) : IntegrityOnly s (judgeRead k a s) := by
  obtain hquiet | ⟨id, p, hid, h⟩ | ⟨id, hid, h⟩ := read_cases s a
  · rw [judgeRead_quiet hquiet]
    exact .refl s
  · rw [judgeRead_single hid h]
    dsimp only
    split
    · exact integrityOnly_logError _ s
    · exact (integrityOnly_logError _ s).trans (integrityOnly_offerWriteBack _ _ _)
  · rw [judgeRead_double hid h]
    dsimp only
    split
    · exact integrityOnly_logError _ s
    · exact (integrityOnly_logError _ s).trans (integrityOnly_enterMark _ _)

/-- A merge read marks and offers nothing (R140). -/
theorem ReadActed.merge_keeps {source : ErrorSource} (h : ReadActed source true a s t) :
    t.marks = s.marks ∧ t.slots = s.slots ∧ t.writeBacks = s.writeBacks := by
  obtain ⟨quiet, single, double⟩ := h
  obtain hquiet | ⟨id, p, hid, h⟩ | ⟨id, hid, h⟩ := read_cases s a
  · obtain ⟨-, hmarks, hslots, hwriteBacks, -⟩ := quiet hquiet
    exact ⟨hmarks, hslots, hwriteBacks⟩
  · obtain ⟨-, hmarks, hslots, hwriteBacks, -⟩ := single id p hid h
    exact ⟨hmarks, hslots, hwriteBacks.trans (if_pos (.inl rfl))⟩
  · obtain ⟨-, -, kept, -⟩ := double id hid h
    obtain ⟨hmarks, hslots, hwriteBacks, -⟩ := kept (.inl rfl)
    exact ⟨hmarks, hslots, hwriteBacks⟩

/-- What a link does next besides changes nothing of what the read acted on. -/
theorem ReadActed.of_links {source : ErrorSource} {merge : Bool} (h : ReadActed source merge a s t)
    (links : Vector Link 2) (h32 : ∀ m, (look links m).flags.getLsbD 32 = (look t.links m).flags.getLsbD 32)
    (h33 : ∀ m, (look links m).flags.getLsbD 33 = (look t.links m).flags.getLsbD 33) :
    ReadActed source merge a s { t with links := links } := by
  have flags {corrected uncorrectable : Bool} (hf : ErrorFlags corrected uncorrectable s t) :
      ErrorFlags corrected uncorrectable s { t with links := links } := by
    intro m
    obtain ⟨hc, hu⟩ := hf m
    exact ⟨(h32 m).trans hc, (h33 m).trans hu⟩
  obtain ⟨quiet, single, double⟩ := h
  refine ⟨fun hquiet => ?_, fun id p hid hp => ?_, fun id hid hp => ?_⟩
  · obtain ⟨hlog, hmarks, hslots, hwriteBacks, hflags, hwriteSide⟩ := quiet hquiet
    exact ⟨hlog, hmarks, hslots, hwriteBacks, flags hflags, hwriteSide⟩
  · obtain ⟨hlog, hmarks, hslots, hwriteBacks, hflags, hwriteSide⟩ := single id p hid hp
    exact ⟨hlog, hmarks, hslots, hwriteBacks, flags hflags, hwriteSide⟩
  · obtain ⟨hlog, hflags, hkept, hmarked⟩ := double id hid hp
    exact ⟨hlog, flags hflags, hkept, hmarked⟩

/-! ### The end of a read transfer -/

/-- The state the end of a read leaves to the link or the prefetcher. -/
theorem readActed_endRead (k : ReadKind) (a : Nat) (upset : LineBits) (s : State) :
    ReadActed (readSource k) (isMerge k) a (strike a upset s) (endRead k a upset s).1 := readActed_judged k a _

/-- The end of a read frees the port and keeps the store as the upset left it. -/
theorem integrityOnly_endRead (k : ReadKind) (a : Nat) (upset : LineBits) (s : State) :
    IntegrityOnly ((strike a upset s).setPort none) (endRead k a upset s).1 :=
  (integrityOnly_judgeRead k a _).trans (integrityOnly_presentWriteSide _)

theorem strike_eq (a : Nat) (upset : LineBits) (s : State) :
    strike a upset s = { s with store := (strike a upset s).store } := by
  unfold strike
  split <;> rfl

theorem endRead_store (k : ReadKind) (a : Nat) (upset : LineBits) (s : State) :
    (endRead k a upset s).1.store = (strike a upset s).store := by
  rw [(integrityOnly_endRead k a upset s).1]
  rfl

theorem endRead_arbiter (k : ReadKind) (a : Nat) (upset : LineBits) (s : State) :
    (endRead k a upset s).1.arbiter = { s.arbiter with port := none } := by
  rw [(integrityOnly_endRead k a upset s).1, strike_eq]
  rfl

/-- The end of a read moves no link but for its flags. -/
theorem endRead_link (k : ReadKind) (a : Nat) (upset : LineBits) (s : State) (m : LinkId) :
    look (endRead k a upset s).1.links m =
      { look s.links m with flags := (look (endRead k a upset s).1.links m).flags } := by
  rw [(integrityOnly_endRead k a upset s).2 m, strike_eq]
  rfl

end Sys2Proof.Machine
end

-- ==== The ends of link transfers ====
section
/-! SUPPORT. The ends of a zero-fill's, a WRITE_SAMPLES's and a READ_SAMPLES's line transfers (R10 to R14, R18, R19,
R139, R140). -/

namespace Sys2Proof.Machine

open Sys2Proof

variable {s u : State} {n : LinkId} {tag : Byte} {id : SegId} {a : Nat}

/-! ### The line's samples -/

theorem sampleOf_packLine (f : Nat → Code) {j : Nat} (hj : j < 4) : sampleOf (packLine f) j = f j := by
  apply BitVec.eq_of_getLsbD_eq
  intro i hi
  simp only [sampleOf, packLine, BitVec.getLsbD_extractLsb', hi, decide_true, Bool.true_and, BitVec.getLsbD_append]
  have shift (k : Nat) : 16 + k - 16 = k := Nat.add_sub_cancel_left 16 k
  match j, hj with
  | 0, _ => simp [hi]
  | 1, _ => simp [hi]
  | 2, _ => simp [hi, show 32 + i = 16 + (16 + i) by omega, shift]
  | 3, _ => simp [hi, show 48 + i = 16 + (16 + (16 + i)) by omega, shift]

/-- A merged line holds the written samples in their places and keeps the others (R12, R14). -/
theorem sampleOf_mergedLine (offset : Nat) (samples : List Code) (line : Nat) (kept : LineData) {j : Nat} (hj : j < 4) :
    sampleOf (mergedLine offset samples line kept) j =
      if offset ≤ 4 * line + j ∧ 4 * line + j < offset + samples.length then samples.getD (4 * line + j - offset) 0#16
      else sampleOf kept j := by
  rw [mergedLine, sampleOf_packLine _ hj]
  simp

/-! ### A link goes on, or has answered -/

theorem linkInTransfer_free (h : s.arbiter.port = none) (n : LinkId) : linkInTransfer s n = false := by
  rw [linkInTransfer, h]

/-- A command that goes on asks at once for its next transfer, its last one having left the port (R123). -/
theorem presentLink_carryOn (work : LongWork) (hrequest : (look u.links n).request = none)
    (hport : u.arbiter.port = none) :
    presentLink n (carryOn n tag work u) = { u with links := put u.links n { look u.links n with
      phase := .executing tag work, request := workRequest work } } :=
  execute_eq tag work hrequest (linkInTransfer_free hport n)

theorem presentLink_waiting (h : ∀ tag work, (look s.links n).phase ≠ .executing tag work) : presentLink n s = s := by
  unfold presentLink
  split
  · next tag work hphase => exact absurd hphase (h tag work)
  · rfl

/-- A link that has answered asks for nothing more. -/
theorem presentLink_respond (tag : Byte) (status : Status) (payload : List Byte) (u : State) :
    presentLink n (respond n tag status payload u) = { u with links := put u.links n { look u.links n with
      phase := .holding ⟨tag, status, payload⟩
      flags := (look u.links n).flags ||| BitVec.twoPow 41 38 } } := by
  rw [presentLink_waiting]
  · exact respond_eq n tag status payload u
  · intro tag' work
    rw [respond_eq]
    simp

/-- Presenting a link's request moves nothing but that request. -/
theorem presentLink_request (n : LinkId) (s : State) :
    presentLink n s = { s with links := (presentLink n s).links } ∧
    (∀ m, look (presentLink n s).links m = { look s.links m with request := (look (presentLink n s).links m).request }) ∧
    look (presentLink n s).links (otherLink n) = look s.links (otherLink n) := by
  obtain h | ⟨_, _, _, _, _, h⟩ := presentLink_cases n s <;> rw [h]
  · exact ⟨rfl, fun _ => rfl, rfl⟩
  · refine ⟨rfl, fun m => ?_, look_put_ne _ _ (otherLink_ne n).symm⟩
    simp only [State.modLink, look_put]
    split
    · next hm => rw [hm]
    · rfl

/-! ### The steps of the three commands -/

theorem fillStep_more {next stop : Nat} (hphase : (look u.links n).phase = .executing tag (.zeroFill id next stop))
    (h : next + 1 < stop) : fillStep n u = carryOn n tag (.zeroFill id (next + 1) stop) u := by
  rw [fillStep, hphase]
  exact if_pos h

theorem fillStep_last {next stop : Nat} (hphase : (look u.links n).phase = .executing tag (.zeroFill id next stop))
    (h : stop ≤ next + 1) :
    fillStep n u = respond n tag .ok [oneByte id.val] (u.modSlot id fun x => { x with filling := false }) := by
  rw [fillStep, hphase]
  exact if_neg (Nat.not_lt.mpr h)

section Write

variable {base offset line last : Nat} {samples : List Code} {merged : Option LineData}
  (hphase : (look u.links n).phase = .executing tag (.write id base offset samples line last merged))
include hphase

theorem writeStep_more (h : line < last) :
    writeStep n u = carryOn n tag (.write id base offset samples (line + 1) last none) u := by
  rw [writeStep, hphase]
  exact if_pos h

theorem writeStep_last (h : last ≤ line) : writeStep n u = respond n tag .ok [] u := by
  rw [writeStep, hphase]
  exact if_neg (Nat.not_lt.mpr h)

theorem mergeStep_eq (kept : LineData) :
    mergeStep n kept u =
      carryOn n tag (.write id base offset samples line last (some (mergedLine offset samples line kept))) u := by
  rw [mergeStep, hphase]

end Write

section Read

variable {base offset count line last : Nat} {got : List (LineData × Bool)} {d : Delivery}
  (hphase : (look u.links n).phase = .executing tag (.read id base offset count line last got))
include hphase

theorem readStep_more (h : line < last) :
    readStep n d u = carryOn n tag (.read id base offset count (line + 1) last (got ++ [(d.data, d.poisoned)])) u := by
  rw [readStep, hphase]
  exact if_pos h

theorem readStep_last (h : last ≤ line) :
    readStep n d u = respond n tag .ok (readReport offset count (got ++ [(d.data, d.poisoned)])) u := by
  rw [readStep, hphase]
  exact if_neg (Nat.not_lt.mpr h)

end Read

/-! ### The transfer ends as one event -/

theorem inStore_next (h : a < 262144) (t : State) : inStore a t = .next t := if_pos h

theorem exec_zeroFillWriteEnd {live : Bool} (hport : s.arbiter.port = some (.link n (.zeroWrite a) live)) (ha : a < 262144) :
    exec .zeroFillWriteEnd s =
      .next (presentLink n (let t := writeData a 0#64 (s.setPort none); if live then fillStep n t else t)) := by
  refine Eq.trans ?_ (inStore_next ha _)
  change execZeroFillWriteEnd s = _
  rw [execZeroFillWriteEnd, hport]

section

variable (upset : LineBits) (ha : a < 262144)
include ha

theorem exec_lineWriteEnd {data : LineData} {live : Bool}
    (hport : s.arbiter.port = some (.link n (.lineWrite a data) live)) :
    exec (.writeSamplesTransferEnd upset) s =
      .next (presentLink n (let t := writeData a data (s.setPort none); if live then writeStep n t else t)) := by
  refine Eq.trans ?_ (inStore_next ha _)
  change execWriteSamplesTransferEnd upset s = _
  rw [execWriteSamplesTransferEnd, hport]

theorem exec_mergeReadEnd {live : Bool} (hport : s.arbiter.port = some (.link n (.mergeRead a) live)) :
    exec (.writeSamplesTransferEnd upset) s =
      .next (presentLink n (let t := (endRead (.merge n) a upset s).1
        if live then mergeStep n (readDelivery (strike a upset s) a).data t else t)) := by
  refine Eq.trans ?_ (inStore_next ha _)
  change execWriteSamplesTransferEnd upset s = _
  rw [execWriteSamplesTransferEnd, hport]
  rfl

theorem exec_sampleReadEnd {live : Bool} (hport : s.arbiter.port = some (.link n (.sampleRead a) live)) :
    exec (.readSamplesLineEnd upset) s =
      .next (presentLink n (let t := (endRead (.sample n) a upset s).1
        if live then readStep n (readDelivery (strike a upset s) a) t else t)) := by
  refine Eq.trans ?_ (inStore_next ha _)
  change execReadSamplesLineEnd upset s = _
  rw [execReadSamplesLineEnd, hport]
  rfl

end

/-! ### The zero-fill -/

/-- A zero-fill's step moves its own link and the slots. -/
theorem fillStep_keeps (n : LinkId) (u : State) :
    fillStep n u = { u with slots := (fillStep n u).slots, links := (fillStep n u).links } ∧
    look (fillStep n u).links (otherLink n) = look u.links (otherLink n) := by
  have hother := (otherLink_ne n).symm
  unfold fillStep
  split
  · split
    · exact ⟨rfl, look_put_ne _ _ hother⟩
    · rw [respond_eq]
      exact ⟨rfl, look_put_ne _ _ hother⟩
  · exact ⟨rfl, rfl⟩

/-- What the end of a zero-fill write leaves but the slots and its own link is its line written. -/
theorem zeroFillEnd_keeps (n : LinkId) (live : Bool) (u : State) :
    ∃ slots links, presentLink n (if live then fillStep n u else u) = { u with slots := slots, links := links } ∧
      look links (otherLink n) = look u.links (otherLink n) := by
  have stepped : ∃ slots links, (if live then fillStep n u else u) = { u with slots := slots, links := links } ∧
      look links (otherLink n) = look u.links (otherLink n) := by
    cases live with
    | true =>
      obtain ⟨hstep, hother⟩ := fillStep_keeps n u
      exact ⟨_, _, hstep, hother⟩
    | false => exact ⟨u.slots, u.links, rfl, rfl⟩
  obtain ⟨slots, links, hstep, hother⟩ := stepped
  obtain ⟨hpresent, -, hkept⟩ := presentLink_request n { u with slots := slots, links := links }
  rw [hstep]
  exact ⟨slots, _, hpresent, hkept.trans hother⟩

/-- Settles O19: the line written, and the command carried on or answered. -/
theorem zeroFillWriteEndZeroesItsLine : Obligations.ZeroFillWriteEndZeroesItsLine := by
  unfold Obligations.ZeroFillWriteEndZeroesItsLine
  intro n a live s hport ha hrequest
  refine ⟨_, exec_zeroFillWriteEnd hport ha, ?_⟩
  dsimp only
  obtain ⟨slots, links, hend, hother⟩ := zeroFillEnd_keeps n live (writeData a 0#64 (s.setPort none))
  have frame : ∀ {α : Type} (f : State → α), f (presentLink n (if live then _ else _)) = f _ := fun f => congrArg f hend
  refine ⟨(frame (lineAt · a)).trans (lineAt_putLine_same (s.setPort none) a _),
    fun b hb => (frame (lineAt · b)).trans (lineAt_putLine_ne (s.setPort none) _ hb.symm),
    frame State.arbiter, frame State.marks, frame State.log, frame State.free, frame State.tables, frame State.channels,
    frame State.prefetch, (frame fun t => look t.links (otherLink n)).trans hother, ?_, ?_⟩
  · rintro tag id next stop rfl hphase
    rw [if_pos rfl]
    refine ⟨fun hmore => ?_, fun hlast => ?_⟩
    · rw [fillStep_more (u := writeData a 0#64 (s.setPort none)) hphase hmore,
        presentLink_carryOn (u := writeData a 0#64 (s.setPort none)) _ hrequest rfl, workRequest_zeroFill hmore]
      exact ⟨rfl, look_put_same _ _ _⟩
    · rw [fillStep_last (u := writeData a 0#64 (s.setPort none)) hphase hlast, presentLink_respond]
      exact ⟨rfl, look_put_same _ _ _⟩
  · rintro rfl hphase
    have hidle : ∀ tag work, (look (writeData a 0#64 (s.setPort none)).links n).phase ≠ .executing tag work := by
      intro tag work
      rw [show (look (writeData a 0#64 (s.setPort none)).links n).phase = .free from hphase]
      simp
    rw [if_neg Bool.false_ne_true, presentLink_waiting hidle]
    exact ⟨rfl, rfl⟩

/-! ### WRITE_SAMPLES -/

/-- A flag that one link's new record keeps stands in every set as before. -/
theorem flag_put {links : Vector Link 2} {l : Link} {i : Nat} (h : l.flags.getLsbD i = (look links n).flags.getLsbD i)
    (m : LinkId) : (look (put links n l) m).flags.getLsbD i = (look links m).flags.getLsbD i := by
  rw [look_put]
  split
  · next hm => rw [h, hm]
  · rfl

/-- The end of a line write of a live command (R12). -/
theorem lineWriteEnd_live (upset : LineBits) {base offset line last : Nat} {samples : List Code}
    {merged : Option LineData} {data : LineData}
    (hphase : (look s.links n).phase = .executing tag (.write id base offset samples line last merged))
    (hrequest : (look s.links n).request = none) (ha : a < 262144)
    (hport : s.arbiter.port = some (.link n (.lineWrite a data) true)) :
    exec (.writeSamplesTransferEnd upset) s = .next { writeData a data (s.setPort none) with
      links := put s.links n (if line < last then { look s.links n with
          phase := .executing tag (.write id base offset samples (line + 1) last none)
          request := workRequest (.write id base offset samples (line + 1) last none) }
        else { look s.links n with
          phase := .holding ⟨tag, .ok, []⟩, flags := (look s.links n).flags ||| BitVec.twoPow 41 38 }) } := by
  refine (exec_lineWriteEnd upset ha hport).trans (congrArg _ ?_)
  dsimp only
  rw [if_pos rfl]
  by_cases hmore : line < last
  · rw [if_pos hmore, writeStep_more (u := writeData a data (s.setPort none)) hphase hmore,
      presentLink_carryOn (u := writeData a data (s.setPort none)) _ hrequest rfl]
    rfl
  · rw [if_neg hmore, writeStep_last (u := writeData a data (s.setPort none)) hphase (Nat.not_lt.mp hmore),
      presentLink_respond]
    rfl

/-- The end of a merge read of a live command (R14). -/
theorem mergeReadEnd_live (upset : LineBits) {base offset line last : Nat} {samples : List Code}
    {merged : Option LineData}
    (hphase : (look s.links n).phase = .executing tag (.write id base offset samples line last merged))
    (hrequest : (look s.links n).request = none) (ha : a < 262144) (hline : line ≤ last)
    (hport : s.arbiter.port = some (.link n (.mergeRead a) true))
    (hpartial : wholeLine offset samples.length line = false) :
    let t := (endRead (.merge n) a upset s).1
    let data := mergedLine offset samples line (readDelivery (strike a upset s) a).data
    exec (.writeSamplesTransferEnd upset) s = .next { t with
      links := put t.links n { look t.links n with
        phase := .executing tag (.write id base offset samples line last (some data))
        request := some (.lineWrite (base + line) data) } } := by
  have hlink := endRead_link (.merge n) a upset s n
  refine (exec_mergeReadEnd upset ha hport).trans (congrArg _ ?_)
  dsimp only
  rw [if_pos rfl, mergeStep_eq (by rw [hlink]; exact hphase),
    presentLink_carryOn _ (by rw [hlink]; exact hrequest) (by rw [endRead_arbiter])]
  simp only [workRequest, if_pos hline, hpartial, Bool.false_eq_true, if_false]

theorem endRead_merge_keeps (n : LinkId) (a : Nat) (upset : LineBits) (s : State) :
    (endRead (.merge n) a upset s).1.marks = s.marks ∧ (endRead (.merge n) a upset s).1.slots = s.slots ∧
    (endRead (.merge n) a upset s).1.writeBacks = s.writeBacks := by
  obtain ⟨hmarks, hslots, hwriteBacks⟩ := (readActed_endRead (.merge n) a upset s).merge_keeps
  rw [hmarks, hslots, hwriteBacks, strike_eq]
  exact ⟨rfl, rfl, rfl⟩

/-- A read of a stopped command acts on its outcome alone; a link may present a request behind it. -/
theorem stoppedReadEnd (k : ReadKind) (n : LinkId) (a : Nat) (upset : LineBits) (s : State) :
    let t := presentLink n (endRead k a upset s).1
    t.store = (strike a upset s).store ∧ t.arbiter = { s.arbiter with port := none } ∧
    ReadActed (readSource k) (isMerge k) a (strike a upset s) t ∧
    ∀ m : LinkId, (look t.links m).phase = (look s.links m).phase := by
  obtain ⟨hpresent, hlinks, -⟩ := presentLink_request n (endRead k a upset s).1
  have hacted := (readActed_endRead k a upset s).of_links (presentLink n (endRead k a upset s).1).links
    (fun m => by rw [hlinks m]) (fun m => by rw [hlinks m])
  dsimp only
  rw [hpresent]
  exact ⟨endRead_store k a upset s, endRead_arbiter k a upset s, hacted, fun m => by rw [hlinks m, endRead_link]⟩

/-- Settles O20: the line writes and merge reads of a live command and of a stopped one. -/
theorem writeTransferEndsCarryTheCommandOn : Obligations.WriteTransferEndsCarryTheCommandOn := by
  unfold Obligations.WriteTransferEndsCarryTheCommandOn
  refine ⟨fun n a upset tag id base offset line last samples merged s hphase hrequest ha hline =>
    ⟨fun data hport => ?_, fun hport hpartial => ?_⟩, fun n a upset s ha => ⟨fun data hport => ?_, fun hport => ?_⟩⟩
  · refine ⟨_, lineWriteEnd_live upset hphase hrequest ha hport, lineAt_putLine_same (s.setPort none) a _,
      fun b hb => lineAt_putLine_ne (s.setPort none) _ hb.symm, rfl, rfl, rfl, fun hmore => ?_, fun hlast => ?_⟩
    · rw [if_pos hmore, look_put_same]
      refine ⟨rfl, ?_, rfl⟩
      rw [workRequest_write (Nat.succ_le_of_lt hmore)]
      split
      · next hcovered =>
        refine ⟨_, rfl, fun j hj => ?_⟩
        rw [sampleOf_mergedLine _ _ _ _ hj, if_pos (by omega)]
      · rfl
    · rw [if_neg (by omega), look_put_same]
  · obtain ⟨hmarks, hslots, hwriteBacks⟩ := endRead_merge_keeps n a upset s
    refine ⟨_, mergedLine offset samples line (readDelivery (strike a upset s) a).data,
      mergeReadEnd_live upset hphase hrequest ha hline hport hpartial, endRead_store _ _ _ _, hmarks, hwriteBacks, hslots,
      endRead_arbiter _ _ _ _, ?_, ?_, ?_, fun j hj => sampleOf_mergedLine _ _ _ _ hj⟩
    · exact (readActed_endRead (.merge n) a upset s).of_links _ (flag_put rfl) (flag_put rfl)
    · exact congrArg Link.phase (look_put_same _ _ _)
    · exact congrArg Link.request (look_put_same _ _ _)
  · refine ⟨_, exec_lineWriteEnd upset ha hport, ?_⟩
    dsimp only
    rw [if_neg Bool.false_ne_true]
    obtain ⟨hpresent, hlinks, -⟩ := presentLink_request n (writeData a data (s.setPort none))
    have frame : ∀ {α : Type} (f : State → α), f (presentLink n (writeData a data (s.setPort none))) = f _ :=
      fun f => congrArg f hpresent
    exact ⟨(frame (lineAt · a)).trans (lineAt_putLine_same (s.setPort none) a _),
      fun b hb => (frame (lineAt · b)).trans (lineAt_putLine_ne (s.setPort none) _ hb.symm),
      frame State.arbiter, frame State.slots, frame State.log, hlinks⟩
  · refine ⟨_, exec_mergeReadEnd upset ha hport, ?_⟩
    dsimp only
    rw [if_neg Bool.false_ne_true]
    exact stoppedReadEnd (.merge n) n a upset s

/-! ### READ_SAMPLES -/

/-- The end of a sample read of a live command (R18, R19). -/
theorem sampleReadEnd_live (upset : LineBits) {base offset count line last : Nat} {got : List (LineData × Bool)}
    (hphase : (look s.links n).phase = .executing tag (.read id base offset count line last got))
    (hrequest : (look s.links n).request = none) (ha : a < 262144)
    (hport : s.arbiter.port = some (.link n (.sampleRead a) true)) :
    let t := (endRead (.sample n) a upset s).1
    let d := readDelivery (strike a upset s) a
    exec (.readSamplesLineEnd upset) s = .next { t with
      links := put t.links n (if line < last then { look t.links n with
          phase := .executing tag (.read id base offset count (line + 1) last (got ++ [(d.data, d.poisoned)]))
          request := some (.sampleRead (base + (line + 1))) }
        else { look t.links n with
          phase := .holding ⟨tag, .ok, readReport offset count (got ++ [(d.data, d.poisoned)])⟩
          flags := (look t.links n).flags ||| BitVec.twoPow 41 38 }) } := by
  have hlink := endRead_link (.sample n) a upset s n
  refine (exec_sampleReadEnd upset ha hport).trans (congrArg _ ?_)
  dsimp only
  rw [if_pos rfl]
  by_cases hmore : line < last
  · rw [if_pos hmore, readStep_more (by rw [hlink]; exact hphase) hmore,
      presentLink_carryOn _ (by rw [hlink]; exact hrequest) (by rw [endRead_arbiter]),
      workRequest_read (Nat.succ_le_of_lt hmore)]
  · rw [if_neg hmore, readStep_last (by rw [hlink]; exact hphase) (Nat.not_lt.mp hmore), presentLink_respond]

/-- Settles O21: the line delivered to the live command, and the read of a stopped one. -/
theorem readTransferEndDeliversItsLine : Obligations.ReadTransferEndDeliversItsLine := by
  unfold Obligations.ReadTransferEndDeliversItsLine
  refine ⟨fun n a upset tag id base offset count line last got s hphase hrequest ha hport => ?_,
    fun n a upset s ha hport => ?_⟩
  · refine ⟨_, sampleReadEnd_live upset hphase hrequest ha hport, endRead_store _ _ _ _, endRead_arbiter _ _ _ _,
      ?_, ?_, ?_⟩
    · exact (readActed_endRead (.sample n) a upset s).of_links _ (flag_put (by split <;> simp))
        (flag_put (by split <;> simp))
    · intro hmore
      rw [if_pos hmore, look_put_same]
      exact ⟨rfl, rfl⟩
    · intro hlast
      rw [if_neg (Nat.not_lt.mpr hlast), look_put_same]
      refine ⟨rfl, ?_, ?_⟩
      · rw [endRead_link]
        exact hrequest
      · simp
  · refine ⟨_, exec_sampleReadEnd upset ha hport, ?_⟩
    dsimp only
    rw [if_neg Bool.false_ne_true]
    exact stoppedReadEnd (.sample n) n a upset s

end Sys2Proof.Machine
end

-- ==== The link reset ====
section
/-! SUPPORT. A link reset as one change of the state: the OPEN segments it frees, the staged banks it releases, the
write side's request it withdraws (R6, R24, R45, R143, R144, R175, R188), and the release of LRSTn (R176). -/

namespace Sys2Proof.Machine

open Sys2Proof

variable {s u : State} {n : LinkId} {id : SegId}

/-! ### Segments freed together -/

/-- The slots with those named FREE (R2). -/
def slotsFreed (gone : SegId → Bool) (slots : Vector Slot 256) : Vector Slot 256 :=
  Vector.ofFn fun id => if gone id then Slot.empty else look slots id

theorem look_slotsFreed (gone : SegId → Bool) (slots : Vector Slot 256) (id : SegId) :
    look (slotsFreed gone slots) id = if gone id then Slot.empty else look slots id := by
  simp [slotsFreed, look]

theorem slotsFreed_none (slots : Vector Slot 256) : slotsFreed (fun _ => false) slots = slots :=
  vector_ext_look fun id => look_slotsFreed _ slots id

theorem slotsFreed_twice (first second : SegId → Bool) (slots : Vector Slot 256) :
    slotsFreed second (slotsFreed first slots) = slotsFreed (fun id => first id || second id) slots := by
  refine vector_ext_look fun id => ?_
  rw [look_slotsFreed, look_slotsFreed, look_slotsFreed]
  cases first id <;> cases second id <;> rfl

/-- The state in which the segments named are FREE, with no record and no request left of them. -/
def segmentsFreed (gone : SegId → Bool) (free : List Extent) (s : State) : State :=
  { s with
    slots := slotsFreed gone s.slots
    free := free
    marks := s.marks.filter fun r => !gone r.segment
    writeBacks := s.writeBacks.filter fun r => !gone r.segment
    writeSide := s.writeSide.filter fun r => !gone r.segment }

theorem segmentsFreed_none (s : State) : segmentsFreed (fun _ => false) s.free s = s := by
  have hside : s.writeSide.filter (fun _ => true) = s.writeSide := by cases s.writeSide <;> rfl
  simp [segmentsFreed, slotsFreed_none, hside]

/-- Segments freed after others are freed together with them. -/
theorem segmentsFreed_twice (first second : SegId → Bool) (free free' : List Extent) (s : State) :
    segmentsFreed second free' (segmentsFreed first free s) =
      segmentsFreed (fun id => first id || second id) free' s := by
  have hside : (s.writeSide.filter fun r => !first r.segment).filter (fun r => !second r.segment) =
      s.writeSide.filter fun r => !(first r.segment || second r.segment) := by
    cases s.writeSide with
    | none => rfl
    | some r => cases hf : first r.segment <;> simp [Option.filter, hf]
  simp only [segmentsFreed, slotsFreed_twice, List.filter_filter, hside, Bool.not_or, Bool.and_comm]

/-- The free-extent list once a link's segment of that id is freed (R6, R24). -/
def extentFreed (n : LinkId) (slots : Vector Slot 256) (free : List Extent) (id : SegId) : List Extent :=
  match (look slots id).body with
  | .opened owner _ extent => if owner = n then freeInto extent free else free
  | _ => free

/-- The link owns the segment, and it is among those named. -/
def ownedAmong (n : LinkId) (l : List SegId) (slots : Vector Slot 256) (id : SegId) : Bool :=
  decide (id ∈ l) && ownedBy n (look slots id)

theorem ownedBy_iff {x : Slot} : ownedBy n x = true ↔ ∃ length extent, x.body = .opened n length extent := by
  unfold ownedBy
  cases x.body <;> simp [eq_comm]

theorem put_eq_slotsFreed (id : SegId) (slots : Vector Slot 256) :
    put slots id Slot.empty = slotsFreed (fun j => decide (j = id)) slots := by
  refine vector_ext_look fun j => ?_
  rw [look_put, look_slotsFreed]
  by_cases h : id = j <;> simp [h, eq_comm]

/-- One segment of a reset link, in the same terms. -/
theorem freeOwned_eq (n : LinkId) (id : SegId) (s : State) :
    freeOwned n id s = segmentsFreed (ownedAmong n [id] s.slots) (extentFreed n s.slots s.free id) s := by
  unfold freeOwned
  by_cases hown : ownedBy n (look s.slots id) = true
  · obtain ⟨length, extent, hbody⟩ := ownedBy_iff.mp hown
    have hgone : ownedAmong n [id] s.slots = fun j => decide (j = id) := by
      funext j
      by_cases h : j = id <;> simp [ownedAmong, h, hown]
    rw [if_pos hown, freeSegment_dropSegmentRecords (e := extent) (congrArg SlotBody.extent hbody), withdrawWriteSide_eq,
      put_eq_slotsFreed, hgone, extentFreed, hbody, isOfSegment_eq]
    simp [segmentsFreed]
  · have hgone : ownedAmong n [id] s.slots = fun _ => false := by
      funext j
      by_cases h : j = id <;> simp [ownedAmong, h, hown]
    have hfree : extentFreed n s.slots s.free id = s.free := by
      unfold extentFreed
      split
      · next owner length extent hbody =>
        refine if_neg fun howner => hown (ownedBy_iff.mpr ⟨length, extent, ?_⟩)
        rw [hbody, howner]
      · rfl
    rw [if_neg hown, hgone, hfree, segmentsFreed_none]

/-- The segments of a list without repetitions, freed in its order. -/
theorem foldl_freeOwned {l : List SegId} (hl : l.Nodup) (s : State) :
    l.foldl (fun s id => freeOwned n id s) s =
      segmentsFreed (ownedAmong n l s.slots) (l.foldl (extentFreed n s.slots) s.free) s := by
  induction l generalizing s with
  | nil => exact (segmentsFreed_none s).symm
  | cons id l ih =>
    obtain ⟨hid, hnodup⟩ := List.nodup_cons.mp hl
    have hlook (j : SegId) (hj : j ∈ l) : look (freeOwned n id s).slots j = look s.slots j := by
      rw [freeOwned_eq]
      refine (look_slotsFreed _ s.slots j).trans (if_neg ?_)
      have hne : j ≠ id := fun h => hid (h ▸ hj)
      simp [ownedAmong, hne]
    have hfold : l.foldl (extentFreed n (freeOwned n id s).slots) (freeOwned n id s).free =
        (id :: l).foldl (extentFreed n s.slots) s.free := by
      have hfree : (freeOwned n id s).free = extentFreed n s.slots s.free id := by
        rw [freeOwned_eq]
        rfl
      rw [List.foldl_cons, hfree]
      refine List.foldl_ext _ _ _ fun free j hj => ?_
      rw [extentFreed, extentFreed, hlook j hj]
    have hgone : ownedAmong n l (freeOwned n id s).slots = ownedAmong n l s.slots := by
      funext j
      by_cases hj : j ∈ l
      · rw [ownedAmong, ownedAmong, hlook j hj]
      · simp [ownedAmong, hj]
    rw [List.foldl_cons, ih hnodup, hfold, hgone, freeOwned_eq, segmentsFreed_twice]
    congr 1
    funext j
    simp [ownedAmong, Bool.and_or_distrib_right]

theorem freeAllOwned_eq (n : LinkId) (s : State) :
    freeAllOwned n s = segmentsFreed (fun id => ownedBy n (look s.slots id))
      ((List.finRange 256).foldl (extentFreed n s.slots) s.free) s := by
  have hgone : ownedAmong n (List.finRange 256) s.slots = fun id => ownedBy n (look s.slots id) := by
    funext id
    simp [ownedAmong]
  rw [freeAllOwned, foldl_freeOwned (List.nodup_finRange 256), hgone]

/-! ### The staged banks and the write side -/

theorem releaseEditor_eq (n : LinkId) (t : Tables) :
    releaseEditor n t = { t with editor := if t.editor = some n then none else t.editor } := by
  unfold releaseEditor
  split <;> rfl

theorem editorsReleased_eq (n : LinkId) (s : State) :
    editorsReleased n s = { s with tables := s.tables.map (releaseEditor n) } := by
  have htables : (editorsReleased n s).tables = s.tables.map (releaseEditor n) := by
    refine vector_ext_look fun ch => ?_
    have hmap : look (s.tables.map (releaseEditor n)) ch = releaseEditor n (look s.tables ch) := by simp [look]
    rw [hmap]
    fin_cases ch <;> simp [editorsReleased, eachChannel, State.modTables]
  exact congrArg (fun tables => ({ s with tables := tables } : State)) htables

theorem writeInTransfer_orphanLink (n : LinkId) (port : Option Transfer) :
    writeInTransfer (orphanLink n port) = writeInTransfer port := by
  unfold orphanLink
  split <;> rfl

theorem addr_orphanLink (n : LinkId) (port : Option Transfer) :
    (orphanLink n port).map Transfer.addr = port.map Transfer.addr := by
  unfold orphanLink
  split
  · next m x live => cases x <;> rfl
  · rfl

/-- A request withdrawn beforehand is withdrawn by the event, which a stopped link transfer on the port does not
change. -/
theorem writeSideAfter_filter (drop : WriteRequest → Bool) (n : LinkId) (marks : List MarkRecord)
    (writeBacks : List WriteBack) (port : Option Transfer) (held : Option WriteRequest) :
    writeSideAfter keepsAll marks writeBacks (orphanLink n port) (held.filter fun r => !drop r) =
      writeSideAfter drop marks writeBacks port held := by
  unfold writeSideAfter
  rw [writeInTransfer_orphanLink]
  cases held with
  | none => rfl
  | some r => cases h : drop r <;> simp [Option.filter, h, keepsAll]

/-! ### The reset as one change -/

/-- The links' records after one is reset, the other told where a segment was freed (R175, R188). -/
def linksReset (n : LinkId) (s : State) : Vector Link 2 :=
  let links := put s.links n (linkResetRecord (look s.links n))
  if ownsAny n s then put links (otherLink n) { look links (otherLink n) with
    flags := (look links (otherLink n)).flags ||| flagBit .libraryChanged } else links

theorem linkResets_changes (n : LinkId) (s : State) :
    let gone := fun id => ownedBy n (look s.slots id)
    let marks := s.marks.filter fun r => !gone r.segment
    let writeBacks := s.writeBacks.filter fun r => !gone r.segment
    linkResets n s = { s with
      links := linksReset n s
      slots := slotsFreed gone s.slots
      tables := s.tables.map (releaseEditor n)
      free := (List.finRange 256).foldl (extentFreed n s.slots) s.free
      marks := marks
      writeBacks := writeBacks
      writeSide := writeSideAfter (fun r => gone r.segment) marks writeBacks s.arbiter.port s.writeSide
      arbiter := { s.arbiter with port := orphanLink n s.arbiter.port } } := by
  intro gone marks writeBacks
  have hfreed : freeAllOwned n (linkSilenced n s) =
      segmentsFreed gone ((List.finRange 256).foldl (extentFreed n s.slots) s.free) (linkSilenced n s) :=
    freeAllOwned_eq n (linkSilenced n s)
  rw [linkResets_eq, presentWriteSide_eq, hfreed, editorsReleased_eq, ← writeSideAfter_filter (fun r => gone r.segment) n]
  generalize (List.finRange 256).foldl (extentFreed n s.slots) s.free = free
  unfold linksReset
  simp only [segmentsFreed, linkSilenced, State.raiseOn, State.modLink, State.setPort, marks, writeBacks]
  split <;> rfl

theorem look_linksReset_same (n : LinkId) (s : State) : look (linksReset n s) n = linkResetRecord (look s.links n) := by
  unfold linksReset
  dsimp only
  split
  · rw [look_put_ne _ _ (otherLink_ne n), look_put_same]
  · rw [look_put_same]

theorem look_linksReset_other (n : LinkId) (s : State) :
    look (linksReset n s) (otherLink n) = if ownsAny n s
      then { look s.links (otherLink n) with flags := (look s.links (otherLink n)).flags ||| BitVec.twoPow 41 37 }
      else look s.links (otherLink n) := by
  have hother := (otherLink_ne n).symm
  unfold linksReset
  dsimp only
  split
  · rw [look_put_same, look_put_ne _ _ hother]
    rfl
  · rw [look_put_ne _ _ hother]

/-- The write-backs are of READY segments, so a link reset removes none (R145). -/
theorem writeBacks_kept (n : LinkId) (h : WriteBackLaw s) :
    s.writeBacks.filter (fun r => !ownedBy n (look s.slots r.segment)) = s.writeBacks := by
  obtain ⟨-, -, hready⟩ := h
  refine List.filter_eq_self.mpr fun r hr => ?_
  cases hown : ownedBy n (look s.slots r.segment) with
  | false => rfl
  | true => exact absurd (hready r hr).1 (by simp [isReady_owned hown])

/-- Settles O6: the reset's change written out, and the release of LRSTn. -/
theorem linkResetAndItsRelease : Obligations.LinkResetAndItsRelease := by
  unfold Obligations.LinkResetAndItsRelease
  intro n s
  have hreset : exec (.linkReset n) s = .next (linkResets n s) := rfl
  rw [linkResets_changes] at hreset
  refine ⟨⟨_, hreset, look_linksReset_same n s, look_linksReset_other n s, look_slotsFreed _ s.slots, fun ch => ?_, rfl,
    rfl, writeBacks_kept n, rfl, ?_, rfl, rfl, rfl, rfl, rfl, rfl, rfl, rfl, rfl, rfl,
    rfl, addr_orphanLink n s.arbiter.port⟩, fun selected => ⟨fun hheld => ?_, fun hheld => ?_⟩⟩
  · rw [← releaseEditor_eq]
    simp [look]
  · dsimp only
    exact List.foldl_ext _ _ _ fun _ _ _ => rfl
  · exact congrArg _ (if_pos hheld)
  · exact congrArg _ (if_neg (by simp [hheld]))

end Sys2Proof.Machine
end

-- ==== A channel under the editor and pending laws ====
section
/-! SUPPORT. The editor law and the pending law (R29, R46) as one predicate on a channel's record and its tables, and one
lemma per channel operation that keeps it (R37, R48, R50 to R58, R65). -/

namespace Sys2Proof.Machine

open Sys2Proof

/-- What the editor law and the pending law say of one channel. -/
structure Settled (c : Channel) (t : Tables) : Prop where
  editor : c.commit.isSome → t.editor = none
  idle : c.mode = .idle → c.commit = none ∧ c.pendingScale = none ∧ c.pendingRate = none
  stop : c.mode ≠ .running → c.stop = none

/-- The editor law of one channel, at a state: all that a channel's operations ask of it. -/
def EditorAt (s : State) (ch : ChanId) : Prop := (look s.channels ch).commit.isSome → (look s.tables ch).editor = none

/-- Both laws of one channel, at a state. -/
def SettledAt (s : State) (ch : ChanId) : Prop := Settled (look s.channels ch) (look s.tables ch)

/-- Both laws, of every channel. -/
def AllSettled (s : State) : Prop := ∀ ch, SettledAt s ch

variable {s t u : State} {ch : ChanId} {c d : Channel}

theorem allSettled_iff : AllSettled s ↔ EditorLaw s ∧ PendingLaw s :=
  ⟨fun h => ⟨fun ch => (h ch).editor, fun ch => ⟨(h ch).idle, (h ch).stop⟩⟩,
    fun ⟨he, hp⟩ ch => ⟨he ch, (hp ch).1, (hp ch).2⟩⟩

/-- The part of a channel's record that the two laws read. -/
structure Standing where
  mode : ChannelMode
  stop : Option StopMode
  commit : Option Commit
  pendingScale : Option Scale
  pendingRate : Option Nat

def Channel.standing (c : Channel) : Standing := ⟨c.mode, c.stop, c.commit, c.pendingScale, c.pendingRate⟩

theorem Settled.of_standing {b : Tables} (h : Settled c b) (hd : d.standing = c.standing) : Settled d b := by
  simp only [Channel.standing, Standing.mk.injEq] at hd
  obtain ⟨hmode, hstop, hcommit, hscale, hrate⟩ := hd
  constructor
  · rw [hcommit]
    exact h.editor
  · rw [hmode, hcommit, hscale, hrate]
    exact h.idle
  · rw [hmode, hstop]
    exact h.stop

/-- A RUNNING channel may hold a stop and updates: only the editor law speaks of it. -/
theorem settledAt_of_running (h : EditorAt s ch) (hmode : (look s.channels ch).mode = .running) : SettledAt s ch where
  editor := h
  idle := fun hidle => by rw [hmode] at hidle; cases hidle
  stop := fun hrun => absurd hmode hrun

theorem EditorAt.of_play (h : EditorAt s ch) (hplay : u.play = s.play) : EditorAt u ch := by
  unfold EditorAt
  rw [channels_of_play hplay, tables_of_play hplay]
  exact h

theorem SettledAt.of_play (h : SettledAt s ch) (hplay : u.play = s.play) : SettledAt u ch := by
  unfold SettledAt
  rw [channels_of_play hplay, tables_of_play hplay]
  exact h

theorem SettledAt.raised (e : EventFlag) (h : SettledAt s ch) : SettledAt (s.raise e) ch := h.of_play (play_raise s e)

/-- An update of the record that leaves the commit leaves the editor law. -/
theorem EditorAt.modChannel (h : EditorAt s ch) {f : Channel → Channel} (hf : ∀ c, (f c).commit = c.commit) :
    EditorAt (s.modChannel ch f) ch := by
  unfold EditorAt
  rw [State.modChannel_channels, look_put_same, hf]
  exact h

theorem settledAt_modChannel {f : Channel → Channel} (h : Settled (f (look s.channels ch)) (look s.tables ch)) :
    SettledAt (s.modChannel ch f) ch := by
  unfold SettledAt
  rw [State.modChannel_channels, look_put_same]
  exact h

theorem SettledAt.sameStanding (h : SettledAt s ch) {f : Channel → Channel} (hf : ∀ c, (f c).standing = c.standing) :
    SettledAt (s.modChannel ch f) ch :=
  settledAt_modChannel (Settled.of_standing h (hf _))

/-! ### One channel's operations -/

theorem applyScale_pendingScale (c : Channel) : (applyScale c).pendingScale = none := by
  unfold applyScale
  split
  · assumption
  · rfl

theorem applyRateIdle_pending (c : Channel) :
    (applyRateIdle c).pendingScale = c.pendingScale ∧ (applyRateIdle c).pendingRate = none := by
  unfold applyRateIdle
  split
  · exact ⟨rfl, ‹_›⟩
  · exact ⟨rfl, rfl⟩

/-- Entry into IDLE disposes of every pending update, the stop and the commit (R58). -/
theorem settled_enterIdle (ch : ChanId) (s : State) : SettledAt (enterIdle ch s) ch := by
  obtain ⟨hrecord, -⟩ := enterIdle_channel ch s
  obtain ⟨hscale, hrate⟩ := applyRateIdle_pending (applyScale (look s.channels ch))
  unfold SettledAt
  rw [hrecord]
  exact ⟨Bool.noConfusion, fun _ => ⟨rfl, hscale.trans (applyScale_pendingScale _), hrate⟩, fun _ => rfl⟩

/-- An entry begun leaves the channel RUNNING, WAITING without a stop, or IDLE (R48). -/
theorem settled_beginEntry {x : SlotIx} {p : Nat} (h : EditorAt s ch) : SettledAt (beginEntry ch x p s) ch := by
  have begun : EditorAt (s.modChannel ch (beginRecord (entryIn s ch x) x p)) ch := h.modChannel fun _ => rfl
  unfold beginEntry
  dsimp only
  split
  · refine settledAt_of_running (begun.modChannel fun _ => rfl) ?_
    rw [State.modChannel_channels, look_put_same]
  · split
    · exact settled_enterIdle ch _
    · next hstop =>
      refine SettledAt.raised _ (settledAt_modChannel (Settled.mk begun ChannelMode.noConfusion fun _ => ?_))
      simpa using hstop

theorem settled_turnTo {x : SlotIx} (h : EditorAt s ch) : SettledAt (turnTo ch x s) ch :=
  (settled_beginEntry h).of_play (play_flush ch _)

/-- A swap leaves neither commit nor editor (R37). -/
theorem editorAt_swapBanks (ch : ChanId) (s : State) : EditorAt (swapBanks ch s) ch := by
  unfold EditorAt
  rw [swapBanks_channel]
  exact Bool.noConfusion

theorem settled_takeCommit (ch : ChanId) (x : SlotIx) (s : State) : SettledAt (takeCommit ch x s) ch :=
  settled_turnTo (editorAt_swapBanks ch s)

theorem settled_advanceTo {x : SlotIx} {p : Nat} (h : EditorAt s ch) : SettledAt (advanceTo ch x p s) ch :=
  settled_beginEntry (h.of_play (play_movePlay ch s))

theorem settled_tableEnd {p : Nat} (h : EditorAt s ch) : SettledAt (tableEnd ch p s) ch := by
  unfold tableEnd
  split
  · exact settled_takeCommit ch _ s
  · split
    · exact settled_advanceTo h
    · exact settled_enterIdle ch s

theorem settled_entryEnd {p : Nat} {jump : Option SlotIx} (h : EditorAt s ch) : SettledAt (entryEnd ch p jump s) ch := by
  unfold entryEnd
  dsimp only
  split
  · exact settled_enterIdle ch s
  · split
    · exact settled_takeCommit ch _ s
    · split
      · exact settled_turnTo h
      · split
        · exact settled_advanceTo h
        · exact settled_tableEnd h

theorem passEndRecord_commit (e : Option Entry) (p : Nat) (c : Channel) : (passEndRecord e p c).commit = c.commit := by
  have scale : (applyScale c).commit = c.commit := by unfold applyScale; split <;> rfl
  have rate : ∀ d : Channel, (applyRate e d).commit = d.commit := fun d => by unfold applyRate; split <;> rfl
  exact (rate _).trans scale

/-- The channel is RUNNING with its commit when a pass end is decided (R53, R54). -/
theorem settled_passEnds {p : Nat} {jump : Option SlotIx} (h : EditorAt s ch)
    (hmode : (look s.channels ch).mode = .running) : SettledAt (passEnds ch p jump s) ch := by
  have counted : EditorAt (passCounted ch p s) ch :=
    (h.of_play (play_passSignalled ch s)).modChannel (passEndRecord_commit _ p)
  have running : (look (passCounted ch p s).channels ch).mode = .running := by
    rw [passCounted, State.modChannel_channels, look_put_same, (passEndRecord_seat _ p _).1,
      channels_of_play (play_passSignalled ch s)]
    exact hmode
  rw [passEnds_eq]
  unfold passEndDecision
  dsimp only
  split
  · exact settled_enterIdle ch _
  · split
    · exact settled_entryEnd counted
    · split
      · exact settled_entryEnd counted
      · exact (settledAt_of_running counted running).of_play (play_movePlay ch _)

theorem settled_startChannel {x : SlotIx} (h : SettledAt s ch) : SettledAt (startChannel x ch s) ch := by
  have turned : SettledAt (turnTo ch x (s.modChannel ch startRecord)) ch :=
    settled_turnTo (EditorAt.modChannel h.editor fun _ => rfl)
  exact turned.of_play (((play_presentPrefetch ch _).trans (play_raise _ _)).trans
    ((play_setPattern _ ch _).trans (play_eachPin _ _ fun _ _ => rfl)))

/-- Only a RUNNING channel records a stop (R51). -/
theorem settled_stopChannel (mode : StopMode) (h : SettledAt s ch) : SettledAt (stopChannel mode ch s) ch := by
  unfold stopChannel
  split
  · exact h
  · exact settled_enterIdle ch s
  · exact settled_enterIdle ch s
  · next hmode =>
    refine SettledAt.of_play ?_ ((play_presentPrefetch ch _).trans (play_trimToStop ch _))
    refine settledAt_of_running (EditorAt.modChannel h.editor fun _ => rfl) ?_
    rw [State.modChannel_channels, look_put_same]
    exact hmode

/-- A halt drops the stop (R65). -/
theorem settled_haltChannel (h : SettledAt s ch) : SettledAt (haltChannel ch s) ch := by
  unfold haltChannel
  dsimp only
  split
  · have halted : SettledAt (s.modChannel ch haltRecord) ch :=
      settledAt_modChannel ⟨h.editor, ChannelMode.noConfusion, fun _ => rfl⟩
    exact halted.of_play ((play_raise _ _).trans ((play_withdrawPrefetch ch _).trans (play_eachPin _ _ fun _ _ => rfl)))
  · exact h

theorem settled_carryStop (h : SettledAt s ch) : SettledAt (carryStop ch s) ch := by
  unfold carryStop
  dsimp only
  split
  · exact settled_enterIdle ch s
  · exact h

theorem settled_takeFirings (fired : BitVec 4) (h : SettledAt s ch) : SettledAt (takeFirings fired ch s) ch := by
  unfold takeFirings
  split
  · refine settledAt_of_running (EditorAt.modChannel h.editor fun _ => rfl) ?_
    rw [State.modChannel_channels, look_put_same]
  · split
    · exact h
    · split
      · exact h.sameStanding fun _ => rfl
      · exact h

theorem settled_handOver (values : ChanId → TickValue) (h : SettledAt s ch) : SettledAt (handOver values ch s) ch := by
  have hand : ∀ f : Channel → Channel, (∀ c, (f c).standing = c.standing) → SettledAt (s.modChannel ch f) ch :=
    fun _ hf => h.sameStanding hf
  unfold handOver
  dsimp only
  split
  · exact hand _ fun _ => rfl
  · exact hand _ fun _ => rfl
  · split <;> exact hand _ fun _ => rfl
  · split
    · unfold handComputed
      dsimp only
      split
      · exact hand _ fun _ => rfl
      · have clipped := fun z =>
          (hand (handCode z ∘ fun c => { c with underrunEpisode := false }) fun _ => rfl).sameStanding
            (f := clipRecord) fun _ => rfl
        split
        · exact clipped _
        · exact (clipped _).raised _
    · split
      · exact hand _ fun _ => rfl
      · exact SettledAt.raised _ (hand _ fun _ => rfl)
    · exact hand _ fun _ => rfl
    · exact hand _ fun _ => rfl

theorem settled_advance (jumps : ChanId → Option SlotIx) (h : SettledAt s ch) : SettledAt (advance jumps ch s) ch := by
  unfold advance
  dsimp only
  split
  · next hmode =>
    split
    · exact settled_passEnds h.editor hmode
    · have moved : SettledAt (s.modChannel ch fun c =>
          { c with phase := (look s.channels ch).phase + (look s.channels ch).currentStep }) ch :=
        h.sameStanding fun _ => rfl
      have played := moved.of_play (play_movePlay ch _)
      split <;> split
      · exact moved
      · exact played
      · exact settled_entryEnd moved.editor
      · exact settled_entryEnd played.editor
  · exact h

/-! ### All channels -/

/-- The laws read the channels and the tables alone. -/
theorem AllSettled.congr (h : AllSettled s) (hchannels : t.channels = s.channels) (htables : t.tables = s.tables) :
    AllSettled t := by
  intro ch
  unfold SettledAt
  rw [hchannels, htables]
  exact h ch

theorem AllSettled.of_play (h : AllSettled s) (hplay : t.play = s.play) : AllSettled t :=
  h.congr (channels_of_play hplay) (tables_of_play hplay)

/-- One channel's work keeps the laws of all where it keeps that channel's. -/
theorem AllSettled.of_only (h : AllSettled s) (honly : OnlyChannel ch s t) (hch : SettledAt t ch) : AllSettled t := by
  intro e
  by_cases he : e = ch
  · subst he
    exact hch
  · unfold SettledAt
    rw [honly.channels e he, honly.tables e he]
    exact h e

theorem AllSettled.modChannel (h : AllSettled s) {f : Channel → Channel}
    (hf : Settled (f (look s.channels ch)) (look s.tables ch)) : AllSettled (s.modChannel ch f) :=
  h.of_only ((OnlyChannel.refl ch s).modChannel f) (settledAt_modChannel hf)

/-- The same work on several channels. -/
theorem allSettled_foldl {f : ChanId → State → State} (honly : ∀ ch u, OnlyChannel ch u (f ch u))
    (hf : ∀ ch u, SettledAt u ch → SettledAt (f ch u) ch) (l : List ChanId) :
    ∀ s, AllSettled s → AllSettled (l.foldl (fun u ch => f ch u) s) := by
  induction l with
  | nil => exact fun _ h => h
  | cons ch l ih => exact fun s h => ih _ (h.of_only (honly ch s) (hf ch s (h ch)))

theorem allSettled_eachChannel {f : ChanId → State → State} (honly : ∀ ch u, OnlyChannel ch u (f ch u))
    (hf : ∀ ch u, SettledAt u ch → SettledAt (f ch u) ch) (h : AllSettled s) : AllSettled (eachChannel f s) := by
  rw [eachChannel_eq]
  exact allSettled_foldl honly hf _ s h

theorem allSettled_tickHanded (levels : BitVec 8) (h : AllSettled s) : AllSettled (tickHanded levels s) := by
  have opened : AllSettled (tickOpening levels s) :=
    allSettled_eachChannel onlyChannel_carryStop (fun _ _ => settled_carryStop) (h.of_play (play_sampleInputs levels s))
  have evaluated := opened.of_play (play_eachCond (f := evaluate) (fun k u => play_evaluate k u) _)
  have ready : AllSettled (tickFirings (tickOpening levels s)) :=
    allSettled_eachChannel (onlyChannel_takeFirings _) (fun _ _ => settled_takeFirings _) evaluated
  unfold tickHanded
  dsimp only
  refine AllSettled.of_play ?_ (play_eachPin _ _ fun i u => play_markerTick _ i u)
  refine AllSettled.of_play ?_ (play_eachChannel (fun ch u => play_showPattern ch u) _)
  exact allSettled_eachChannel (onlyChannel_handOver _) (fun _ _ => settled_handOver _) ready

theorem allSettled_tick (levels : BitVec 8) (h : AllSettled s) : AllSettled (tick levels s) := by
  rw [tick_eq]
  refine AllSettled.of_play ?_ (play_eachChannel (fun ch u => play_presentPrefetch ch u) _)
  exact allSettled_eachChannel (onlyChannel_advance _) (fun _ _ => settled_advance _) (allSettled_tickHanded levels h)

theorem allSettled_gateEnd (h : AllSettled s) : AllSettled (gateEnd s) := by
  have gated : AllSettled { s with monitor := gateRecord s.monitor } := h.congr rfl rfl
  unfold gateEnd
  dsimp only
  split
  · exact (allSettled_eachChannel onlyChannel_haltChannel (fun _ _ => settled_haltChannel) gated).of_play (play_raise _ _)
  · split
    · exact gated.of_play (play_raise _ _)
    · exact gated

theorem play_scrubMicrosecond (s : State) : (scrubMicrosecond s).play = s.play := by
  unfold scrubMicrosecond
  split
  · rfl
  · split
    · exact play_scrubExpire s
    · rfl

theorem allSettled_microsecond (h : AllSettled s) : AllSettled (microsecond s) := by
  have gate : AllSettled (gateMicrosecond s) := by
    unfold gateMicrosecond
    split
    · exact allSettled_gateEnd h
    · exact h.congr rfl rfl
  exact gate.of_play (play_scrubMicrosecond _)

end Sys2Proof.Machine
end

-- ==== Staged slots: counts and copies ====
section
/-! SUPPORT. What the change of one staged slot and the discard of all 64 come to, as one change of the state (R28, R30,
R31, R41). -/

namespace Sys2Proof.Machine

open Sys2Proof

variable {s : State} {ch : ChanId}

theorem put_put {α : Type} {n : Nat} (v : Vector α n) (i : Fin n) (x y : α) : put (put v i x) i y = put v i y :=
  vector_ext_look fun j => by simp only [look_put]; split <;> rfl

/-! ### One slot -/

/-- The reference counts are the one thing a slot's change moves (R28): none where the segment named stays, otherwise the
old one's down and the new one's up. -/
theorem look_adjustRefs (old new : Option Entry) (s : State) (id : SegId) :
    look (adjustRefs old new s).slots id = { look s.slots id with
      refCount := if old.map Entry.segment = new.map Entry.segment then (look s.slots id).refCount
        else (look s.slots id).refCount - (if old.map Entry.segment = some id then 1 else 0) +
          if new.map Entry.segment = some id then 1 else 0 } := by
  have add : ∀ (a : SegId) (u : State), look (addRef a u).slots id =
      { look u.slots id with refCount := (look u.slots id).refCount + if a = id then 1 else 0 } := fun a u => by
    rw [addRef, State.modSlot_slots, look_put]
    split
    · next h => rw [h]
    · rfl
  have drop : ∀ (a : SegId) (u : State), look (dropRef a u).slots id =
      { look u.slots id with refCount := (look u.slots id).refCount - if a = id then 1 else 0 } := fun a u => by
    rw [dropRef, State.modSlot_slots, look_put]
    split
    · next h => rw [h]
    · rfl
  cases old with
  | none =>
    cases new with
    | none => rfl
    | some b => simp [adjustRefs, add]
  | some a =>
    cases new with
    | none => simp [adjustRefs, drop]
    | some b =>
      by_cases hab : a.segment = b.segment
      · simp [adjustRefs, hab]
      · simp [adjustRefs, hab, add, drop]

theorem adjustRefs_eq (old new : Option Entry) (s : State) :
    adjustRefs old new s = { s with slots := (adjustRefs old new s).slots } := by
  unfold adjustRefs
  split
  · rfl
  · rfl
  · rfl
  · split <;> rfl

/-- A staged slot's change as one change of the state. -/
theorem stageSlot_eq (ch : ChanId) (x : SlotIx) (e : Option Entry) (s : State) :
    stageSlot ch x e s = { s with
      slots := (adjustRefs (look (look s.tables ch).staged.slots x) e s).slots
      tables := put s.tables ch { look s.tables ch with
        staged := { (look s.tables ch).staged with slots := put (look s.tables ch).staged.slots x e } } } := by
  rw [stageSlot, adjustRefs_eq]
  rfl

/-- The editor's change of a staged slot as one change of the state (R29, R30, R31). -/
theorem setStagedSlot_changes (n : LinkId) (ch : ChanId) (x : SlotIx) (e : Option Entry) (s : State) :
    setStagedSlot n ch x e s = { s with
      slots := (adjustRefs (look (look s.tables ch).staged.slots x) e s).slots
      tables := put s.tables ch { look s.tables ch with
        editor := some n
        staged := { (look s.tables ch).staged with slots := put (look s.tables ch).staged.slots x e } } } := by
  rw [setStagedSlot, adjustRefs_eq]
  rfl

/-! ### All slots -/

/-- A channel's tables once these staged slots hold what the active ones do (R41). -/
def slotsCopied (l : List SlotIx) (t : Tables) : Tables :=
  { t with staged := { t.staged with slots := l.foldl (fun v x => put v x (look t.active.slots x)) t.staged.slots } }

theorem foldl_discardSlot (ch : ChanId) (l : List SlotIx) : ∀ s, ∃ slots, l.foldl (discardSlot ch) s =
    { s with slots := slots, tables := put s.tables ch (slotsCopied l (look s.tables ch)) } := by
  induction l with
  | nil =>
    intro s
    have hsame : put s.tables ch (slotsCopied [] (look s.tables ch)) = s.tables := put_look s.tables ch
    exact ⟨s.slots, by rw [hsame]; rfl⟩
  | cons x l ih =>
    intro s
    obtain ⟨slots, h⟩ := ih (discardSlot ch s x)
    refine ⟨slots, ?_⟩
    rw [List.foldl_cons, h, discardSlot_eq, stageSlot_eq]
    simp only [look_put_same, put_put]
    rfl

theorem look_foldl_put {α : Type} {n : Nat} (g : Fin n → α) (y : Fin n) (l : List (Fin n)) : ∀ v : Vector α n,
    look (l.foldl (fun v x => put v x (g x)) v) y = if y ∈ l then g y else look v y := by
  induction l with
  | nil => exact fun v => (if_neg List.not_mem_nil).symm
  | cons x l ih =>
    intro v
    rw [List.foldl_cons, ih, look_put]
    by_cases hl : y ∈ l
    · simp [hl]
    · by_cases hx : x = y
      · simp [hl, hx]
      · simp [hl, hx, Ne.symm hx]

/-- All 64 staged slots copied are the active ones. -/
theorem slotsCopied_all (t : Tables) :
    slotsCopied (List.finRange 64) t = { t with staged := { t.staged with slots := t.active.slots } } := by
  have h : (List.finRange 64).foldl (fun v x => put v x (look t.active.slots x)) t.staged.slots = t.active.slots :=
    vector_ext_look fun y => by rw [look_foldl_put, if_pos (List.mem_finRange y)]
  rw [slotsCopied, h]

/-- The discard as one change of the state (R41). -/
theorem copyActive_changes (ch : ChanId) (s : State) : ∃ slots : Vector Slot 256, copyActive ch s = { s with
    slots := slots
    tables := put s.tables ch { look s.tables ch with staged := (look s.tables ch).active, editor := none } } := by
  obtain ⟨slots, h⟩ := foldl_discardSlot ch (List.finRange 64) s
  refine ⟨slots, ?_⟩
  rw [copyActive, h, slotsCopied_all, State.modTables]
  simp only [look_put_same, put_put]

/-- A slot's record but for its reference count. -/
def Slot.uncounted (x : Slot) : Slot := { x with refCount := 0 }

theorem eq_of_uncounted {x y : Slot} (h : x.uncounted = y.uncounted) : x = { y with refCount := x.refCount } := by
  cases x
  cases y
  simp only [Slot.uncounted, Slot.mk.injEq] at h ⊢
  exact h

theorem copyActive_slots (ch : ChanId) (s : State) :
    (copyActive ch s).slots = ((List.finRange 64).foldl (discardSlot ch) s).slots := by
  rw [copyActive, State.modTables_slots]

/-- The discard moves nothing of a segment but its count (R28, R41). -/
theorem look_copyActive (ch : ChanId) (s : State) (id : SegId) :
    look (copyActive ch s).slots id =
      { look s.slots id with refCount := (look (copyActive ch s).slots id).refCount } := by
  rw [copyActive_slots]
  refine eq_of_uncounted (foldl_keeps (fun u => (look u.slots id).uncounted) (discardSlot ch) (fun u x => ?_) _ s)
  rw [discardSlot, State.modTables_slots, look_adjustRefs]
  rfl

/-- A staged slot's copy moves a segment's count as it moves the names in the staged bank (R28). -/
theorem refCount_discardSlot {id : SegId} {k : Nat} (x : SlotIx)
    (h : (look s.slots id).refCount = k + bankRefs (look s.tables ch).staged id) :
    (look (discardSlot ch s x).slots id).refCount = k + bankRefs (look (discardSlot ch s x).tables ch).staged id := by
  have hnames := names_le_bankRefs (look s.tables ch).staged x id
  have hslot := adjustRefs_refCount (look (look s.tables ch).staged.slots x)
    (look (look s.tables ch).active.slots x) s id (by omega)
  have hbank := bankRefs_put (look s.tables ch).staged x (look (look s.tables ch).active.slots x) id
  rw [discardSlot_eq, stageSlot_tables_same, stageSlot_eq]
  dsimp only
  omega

theorem refCount_foldl_discardSlot {id : SegId} {k : Nat} (l : List SlotIx) : ∀ s : State,
    (look s.slots id).refCount = k + bankRefs (look s.tables ch).staged id →
    (look (l.foldl (discardSlot ch) s).slots id).refCount =
      k + bankRefs (look (l.foldl (discardSlot ch) s).tables ch).staged id := by
  induction l with
  | nil => exact fun _ h => h
  | cons x l ih => exact fun s h => ih _ (refCount_discardSlot x h)

/-- Under the reference-count law a segment's count moves by what the copy names more or less of it (R28, R41). -/
theorem refCount_copyActive (h : RefLaw s) (id : SegId) :
    (look (copyActive ch s).slots id).refCount =
      (look s.slots id).refCount + bankRefs (look s.tables ch).active id - bankRefs (look s.tables ch).staged id := by
  have hle : bankRefs (look s.tables ch).staged id ≤ (look s.slots id).refCount := by
    have := chanRefs_le s ch id
    have := (h id).1
    unfold chanRefs at *
    omega
  obtain ⟨k, hk⟩ := Nat.exists_eq_add_of_le' hle
  obtain ⟨slots, hfold⟩ := foldl_discardSlot ch (List.finRange 64) s
  have hcount := refCount_foldl_discardSlot (List.finRange 64) s hk
  have hstaged : bankRefs (look ((List.finRange 64).foldl (discardSlot ch) s).tables ch).staged id =
      bankRefs (look s.tables ch).active id := by
    rw [hfold, slotsCopied_all]
    dsimp only
    rw [look_put_same]
    rfl
  rw [copyActive_slots, hcount, hstaged]
  omega

end Sys2Proof.Machine
end

-- ==== Every step keeps the editor and pending laws ====
section
/-! SUPPORT. The commands under the editor and pending laws (R29, R46): those that edit a staged bank meet no commit, those
that move segments meet no channel. -/

namespace Sys2Proof.Machine

open Sys2Proof

variable {s t : State} {ch : ChanId}

/-! ### Editing commands -/

/-- While no commit is pending a channel's tables are free (R29). -/
theorem AllSettled.edited (h : AllSettled s) (hcommit : (look s.channels ch).commit = none) {b : Tables}
    (hchannels : t.channels = s.channels) (htables : t.tables = put s.tables ch b) : AllSettled t := by
  intro d
  unfold SettledAt
  rw [hchannels, htables, look_put]
  split
  · next hd =>
    subst hd
    exact ⟨fun hk => by simp [hcommit] at hk, (h ch).idle, (h ch).stop⟩
  · exact h d

theorem allSettled_writeEntry (n : LinkId) (tag : Byte) (p : List Byte) (h : AllSettled s) :
    AllSettled (writeEntry n tag p s) := by
  unfold writeEntry
  split
  · split
    · exact h.of_play (play_refuse ..)
    · next hedit =>
      split
      · exact h.of_play (play_refuse ..)
      · split
        · refine AllSettled.of_play ?_ (play_respond ..)
          rw [setStagedSlot_changes]
          exact h.edited (commit_none_of_editable hedit) rfl rfl
        · exact h.of_play (play_refuse ..)
  · exact h.of_play (play_refuse ..)

theorem allSettled_clearEntry (n : LinkId) (tag : Byte) (p : List Byte) (h : AllSettled s) :
    AllSettled (clearEntry n tag p s) := by
  unfold clearEntry
  split
  · split
    · exact h.of_play (play_refuse ..)
    · next hedit =>
      refine AllSettled.of_play ?_ (play_respond ..)
      rw [setStagedSlot_changes]
      exact h.edited (commit_none_of_editable hedit) rfl rfl
  · exact h.of_play (play_refuse ..)

theorem allSettled_setTableEnd (n : LinkId) (tag : Byte) (p : List Byte) (h : AllSettled s) :
    AllSettled (setTableEnd n tag p s) := by
  unfold setTableEnd
  split
  · split
    · exact h.of_play (play_refuse ..)
    · next hedit =>
      refine AllSettled.of_play ?_ (play_respond ..)
      exact h.edited (commit_none_of_editable hedit) rfl rfl
  · exact h.of_play (play_refuse ..)

theorem allSettled_discardStaged (n : LinkId) (tag : Byte) (p : List Byte) (h : AllSettled s) :
    AllSettled (discardStaged n tag p s) := by
  unfold discardStaged
  split
  · exact h.of_play (play_refuse ..)
  · next ch _ =>
    split
    · exact h.of_play (play_refuse ..)
    · next hedit =>
      obtain ⟨slots, hcopy⟩ := copyActive_changes ch s
      refine AllSettled.of_play ?_ (play_respond ..)
      rw [hcopy]
      exact h.edited (commit_none_of_editable hedit) rfl rfl

/-! ### Commits -/

theorem allSettled_cancelCommit (n : LinkId) (tag : Byte) (p : List Byte) (h : AllSettled s) :
    AllSettled (cancelCommit n tag p s) := by
  unfold cancelCommit
  split
  · exact h.of_play (play_refuse ..)
  · next ch _ =>
    split
    · refine AllSettled.of_play ?_ (play_respond ..)
      exact h.modChannel ⟨Bool.noConfusion, fun hidle => ⟨rfl, ((h ch).idle hidle).2⟩, (h ch).stop⟩
    · exact h.of_play (play_refuse ..)

/-- A swap on an IDLE channel leaves nothing pending there (R36, R37). -/
theorem settled_swapBanks (h : SettledAt s ch) : SettledAt (swapBanks ch s) ch := by
  unfold SettledAt
  rw [swapBanks_channel]
  exact ⟨Bool.noConfusion, fun hidle => ⟨rfl, (h.idle hidle).2⟩, h.stop⟩

/-- A commit is held only by a channel that is not IDLE, and its editor is absent (R36). -/
theorem allSettled_acceptCommit (n : LinkId) (tag : Byte) (ch : ChanId) (k : Commit) (h : AllSettled s)
    (hcommit : (look s.channels ch).commit = none) : AllSettled (acceptCommit n tag ch k s) := by
  unfold acceptCommit
  dsimp only
  have edited : AllSettled (s.modTables ch fun t => { t with editor := none }) := h.edited hcommit rfl rfl
  have absent : (look (s.modTables ch fun t => { t with editor := none }).tables ch).editor = none := by
    rw [State.modTables_tables, look_put_same]
  generalize (s.modTables ch fun t => { t with editor := none }) = u at edited absent ⊢
  split
  · exact (edited.of_only (onlyChannel_swapBanks ch u) (settled_swapBanks (edited ch))).of_play (play_respond ..)
  · exact (edited.of_only (onlyChannel_takeCommit ch _ u) (settled_takeCommit ch _ u)).of_play
      ((play_respond ..).trans (play_presentPrefetch ..))
  · next hidle _ =>
    refine AllSettled.of_play ?_ (play_respond ..)
    exact edited.modChannel ⟨fun _ => absent, fun hmode => absurd hmode hidle, (edited ch).stop⟩

theorem allSettled_commitTable (n : LinkId) (tag : Byte) (p : List Byte) (h : AllSettled s) :
    AllSettled (commitTable n tag p s) := by
  unfold commitTable
  split
  · split
    · exact h.of_play (play_refuse ..)
    · next hedit =>
      split
      · exact h.of_play (play_respond ..)
      · exact allSettled_acceptCommit n tag _ _ h (commit_none_of_editable hedit)
  · exact h.of_play (play_refuse ..)

/-! ### Channel commands -/

theorem allSettled_startChannels (n : LinkId) (tag : Byte) (p : List Byte) (h : AllSettled s) :
    AllSettled (startChannels n tag p s) := by
  unfold startChannels
  split
  · split
    · exact h.of_play (play_respond ..)
    · refine AllSettled.of_play ?_ (play_respond ..)
      exact allSettled_foldl (onlyChannel_startChannel _) (fun _ _ => settled_startChannel) _ s h
  · exact h.of_play (play_refuse ..)

theorem allSettled_stopChannels (n : LinkId) (tag : Byte) (p : List Byte) (h : AllSettled s) :
    AllSettled (stopChannels n tag p s) := by
  unfold stopChannels
  split
  · refine AllSettled.of_play ?_ (play_respond ..)
    exact allSettled_foldl (onlyChannel_stopChannel _) (fun _ _ => settled_stopChannel _) _ s h
  · exact h.of_play (play_refuse ..)

theorem AllSettled.sameStanding (h : AllSettled s) {f : Channel → Channel} (hf : ∀ c, (f c).standing = c.standing) :
    AllSettled (s.modChannel ch f) :=
  h.modChannel ((h ch).of_standing (hf _))

theorem allSettled_channelStatus (n : LinkId) (tag : Byte) (p : List Byte) (h : AllSettled s) :
    AllSettled (channelStatus n tag p s) := by
  unfold channelStatus
  split
  · refine AllSettled.of_play ?_ (play_respond ..)
    split
    · exact h.sameStanding fun _ => rfl
    · exact h
  · exact h.of_play (play_refuse ..)

theorem updateWaits_idle {mode : ChannelMode} {held : Bool} (h : updateWaits mode held = true) : mode ≠ .idle := by
  rintro rfl
  cases h

/-- No scale waits on an IDLE channel (R86). -/
theorem settled_scaleRecord {c : Channel} {t : Tables} (h : Settled c t) (x : Scale) (held : Bool) :
    Settled (scaleRecord x held c) t := by
  unfold scaleRecord
  split
  · next hwaits => exact ⟨h.editor, fun hidle => absurd hidle (updateWaits_idle hwaits), h.stop⟩
  · exact ⟨h.editor, fun hidle => ⟨(h.idle hidle).1, rfl, (h.idle hidle).2.2⟩, h.stop⟩

/-- No rate waits on an IDLE channel (R87). -/
theorem settled_rateRecord {c : Channel} {t : Tables} (h : Settled c t) (e : Option Entry) (step : Nat) (held : Bool) :
    Settled (rateRecord e step held c) t := by
  unfold rateRecord
  split
  · next hwaits => exact ⟨h.editor, fun hidle => absurd hidle (updateWaits_idle hwaits), h.stop⟩
  · split <;> exact ⟨h.editor, fun hidle => ⟨(h.idle hidle).1, (h.idle hidle).2.1, rfl⟩, h.stop⟩

theorem allSettled_setScale (n : LinkId) (tag : Byte) (p : List Byte) (h : AllSettled s) :
    AllSettled (setScale n tag p s) := by
  unfold setScale
  split
  · exact AllSettled.of_play (h.modChannel (settled_scaleRecord (h _) _ _)) (play_respond ..)
  · exact h.of_play (play_refuse ..)

theorem allSettled_setRate (n : LinkId) (tag : Byte) (p : List Byte) (h : AllSettled s) :
    AllSettled (setRate n tag p s) := by
  unfold setRate
  split
  · exact AllSettled.of_play (h.modChannel (settled_rateRecord (h _) _ _ _)) (play_respond ..)
  · exact h.of_play (play_refuse ..)

theorem allSettled_setChannelConfig (n : LinkId) (tag : Byte) (p : List Byte) (h : AllSettled s) :
    AllSettled (setChannelConfig n tag p s) := by
  unfold setChannelConfig
  split
  · split
    · exact h.of_play (play_refuse ..)
    · split
      · exact h.of_play (play_refuse ..)
      · refine AllSettled.of_play ?_ (play_respond ..)
        exact h.sameStanding fun _ => rfl
  · exact h.of_play (play_refuse ..)

/-! ### Segments -/

/-- The channels and the tables. -/
def State.seats (s : State) : Vector Channel 4 × Vector Tables 4 := (s.channels, s.tables)

theorem seats_of_play (h : t.play = s.play) : t.seats = s.seats :=
  congrArg₂ Prod.mk (channels_of_play h) (tables_of_play h)

theorem seats_freeSegment (id : SegId) (s : State) : (freeSegment id s).seats = s.seats := by
  unfold freeSegment
  split <;> rfl

theorem seats_createSegment (n : LinkId) (tag : Byte) (p : List Byte) (s : State) :
    (createSegment n tag p s).seats = s.seats := by
  unfold createSegment
  dsimp only
  split
  · rfl
  · split
    · rfl
    · split
      · rfl
      · rw [seats_of_play (play_execute ..)]
        rfl

theorem seats_finishSegment (n : LinkId) (tag : Byte) (p : List Byte) (s : State) :
    (finishSegment n tag p s).seats = s.seats := by
  unfold finishSegment
  dsimp only
  split
  · split <;> rfl
  · rfl
  · rfl

/-- A segment freed with its records, the links told, is nothing to the channels. -/
theorem seats_freed (n : LinkId) (tag : Byte) (id : SegId) (s : State) :
    (respond n tag .ok [] ((presentWriteSide (freeSegment id (dropSegmentRecords id s))).raise .libraryChanged)).seats =
      s.seats := by
  rw [seats_of_play (play_respond ..), seats_of_play (play_raise ..), seats_of_play (play_presentWriteSide _),
    seats_freeSegment, seats_of_play (play_dropSegmentRecords ..)]

theorem seats_abandonSegment (n : LinkId) (tag : Byte) (p : List Byte) (s : State) :
    (abandonSegment n tag p s).seats = s.seats := by
  unfold abandonSegment
  dsimp only
  split
  · split
    · rfl
    · exact seats_freed n tag _ s
  · rfl
  · rfl

theorem seats_deleteSegment (n : LinkId) (tag : Byte) (p : List Byte) (s : State) :
    (deleteSegment n tag p s).seats = s.seats := by
  unfold deleteSegment
  dsimp only
  split
  · split
    · rfl
    · split
      · rfl
      · exact (seats_freed n tag _ _).trans (seats_of_play (play_withdrawScrub ..))
  · rfl
  · rfl

theorem AllSettled.of_seats (h : AllSettled s) (hseats : t.seats = s.seats) : AllSettled t :=
  h.congr (congrArg Prod.fst hseats) (congrArg Prod.snd hseats)

/-- A link reset only ever makes an editor absent (R45). -/
theorem allSettled_linkResets (n : LinkId) (h : AllSettled s) : AllSettled (linkResets n s) := by
  rw [linkResets_changes]
  intro ch
  have released : look (s.tables.map (releaseEditor n)) ch = releaseEditor n (look s.tables ch) := by simp [look]
  refine ⟨fun hk => ?_, (h ch).idle, (h ch).stop⟩
  dsimp only
  rw [released, releaseEditor_eq]
  dsimp only
  rw [(h ch).editor hk, ite_self]

/-! ### Every command -/

theorem allSettled_reset : AllSettled State.reset := allSettled_iff.mpr ⟨editorLaw_reset, pendingLaw_reset⟩

/-- Every command keeps both laws. -/
theorem exec_allSettled {c : Instr} (h : AllSettled s) (hexec : exec c s = .next t) : AllSettled t := by
  by_cases hp : Instr.playsNothing c = true
  · exact h.of_play (exec_play hp hexec)
  have frame : ∀ {n tag code p judge}, Host.Outcome.next (takeFrame n tag code p judge s) =
      (Host.Outcome.next t : Result) → (∀ u, AllSettled u → AllSettled (judge u)) → AllSettled t := by
    intro n tag code p judge e hj
    cases e
    exact takeFrame_law (fun _ _ _ hu => hu.congr rfl rfl) hj n tag code p h
  have ticks : ∀ {levels} {b : Bool}, Host.Outcome.next (if b then tick levels s else s) =
      (Host.Outcome.next t : Result) → AllSettled t := by
    intro levels b e
    cases e
    split
    · exact allSettled_tick levels h
    · exact h
  cases c with
  | powerOnReset selected =>
    cases hexec
    exact allSettled_reset.congr rfl rfl
  | linkReset n =>
    cases hexec
    exact allSettled_linkResets n h
  | createSegment n tag p => exact frame hexec fun u hu => hu.of_seats (seats_createSegment n tag p u)
  | finishSegment n tag p => exact frame hexec fun u hu => hu.of_seats (seats_finishSegment n tag p u)
  | abandonSegment n tag p => exact frame hexec fun u hu => hu.of_seats (seats_abandonSegment n tag p u)
  | deleteSegment n tag p => exact frame hexec fun u hu => hu.of_seats (seats_deleteSegment n tag p u)
  | writeEntry n tag p => exact frame hexec fun _ => allSettled_writeEntry n tag p
  | clearEntry n tag p => exact frame hexec fun _ => allSettled_clearEntry n tag p
  | setTableEnd n tag p => exact frame hexec fun _ => allSettled_setTableEnd n tag p
  | commitTable n tag p => exact frame hexec fun _ => allSettled_commitTable n tag p
  | cancelCommit n tag p => exact frame hexec fun _ => allSettled_cancelCommit n tag p
  | discardStaged n tag p => exact frame hexec fun _ => allSettled_discardStaged n tag p
  | start n tag p => exact frame hexec fun _ => allSettled_startChannels n tag p
  | stop n tag p => exact frame hexec fun _ => allSettled_stopChannels n tag p
  | channelStatus n tag p => exact frame hexec fun _ => allSettled_channelStatus n tag p
  | setScale n tag p => exact frame hexec fun _ => allSettled_setScale n tag p
  | setRate n tag p => exact frame hexec fun _ => allSettled_setRate n tag p
  | setChannelConfig n tag p => exact frame hexec fun _ => allSettled_setChannelConfig n tag p
  | outputTick levels =>
    obtain rfl : tick levels s = t := Host.Outcome.next.inj hexec
    exact allSettled_tick levels h
  | conditionFiring k levels => exact ticks hexec
  | holdoffExpiry k levels => exact ticks hexec
  | passEnd ch levels => exact ticks hexec
  | markerPulseEnd i levels => exact ticks hexec
  | measurementGateEnd =>
    cases hexec
    exact allSettled_gateEnd h
  | _ => exact absurd rfl hp

/-- Settles O56: both laws are one law of each channel, kept by every command and by the microsecond. -/
theorem stepsKeepTheEditorAndPendingLaws : Obligations.StepsKeepTheEditorAndPendingLaws := by
  unfold Obligations.StepsKeepTheEditorAndPendingLaws
  intro s t h hstep
  exact allSettled_iff.mp (step_law (P := AllSettled) (fun _ _ hu => hu.congr rfl rfl)
    (fun _ => allSettled_microsecond) (fun _ _ _ => exec_allSettled) (allSettled_iff.mpr h) hstep)

end Sys2Proof.Machine
end

-- ==== The fields of the table commands ====
section
/-! SUPPORT. The readers of the table commands' payloads (R178, spec 10 section 10.7.3): each reads past a byte what stands
behind it, reads back what a writer put there, and fails where a byte is outside its values. -/

namespace Sys2Proof.Machine

open Sys2Proof

variable {p : List Byte} {i : Nat}

/-! ### Behind a byte -/

theorem gateAt_cons_succ (b : Byte) (p : List Byte) (i : Nat) : gateAt (b :: p) (i + 1) = gateAt p i := by
  simp only [gateAt, byteAt_cons_succ]

theorem jumpAt_cons_succ (b : Byte) (p : List Byte) (i : Nat) : jumpAt (b :: p) (i + 1) = jumpAt p i := by
  simp only [jumpAt, Nat.add_right_comm i 1, flagAt_cons_succ, finAt_cons_succ]

theorem stepOverrideAt_cons_succ (b : Byte) (p : List Byte) (i : Nat) :
    stepOverrideAt (b :: p) (i + 1) = stepOverrideAt p i := by
  simp only [stepOverrideAt, flagAt_cons_succ, fieldAt_cons_succ]

theorem entryAtOffset_cons_succ (b : Byte) (p : List Byte) (i : Nat) :
    entryAtOffset (b :: p) (i + 1) = entryAtOffset p i := by
  have segment : segmentAt (b :: p) (i + 1) = segmentAt p i := by simp only [segmentAt, byteAt_cons_succ]
  simp only [entryAtOffset, Nat.add_right_comm i 1, segment, gateAt_cons_succ, flagAt_cons_succ, jumpAt_cons_succ,
    stepOverrideAt_cons_succ, byteAt_cons_succ, fieldAt_cons_succ]

/-- The second and the third of the payload's fixed units. -/
theorem finAt_second {n : Nat} (hn : n ≤ 256) (b : Byte) (x : Fin n) (p : List Byte) :
    finAt n (b :: oneByte x.val :: p) 1 = some x :=
  (finAt_cons_succ n b _ 0).trans (finAt_oneByte hn x p)

theorem finAt_third {n : Nat} (hn : n ≤ 256) (a b : Byte) (x : Fin n) (p : List Byte) :
    finAt n (a :: b :: oneByte x.val :: p) 2 = some x :=
  (finAt_cons_succ n a _ 1).trans (finAt_second hn b x p)

theorem flagAt_second (a : Byte) (b : Bool) (p : List Byte) : flagAt (a :: boolByte b :: p) 1 = some b :=
  (flagAt_cons_succ a _ 0).trans (flagAt_boolByte b p)

/-- The point as a flag. -/
def pointOf (late : Bool) : CommitPoint := if late then .atTableEnd else .atEntryEnd

theorem commitPointAt_second (a : Byte) (late : Bool) (p : List Byte) :
    commitPointAt (a :: boolByte late :: p) 1 = some (pointOf late) := by
  cases late <;> rfl

/-! ### Outside the values -/

theorem finAt_none {n : Nat} (h : n ≤ byteAt p i) : finAt n p i = none := dif_neg (by omega)

theorem flagAt_lt {b : Bool} (h : flagAt p i = some b) : byteAt p i < 2 := by
  unfold flagAt at h
  split at h
  · omega
  · omega
  · cases h

theorem flagAt_none (h : 2 ≤ byteAt p i) : flagAt p i = none :=
  Option.eq_none_iff_forall_ne_some.mpr fun _ hb => by have := flagAt_lt hb; omega

theorem commitPointAt_none (h : 2 ≤ byteAt p i) : commitPointAt p i = none := by
  unfold commitPointAt
  split
  · omega
  · omega
  · rfl

theorem finAt_lt {n : Nat} {x : Fin n} (h : finAt n p i = some x) : byteAt p i < n := by
  by_contra hn
  rw [finAt_none (by omega)] at h
  cases h

theorem gateAt_lt {g : Option CondId} (h : gateAt p i = some g) : byteAt p i < 5 := by
  unfold gateAt at h
  dsimp only at h
  split at h
  · omega
  · split at h
    · omega
    · cases h

theorem jumpAt_lt {j : Option Jump} (h : jumpAt p i = some j) :
    byteAt p i < 2 ∧ (byteAt p i = 1 → byteAt p (i + 1) < 4 ∧ byteAt p (i + 2) < 2 ∧ byteAt p (i + 3) < 64) := by
  unfold jumpAt at h
  split at h
  · cases h
  · next hflag =>
    have absent : byteAt p i ≠ 1 := fun he => by simp [flagAt, he] at hflag
    exact ⟨flagAt_lt hflag, fun he => absurd he absent⟩
  · next hflag =>
    split at h
    · next hcond htiming htarget =>
      exact ⟨flagAt_lt hflag, fun _ => ⟨finAt_lt hcond, flagAt_lt htiming, finAt_lt htarget⟩⟩
    · cases h

theorem stepOverrideAt_lt {st : Option Nat} (h : stepOverrideAt p i = some st) : byteAt p i < 2 := by
  unfold stepOverrideAt at h
  split at h
  · cases h
  · exact flagAt_lt ‹_›
  · exact flagAt_lt ‹_›

/-- What an entry record that reads as an entry holds in each of its fields (R30 step 4). -/
theorem entryAtOffset_lt {e : Entry} (h : entryAtOffset p i = some e) :
    byteAt p (i + 3) < 5 ∧ byteAt p (i + 4) < 2 ∧ byteAt p (i + 5) < 16 ∧ byteAt p (i + 6) < 2 ∧
      (byteAt p (i + 6) = 1 → byteAt p (i + 7) < 4 ∧ byteAt p (i + 8) < 2 ∧ byteAt p (i + 9) < 64) ∧
      byteAt p (i + 10) < 2 := by
  unfold entryAtOffset at h
  split at h
  · next hgate hpark hjump hstep =>
    split at h
    · next hmarkers =>
      obtain ⟨hpresent, hfields⟩ := jumpAt_lt hjump
      exact ⟨gateAt_lt hgate, flagAt_lt hpark, hmarkers, hpresent, hfields, stepOverrideAt_lt hstep⟩
    · cases h
  · cases h

/-! ### An entry record read back -/

theorem gateAt_unitByte (g : Option CondId) (p : List Byte) : gateAt (unitByte g :: p) 0 = some g := by
  cases g with
  | none => rfl
  | some k => fin_cases k <;> rfl

/-- A jump's four bytes; what stands behind an absent one is not examined. -/
def jumpBytes (skipped : List Byte) : Option Jump → List Byte
  | none => 0#8 :: skipped
  | some j => [1#8, oneByte j.cond.val, boolByte (j.timing = .atPassEnd), oneByte j.target.val]

/-- A step override's five bytes; what stands behind an absent one is not examined. -/
def stepBytes (skipped : List Byte) : Option Nat → List Byte
  | none => 0#8 :: skipped
  | some st => 1#8 :: leBytes 4 st

/-- An entry record as a command writes it (spec 10 section 10.7.3), with the bytes that are not examined (R178). -/
def entryBytes (e : Entry) (skipped : List Byte) : List Byte :=
  oneByte e.segment.val :: leBytes 2 e.repeats ++
    unitByte e.gate :: boolByte (e.waitLevel = .park) :: oneByte e.markers.toNat ::
      (jumpBytes (skipped.take 3) e.jump ++ stepBytes (skipped.drop 3) e.step)

theorem length_jumpBytes {skipped : List Byte} (h : skipped.length = 3) (j : Option Jump) :
    (jumpBytes skipped j).length = 4 := by
  cases j <;> simp [jumpBytes, h]

theorem length_entryBytes (e : Entry) {skipped : List Byte} (h : skipped.length = 7) :
    (entryBytes e skipped).length = 15 := by
  have hjump : (jumpBytes (skipped.take 3) e.jump).length = 4 := length_jumpBytes (by simp [h]) _
  have hstep : (stepBytes (skipped.drop 3) e.step).length = 5 := by cases e.step <;> simp [stepBytes, h]
  simp [entryBytes, hjump, hstep]

theorem jumpAt_jumpBytes (skipped : List Byte) (j : Option Jump) (p : List Byte) :
    jumpAt (jumpBytes skipped j ++ p) 0 = some j := by
  cases j with
  | none => rfl
  | some j =>
    obtain ⟨cond, timing, target⟩ := j
    have htarget : finAt 64 (1#8 :: oneByte cond.val :: boolByte (timing = .atPassEnd) :: oneByte target.val :: p) 3 =
        some target := (finAt_cons_succ 64 _ _ 2).trans (finAt_third (by decide) _ _ target p)
    have htiming : flagAt (1#8 :: oneByte cond.val :: boolByte (timing = .atPassEnd) :: oneByte target.val :: p) 2 =
        some (decide (timing = .atPassEnd)) := (flagAt_cons_succ _ _ 1).trans (flagAt_second _ _ _)
    have hcond := finAt_second (n := 4) (by decide) 1#8 cond (boolByte (timing = .atPassEnd) :: oneByte target.val :: p)
    have hpresent : ∀ q, flagAt (1#8 :: q) 0 = some true := fun _ => rfl
    simp only [jumpBytes, List.cons_append, List.nil_append, jumpAt, hpresent, Nat.zero_add, hcond, htiming, htarget]
    cases timing <;> rfl

theorem stepOverrideAt_stepBytes (skipped : List Byte) (st : Option Nat) :
    stepOverrideAt (stepBytes skipped st) 0 = some (st.map fun n => clampStep (n % 4294967296)) := by
  cases st with
  | none => rfl
  | some n =>
    have hpresent : ∀ q, flagAt (1#8 :: q) 0 = some true := fun _ => rfl
    have hfield : fieldAt (1#8 :: leBytes 4 n) 1 4 = n % 4294967296 := by
      have := fieldAt_leBytes_append [] 4 n
      rw [List.append_nil] at this
      exact (fieldAt_cons_succ _ _ 4 0).trans this
    simp only [stepBytes, stepOverrideAt, hpresent, Nat.zero_add, hfield, Option.map_some]

theorem stepOverrideAt_append_right (p : List Byte) (i : Nat) : ∀ a : List Byte,
    stepOverrideAt (a ++ p) (a.length + i) = stepOverrideAt p i
  | [] => by rw [List.nil_append, List.length_nil, Nat.zero_add]
  | b :: a => by
    rw [List.cons_append, List.length_cons, Nat.add_right_comm, stepOverrideAt_cons_succ,
      stepOverrideAt_append_right p i a]

/-- An entry record reads as its entry, repeats and step as their bytes hold them and the step clamped (R26, R178). -/
theorem entryAtOffset_entryBytes (e : Entry) {skipped : List Byte} (h : skipped.length = 7) (a b : Byte) :
    entryAtOffset (a :: b :: entryBytes e skipped) 2 = some { e with
      repeats := e.repeats % 65536, step := e.step.map fun st => clampStep (st % 4294967296) } := by
  have hstep : stepOverrideAt (jumpBytes (skipped.take 3) e.jump ++ stepBytes (skipped.drop 3) e.step) 4 =
      some (e.step.map fun st => clampStep (st % 4294967296)) := by
    have happend := stepOverrideAt_append_right (stepBytes (skipped.drop 3) e.step) 0 (jumpBytes (skipped.take 3) e.jump)
    rw [length_jumpBytes (by simp [h])] at happend
    exact happend.trans (stepOverrideAt_stepBytes _ _)
  have hrepeats := fun p => fieldAt_leBytes_append p 2 e.repeats
  have hmarkers : e.markers.toNat < 16 := e.markers.isLt
  rw [entryAtOffset_cons_succ, entryAtOffset_cons_succ]
  simp only [entryBytes, entryAtOffset, Nat.zero_add, segmentAt_oneByte, fieldAt_cons_succ, List.cons_append, hrepeats]
  simp only [leBytes, List.cons_append, List.nil_append, gateAt_cons_succ, gateAt_unitByte, flagAt_cons_succ,
    flagAt_boolByte, jumpAt_cons_succ, jumpAt_jumpBytes, stepOverrideAt_cons_succ, hstep, byteAt_cons_succ,
    byteAt_cons_zero, toNat_oneByte]
  have hwait : (if decide (e.waitLevel = .park) = true then WaitLevel.park else .hold) = e.waitLevel := by
    cases e.waitLevel <;> rfl
  rw [Nat.mod_eq_of_lt (by omega), if_pos hmarkers, hwait]
  simp

end Sys2Proof.Machine
end

-- ==== The table commands judged ====
section
/-! SUPPORT. For each command of the sequence tables the outcome of its checks in their order (R30 to R32, R34, R40 to R43),
as an equation per outcome; with them the refusals, the edits and the reports. -/

namespace Sys2Proof.Machine

open Sys2Proof

variable {s u : State} {n : LinkId} {tag : Byte} {p : List Byte} {ch : ChanId} {x : SlotIx} {status : Status}

/-! ### The pending commit and the editor (R29, R34, R41) -/

theorem editRefusal_pending (h : (look s.channels ch).commit.isSome) : editRefusal s ch n = some .commitPending :=
  if_pos h

theorem editRefusal_busy (hcommit : (look s.channels ch).commit = none)
    (h : (look s.tables ch).editor = some (otherLink n)) : editRefusal s ch n = some .stagedBusy := by
  rw [editRefusal, hcommit, if_pos h]
  rfl

theorem editRefusal_none (hcommit : (look s.channels ch).commit = none)
    (h : (look s.tables ch).editor ≠ some (otherLink n)) : editRefusal s ch n = none := by
  rw [editRefusal, hcommit, if_neg h]
  rfl

/-! ### WRITE_ENTRY and CLEAR_ENTRY (R30, R31) -/

theorem writeEntry_outOfRange (h : finAt 4 p 0 = none ∨ finAt 64 p 1 = none) :
    writeEntry n tag p u = respond n tag .outOfRange [] u := by
  unfold writeEntry
  split
  · simp_all
  · rfl

theorem writeEntry_refused (hch : finAt 4 p 0 = some ch) (hx : finAt 64 p 1 = some x)
    (hedit : editRefusal u ch n = some status) : writeEntry n tag p u = respond n tag status [] u := by
  simp only [writeEntry, hch, hx, hedit]
  rfl

theorem writeEntry_badEntry (hch : finAt 4 p 0 = some ch) (hx : finAt 64 p 1 = some x)
    (hedit : editRefusal u ch n = none) (hentry : entryAtOffset p 2 = none) :
    writeEntry n tag p u = respond n tag .outOfRange [] u := by
  simp only [writeEntry, hch, hx, hedit, hentry]
  rfl

theorem writeEntry_noSegment {e : Entry} (hch : finAt 4 p 0 = some ch) (hx : finAt 64 p 1 = some x)
    (hedit : editRefusal u ch n = none) (hentry : entryAtOffset p 2 = some e)
    (hready : isReady (look u.slots e.segment) = false) : writeEntry n tag p u = respond n tag .noSegment [] u := by
  simp only [writeEntry, hch, hx, hedit, hentry, hready]
  rfl

theorem writeEntry_accepted {e : Entry} (hch : finAt 4 p 0 = some ch) (hx : finAt 64 p 1 = some x)
    (hedit : editRefusal u ch n = none) (hentry : entryAtOffset p 2 = some e)
    (hready : isReady (look u.slots e.segment) = true) :
    writeEntry n tag p u = respond n tag .ok [] (setStagedSlot n ch x (some e) u) := by
  simp only [writeEntry, hch, hx, hedit, hentry, hready, if_true]

theorem clearEntry_outOfRange (h : finAt 4 p 0 = none ∨ finAt 64 p 1 = none) :
    clearEntry n tag p u = respond n tag .outOfRange [] u := by
  unfold clearEntry
  split
  · simp_all
  · rfl

theorem clearEntry_refused (hch : finAt 4 p 0 = some ch) (hx : finAt 64 p 1 = some x)
    (hedit : editRefusal u ch n = some status) : clearEntry n tag p u = respond n tag status [] u := by
  simp only [clearEntry, hch, hx, hedit]
  rfl

theorem clearEntry_accepted (hch : finAt 4 p 0 = some ch) (hx : finAt 64 p 1 = some x)
    (hedit : editRefusal u ch n = none) :
    clearEntry n tag p u = respond n tag .ok [] (setStagedSlot n ch x none u) := by
  simp only [clearEntry, hch, hx, hedit]

/-! ### SET_TABLE_END (R32) -/

theorem setTableEnd_outOfRange (h : finAt 4 p 0 = none ∨ finAt 65 p 1 = none ∨ endActionAt p 2 = none) :
    setTableEnd n tag p u = respond n tag .outOfRange [] u := by
  unfold setTableEnd
  split
  · simp_all
  · rfl

theorem setTableEnd_refused {count : Fin 65} {action : EndAction} (hch : finAt 4 p 0 = some ch)
    (hcount : finAt 65 p 1 = some count) (haction : endActionAt p 2 = some action)
    (hedit : editRefusal u ch n = some status) : setTableEnd n tag p u = respond n tag status [] u := by
  simp only [setTableEnd, hch, hcount, haction, hedit]
  rfl

theorem setTableEnd_accepted {count : Fin 65} {action : EndAction} (hch : finAt 4 p 0 = some ch)
    (hcount : finAt 65 p 1 = some count) (haction : endActionAt p 2 = some action) (hedit : editRefusal u ch n = none) :
    setTableEnd n tag p u = respond n tag .ok [] (u.modTables ch fun t =>
      { t with editor := some n, staged := { t.staged with count := count.val, endAction := action } }) := by
  simp only [setTableEnd, hch, hcount, haction, hedit]

/-- LOOP carries its index, STOP does not look at it (R32). -/
theorem endActionAt_loop (a b : Byte) (index : SlotIx) :
    endActionAt [a, b, 1#8, oneByte index.val] 2 = some (.loop index) := by
  have hindex : finAt 64 [a, b, 1#8, oneByte index.val] 3 = some index :=
    (finAt_cons_succ 64 a _ 2).trans (finAt_third (by decide) b 1#8 index [])
  have hflag : flagAt [a, b, 1#8, oneByte index.val] 2 = some true := rfl
  simp only [endActionAt, hflag, hindex, Option.map_some]

theorem endActionAt_stop (a b index : Byte) : endActionAt [a, b, 0#8, index] 2 = some .stop := rfl

theorem endActionAt_none {i : Nat} (h : 2 ≤ byteAt p i ∨ byteAt p i = 1 ∧ 64 ≤ byteAt p (i + 1)) :
    endActionAt p i = none := by
  unfold endActionAt
  split
  · rfl
  · next hflag =>
    obtain h | ⟨h, -⟩ := h
    · rw [flagAt_none h] at hflag
      cases hflag
    · simp [flagAt, h] at hflag
  · next hflag =>
    obtain h | ⟨-, h⟩ := h
    · rw [flagAt_none h] at hflag
      cases hflag
    · rw [finAt_none h]
      rfl

/-! ### COMMIT_TABLE, CANCEL_COMMIT and DISCARD_STAGED (R34, R40, R41) -/

theorem commitTable_outOfRange (h : finAt 4 p 0 = none ∨ commitPointAt p 1 = none ∨ finAt 64 p 2 = none) :
    commitTable n tag p u = respond n tag .outOfRange [] u := by
  unfold commitTable
  split
  · simp_all
  · rfl

theorem commitTable_refused {point : CommitPoint} (hch : finAt 4 p 0 = some ch) (hpoint : commitPointAt p 1 = some point)
    (hx : finAt 64 p 2 = some x) (hedit : editRefusal u ch n = some status) :
    commitTable n tag p u = respond n tag status [] u := by
  simp only [commitTable, hch, hpoint, hx, hedit]
  rfl

theorem commitTable_invalid {point : CommitPoint} {reason index : Nat} (hch : finAt 4 p 0 = some ch)
    (hpoint : commitPointAt p 1 = some point) (hx : finAt 64 p 2 = some x) (hedit : editRefusal u ch n = none)
    (hvalid : validate (look u.tables ch).staged x = some (reason, index)) :
    commitTable n tag p u = respond n tag .invalidTable [oneByte reason, oneByte index] u := by
  simp only [commitTable, hch, hpoint, hx, hedit, hvalid]

theorem commitTable_accepted {point : CommitPoint} (hch : finAt 4 p 0 = some ch) (hpoint : commitPointAt p 1 = some point)
    (hx : finAt 64 p 2 = some x) (hedit : editRefusal u ch n = none)
    (hvalid : validate (look u.tables ch).staged x = none) :
    commitTable n tag p u = acceptCommit n tag ch ⟨point, x⟩ u := by
  simp only [commitTable, hch, hpoint, hx, hedit, hvalid]

theorem cancelCommit_outOfRange (h : finAt 4 p 0 = none) : cancelCommit n tag p u = respond n tag .outOfRange [] u := by
  simp only [cancelCommit, h]
  rfl

theorem cancelCommit_notPending (hch : finAt 4 p 0 = some ch) (h : (look u.channels ch).commit = none) :
    cancelCommit n tag p u = respond n tag .notPending [] u := by
  simp only [cancelCommit, hch, h]
  rfl

theorem cancelCommit_accepted (hch : finAt 4 p 0 = some ch) (h : (look u.channels ch).commit.isSome) :
    cancelCommit n tag p u = respond n tag .ok [] (u.modChannel ch fun c => { c with commit := none }) := by
  simp only [cancelCommit, hch, h, if_true]

theorem discardStaged_outOfRange (h : finAt 4 p 0 = none) : discardStaged n tag p u = respond n tag .outOfRange [] u := by
  simp only [discardStaged, h]
  rfl

theorem discardStaged_refused (hch : finAt 4 p 0 = some ch) (hedit : editRefusal u ch n = some status) :
    discardStaged n tag p u = respond n tag status [] u := by
  simp only [discardStaged, hch, hedit]
  rfl

theorem discardStaged_accepted (hch : finAt 4 p 0 = some ch) (hedit : editRefusal u ch n = none) :
    discardStaged n tag p u = respond n tag .ok [] (copyActive ch u) := by
  simp only [discardStaged, hch, hedit]

/-! ### The reports (R42, R43, R69, R91) -/

theorem readEntry_outOfRange (h : finAt 4 p 0 = none ∨ flagAt p 1 = none ∨ finAt 64 p 2 = none) :
    readEntry n tag p u = respond n tag .outOfRange [] u := by
  unfold readEntry
  split
  · simp_all
  · rfl

theorem readEntry_accepted {staged : Bool} (hch : finAt 4 p 0 = some ch) (hstaged : flagAt p 1 = some staged)
    (hx : finAt 64 p 2 = some x) :
    readEntry n tag p u = respond n tag .ok
      (slotRecord (look (if staged then (look u.tables ch).staged else (look u.tables ch).active).slots x)) u := by
  simp only [readEntry, hch, hstaged, hx]

theorem tableStatus_outOfRange (h : finAt 4 p 0 = none) : tableStatus n tag p u = respond n tag .outOfRange [] u := by
  simp only [tableStatus, h]
  rfl

theorem tableStatus_accepted (hch : finAt 4 p 0 = some ch) :
    tableStatus n tag p u = respond n tag .ok (tableReport (look u.tables ch) (look u.channels ch).commit) u := by
  simp only [tableStatus, hch]

theorem channelStatus_outOfRange (h : finAt 4 p 0 = none ∨ flagAt p 1 = none) :
    channelStatus n tag p u = respond n tag .outOfRange [] u := by
  unfold channelStatus
  split
  · simp_all
  · rfl

theorem channelStatus_accepted {clear : Bool} (hch : finAt 4 p 0 = some ch) (hclear : flagAt p 1 = some clear) :
    channelStatus n tag p u = respond n tag .ok (channelReport (look u.channels ch) (look u.prefetch ch))
      (if clear then u.modChannel ch clearCounters else u) := by
  simp only [channelStatus, hch, hclear]

theorem channelSettings_outOfRange (h : finAt 4 p 0 = none) :
    channelSettings n tag p u = respond n tag .outOfRange [] u := by
  simp only [channelSettings, h]
  rfl

theorem channelSettings_accepted (hch : finAt 4 p 0 = some ch) :
    channelSettings n tag p u = respond n tag .ok (settingsReport (look u.channels ch)) u := by
  simp only [channelSettings, hch]

end Sys2Proof.Machine
end

-- ==== The table commands refused, accepted and reporting ====
section
/-! SUPPORT. The statements about the sequence tables' commands (R25 to R32, R40 to R43, R69, R91), assembled from what
their judgements come to. -/

namespace Sys2Proof.Machine

open Sys2Proof

variable {s : State} {n : LinkId} {ch : ChanId}

/-! ### Refusals -/

/-- The five editing commands are refused alike by the pending commit or the editor (R29, R34, R41). -/
theorem editing_refused {status : Status} (tag : Byte) (h : Takes s n) (hedit : editRefusal s ch n = some status)
    (x target : SlotIx) {record : List Byte} (hlen : record.length = 15) (count : Fin 65) (index : SlotIx)
    (point : Bool) :
    exec (.writeEntry n tag (oneByte ch.val :: oneByte x.val :: record)) s =
        .next { s with links := answered n 17 tag status [] s.links } ∧
      exec (.clearEntry n tag [oneByte ch.val, oneByte x.val]) s =
        .next { s with links := answered n 2 tag status [] s.links } ∧
      exec (.setTableEnd n tag [oneByte ch.val, oneByte count.val, 1#8, oneByte index.val]) s =
        .next { s with links := answered n 4 tag status [] s.links } ∧
      exec (.commitTable n tag [oneByte ch.val, boolByte point, oneByte target.val]) s =
        .next { s with links := answered n 3 tag status [] s.links } ∧
      exec (.discardStaged n tag [oneByte ch.val]) s =
        .next { s with links := answered n 1 tag status [] s.links } := by
  have hch := fun p => finAt_oneByte (n := 4) (by decide) ch p
  have hx := fun b p => finAt_second (n := 64) (by decide) b x p
  refine ⟨?_, ?_, ?_, ?_, ?_⟩
  · exact exec_responds (code := 0x20#8) rfl h (by simp [hlen]) (by decide) (by decide)
      (writeEntry_refused (hch _) (hx _ _) hedit)
  · exact exec_responds (code := 0x21#8) rfl h rfl (by decide) (by decide) (clearEntry_refused (hch _) (hx _ _) hedit)
  · exact exec_responds (code := 0x22#8) rfl h rfl (by decide) (by decide)
      (setTableEnd_refused (hch _) (finAt_second (by decide) _ count _) (endActionAt_loop _ _ index) hedit)
  · exact exec_responds (code := 0x23#8) rfl h rfl (by decide) (by decide)
      (commitTable_refused (hch _) (commitPointAt_second _ point _) (finAt_third (by decide) _ _ target _) hedit)
  · exact exec_responds (code := 0x25#8) rfl h rfl (by decide) (by decide) (discardStaged_refused (hch _) hedit)

theorem entryRecord_eq (e : Entry) : entryRecord e = entryBytes e (List.replicate 7 0#8) := by
  obtain ⟨segment, repeats, gate, wait, jump, markers, step⟩ := e
  cases jump <;> cases step <;> rfl

/-- Settles O31: the refusals in their order, by the judgement lemmas. -/
theorem stagedBankCommandsAreRefused : Obligations.StagedBankCommandsAreRefused := by
  unfold Obligations.StagedBankCommandsAreRefused
  intro n tag s h refused
  refine ⟨fun ch x record count index target point hlen => ⟨fun hcommit => ?_, fun hcommit heditor => ?_⟩,
    fun ch a b c record hlen => ⟨fun hbad => ?_, fun hbad => ?_, fun hbad => ?_, fun hbad => ?_⟩,
    fun ch x record hlen hcommit heditor hbad => ?_, fun ch x e hcommit heditor hready => ?_⟩
  · exact editing_refused tag h (editRefusal_pending hcommit) x target hlen count index point
  · exact editing_refused tag h (editRefusal_busy hcommit heditor) x target hlen count index point
  · have outside : ∀ p, finAt 4 (ch :: a :: p) 0 = none ∨ finAt 64 (ch :: a :: p) 1 = none := fun p =>
      Or.imp finAt_none finAt_none (by simpa using hbad)
    exact ⟨exec_responds (code := 0x20#8) rfl h (len := 17) (by simp [hlen]) (by decide) (by decide)
        (writeEntry_outOfRange (outside _)),
      exec_responds (code := 0x21#8) rfl h (len := 2) rfl (by decide) (by decide) (clearEntry_outOfRange (outside _))⟩
  · have outside : finAt 4 [ch, a, b, c] 0 = none ∨ finAt 65 [ch, a, b, c] 1 = none ∨
        endActionAt [ch, a, b, c] 2 = none :=
      Or.imp finAt_none (Or.imp finAt_none endActionAt_none) (by simpa [BitVec.toNat_eq, or_assoc] using hbad)
    exact exec_responds (code := 0x22#8) rfl h (len := 4) rfl (by decide) (by decide) (setTableEnd_outOfRange outside)
  · have commit : finAt 4 [ch, a, b] 0 = none ∨ commitPointAt [ch, a, b] 1 = none ∨ finAt 64 [ch, a, b] 2 = none :=
      Or.imp finAt_none (Or.imp commitPointAt_none finAt_none) (by simpa using hbad)
    have read : finAt 4 [ch, a, b] 0 = none ∨ flagAt [ch, a, b] 1 = none ∨ finAt 64 [ch, a, b] 2 = none :=
      Or.imp finAt_none (Or.imp flagAt_none finAt_none) (by simpa using hbad)
    exact ⟨exec_responds (code := 0x23#8) rfl h (len := 3) rfl (by decide) (by decide) (commitTable_outOfRange commit),
      exec_responds (code := 0x26#8) rfl h (len := 3) rfl (by decide) (by decide) (readEntry_outOfRange read)⟩
  · have outside : finAt 4 [ch] 0 = none := finAt_none (by simpa using hbad)
    exact ⟨exec_responds (code := 0x24#8) rfl h (len := 1) rfl (by decide) (by decide) (cancelCommit_outOfRange outside),
      exec_responds (code := 0x25#8) rfl h (len := 1) rfl (by decide) (by decide) (discardStaged_outOfRange outside),
      exec_responds (code := 0x27#8) rfl h (len := 1) rfl (by decide) (by decide) (tableStatus_outOfRange outside)⟩
  · have unread : entryAtOffset (oneByte ch.val :: oneByte x.val :: record) 2 = none := by
      rw [entryAtOffset_cons_succ, entryAtOffset_cons_succ]
      refine Option.eq_none_iff_forall_ne_some.mpr fun e he => ?_
      have hgood := entryAtOffset_lt he
      simp only [byteAt, Nat.zero_add] at hgood
      dsimp only at hbad
      omega
    exact exec_responds (code := 0x20#8) rfl h (by simp [hlen]) (by decide) (by decide)
      (writeEntry_badEntry (finAt_oneByte (by decide) ch _) (finAt_second (by decide) _ x _)
        (editRefusal_none hcommit heditor) unread)
  · have hread := entryAtOffset_entryBytes e (List.length_replicate (n := 7) (a := 0#8)) (oneByte ch.val) (oneByte x.val)
    have hlen := length_entryBytes e (List.length_replicate (n := 7) (a := 0#8))
    rw [entryRecord_eq]
    exact exec_responds (code := 0x20#8) rfl h (len := 17) (congrArg (· + 2) hlen) (by decide) (by decide)
      (writeEntry_noSegment (finAt_oneByte (by decide) ch _) (finAt_second (by decide) _ x _)
        (editRefusal_none hcommit heditor) hread hready)

/-! ### Edits -/

/-- What setting a staged slot answers: the slot, the editor and the counts of the segments named (R28 to R31). -/
theorem respond_setStagedSlot (tag : Byte) (len : Nat) (x : SlotIx) (e : Option Entry) (s : State) :
    respond n tag .ok [] (setStagedSlot n ch x e (heard n len s)) = { s with
      slots := (adjustRefs (look (look s.tables ch).staged.slots x) e s).slots
      tables := put s.tables ch { look s.tables ch with
        editor := some n
        staged := { (look s.tables ch).staged with slots := put (look s.tables ch).staged.slots x e } }
      links := answered n len tag .ok [] s.links } := by
  have hslots : (adjustRefs (look (look s.tables ch).staged.slots x) e (heard n len s)).slots =
      (adjustRefs (look (look s.tables ch).staged.slots x) e s).slots :=
    vector_ext_look fun id => by rw [look_adjustRefs, look_adjustRefs]; rfl
  rw [setStagedSlot_changes]
  refine (respond_heard tag .ok [] (links := s.links) rfl).trans ?_
  dsimp only [heard]
  rw [← hslots]
  rfl

/-- Settles O29: the record reads as its entry, clamped, and the staged slot takes it. -/
theorem writeEntrySetsTheStagedSlot : Obligations.WriteEntrySetsTheStagedSlot := by
  unfold Obligations.WriteEntrySetsTheStagedSlot
  intro n tag ch x e skipped s hskipped h hcommit heditor hready hrepeats hsteps stored record old
  have hrecord : record = entryBytes e skipped := by
    obtain ⟨segment, repeats, gate, wait, jump, markers, step⟩ := e
    cases jump <;> cases step <;> rfl
  have hclamp : e.step.map (fun st => clampStep (st % 4294967296)) =
      e.step.map fun st => if st = 0 then 1 else min st 16777216 :=
    Option.map_congr fun st hst => by rw [Nat.mod_eq_of_lt (hsteps st hst)]; rfl
  have hread : entryAtOffset (oneByte ch.val :: oneByte x.val :: record) 2 = some stored := by
    rw [hrecord, entryAtOffset_entryBytes e hskipped, Nat.mod_eq_of_lt hrepeats, hclamp]
  have hlen : record.length = 15 := by rw [hrecord, length_entryBytes e hskipped]
  refine ⟨_, (exec_taken (code := 0x20#8) rfl h (len := 17) (by simp [hlen]) (by decide) (by decide)).trans
    (congrArg _ ((writeEntry_accepted (u := heard n 17 s) (finAt_oneByte (by decide) ch _)
      (finAt_second (by decide) _ x _) (editRefusal_none hcommit heditor) hread hready).trans (respond_setStagedSlot tag 17 x (some stored) s))),
    fun id => ?_⟩
  rw [look_adjustRefs]
  simp only [stored, old, Option.map_some, Option.some.injEq, eq_comm (a := id)]

/-- Settles O30: the staged slot emptied as `respond_setStagedSlot` has it, the end set for either action. -/
theorem clearEntryAndSetTableEnd : Obligations.ClearEntryAndSetTableEnd := by
  unfold Obligations.ClearEntryAndSetTableEnd
  intro n tag ch s h hcommit heditor
  have hch := fun p => finAt_oneByte (n := 4) (by decide) ch p
  have hedit := fun len => editRefusal_none (s := heard n len s) hcommit heditor
  have ended : ∀ (count : Fin 65) (action : EndAction) (a b : Byte),
      endActionAt [oneByte ch.val, oneByte count.val, a, b] 2 = some action →
      exec (.setTableEnd n tag [oneByte ch.val, oneByte count.val, a, b]) s = .next { s with
        tables := put s.tables ch { look s.tables ch with
          editor := some n
          staged := { (look s.tables ch).staged with count := count.val, endAction := action } }
        links := answered n 4 tag .ok [] s.links } := fun count action a b haction => by
    rw [exec_taken (code := 0x22#8) rfl h (len := 4) rfl (by decide) (by decide),
      setTableEnd_accepted (hch _) (finAt_second (by decide) _ count _) haction (hedit 4),
      respond_heard tag .ok [] (links := s.links) rfl]
    rfl
  refine ⟨fun x => ⟨(adjustRefs (look (look s.tables ch).staged.slots x) none s).slots, ?_, fun id => ?_⟩,
    fun count index => ended count .stop _ index (endActionAt_stop _ _ _),
    fun count index => ended count (.loop index) _ _ (endActionAt_loop _ _ index)⟩
  · rw [exec_taken (code := 0x21#8) rfl h (len := 2) rfl (by decide) (by decide),
      clearEntry_accepted (hch _) (finAt_second (by decide) _ x _) (hedit 2), respond_setStagedSlot]
  · rw [look_adjustRefs]
    cases look (look s.tables ch).staged.slots x <;> simp

/-! ### Cancel and discard -/

/-- Settles O34: the discard's 64 copies as one change, the counts by the reference-count law. -/
theorem cancelCommitAndDiscardStaged : Obligations.CancelCommitAndDiscardStaged := by
  unfold Obligations.CancelCommitAndDiscardStaged
  intro n tag ch s h c t
  have hch := finAt_oneByte (n := 4) (by decide) ch []
  refine ⟨fun k hk => ?_, fun hcommit => ?_, fun hcommit heditor => ?_⟩
  · have pending : (look (heard n 1 s).channels ch).commit.isSome := by
      rw [show (look (heard n 1 s).channels ch).commit = some k from hk]
      rfl
    rw [exec_taken (code := 0x24#8) rfl h (len := 1) rfl (by decide) (by decide), cancelCommit_accepted hch pending,
      respond_heard tag .ok [] (links := s.links) rfl]
    rfl
  · exact exec_responds (code := 0x24#8) rfl h rfl (by decide) (by decide) (cancelCommit_notPending hch hcommit)
  · obtain ⟨slots, hcopy⟩ := copyActive_changes ch (heard n 1 s)
    refine ⟨slots, ?_, fun id => ⟨?_, fun href => ?_⟩⟩
    · rw [exec_taken (code := 0x25#8) rfl h (len := 1) rfl (by decide) (by decide),
        discardStaged_accepted hch (editRefusal_none (s := heard n 1 s) hcommit heditor), hcopy,
        respond_heard tag .ok [] (links := s.links) rfl]
      rfl
    · have hid := look_copyActive ch (heard n 1 s) id
      rw [hcopy] at hid
      exact hid
    · have hcount := refCount_copyActive (s := heard n 1 s) (ch := ch) href id
      rw [hcopy] at hcount
      exact hcount

/-! ### Reports -/

/-- Settles O35: each report as its layout writes it. -/
theorem tableAndChannelReports : Obligations.TableAndChannelReports := by
  unfold Obligations.TableAndChannelReports
  intro n tag ch s h refused
  have hch := fun p => finAt_oneByte (n := 4) (by decide) ch p
  refine ⟨fun a b => ⟨fun hbad => ?_, fun hbad => ?_⟩, ?_⟩
  · refine exec_responds (code := 0x32#8) rfl h rfl (by decide) (by decide) (channelStatus_outOfRange ?_)
    exact Or.imp finAt_none flagAt_none (by simpa using hbad)
  · refine exec_responds (code := 0x36#8) rfl h rfl (by decide) (by decide) (channelSettings_outOfRange ?_)
    exact finAt_none (by simpa using hbad)
  intro c t f told bank commit status
  have hstatus : channelReport c f = status := rfl
  have hcommit : commitBytes c.commit = commit := rfl
  have hbank : ∀ b, bankSummary b = bank b := fun _ => rfl
  refine ⟨fun staged x => ?_, ?_, ?_, ?_, ?_⟩
  · intro entry
    have read : told (.readEntry n tag [oneByte ch.val, boolByte staged, oneByte x.val]) 3 (slotRecord entry) :=
      exec_responds (code := 0x26#8) rfl h rfl (by decide) (by decide)
        (readEntry_accepted (hch _) (flagAt_second _ staged _) (finAt_third (by decide) _ _ x _))
    refine ⟨fun hnone => ?_, fun e he => ?_⟩
    · rw [hnone] at read
      exact read
    · rw [he] at read
      exact read
  · rw [← hbank, ← hbank, ← hcommit]
    exact exec_responds (code := 0x27#8) rfl h rfl (by decide) (by decide) (tableStatus_accepted (hch _))
  · rw [← hstatus]
    exact exec_responds (code := 0x32#8) rfl h rfl (by decide) (by decide)
      (channelStatus_accepted (clear := false) (hch _) rfl)
  · rw [← hstatus, exec_taken (code := 0x32#8) rfl h (len := 2) rfl (by decide) (by decide),
      channelStatus_accepted (clear := true) (hch _) rfl, if_pos rfl, respond_heard tag .ok _ (links := s.links) rfl]
    rfl
  · have settings : told (.channelSettings n tag [oneByte ch.val]) 1 (settingsReport c) :=
      exec_responds (code := 0x36#8) rfl h rfl (by decide) (by decide) (channelSettings_accepted (hch _))
    exact settings

end Sys2Proof.Machine
end

-- ==== Validation, reason by reason ====
section
/-! SUPPORT. The checks of validation in their order (R35): the count, the slots from the lowest on, the loop index, the
target. -/

namespace Sys2Proof.Machine

open Sys2Proof

variable {b : Bank} {x target : SlotIx}

/-- The slot holds an entry whose jump stays below the count. -/
def SlotPlays (b : Bank) (x : SlotIx) : Prop :=
  ∃ e, look b.slots x = some e ∧ ∀ j ∈ e.jump, j.target.val < b.count

theorem slotFault_plays (h : x.val < b.count → SlotPlays b x) : slotFault b x = none := by
  unfold slotFault
  split
  · next hx =>
    obtain ⟨e, he, hjump⟩ := h hx
    rw [he]
    cases hj : e.jump with
    | none => simp [hj]
    | some j => simp [hj, hjump j hj]
  · rfl

theorem slotFault_empty (hx : x.val < b.count) (h : look b.slots x = none) : slotFault b x = some (1, x.val) := by
  rw [slotFault, if_pos hx, h]

theorem slotFault_jump {e : Entry} {j : Jump} (hx : x.val < b.count) (he : look b.slots x = some e) (hj : e.jump = some j)
    (h : b.count ≤ j.target.val) : slotFault b x = some (2, x.val) := by
  simp only [slotFault, if_pos hx, he, hj]
  exact if_neg (Nat.not_lt.mpr h)

/-- A search through all of a fixed set finds at its lowest hit. -/
theorem findSome_finRange {α : Type} {n : Nat} {f : Fin n → Option α} {x : Fin n} {r : α} (hx : f x = some r)
    (hbelow : ∀ y < x, f y = none) : (List.finRange n).findSome? f = some r := by
  obtain ⟨below, above, hsplit⟩ := List.append_of_mem (List.mem_finRange x)
  refine List.findSome?_eq_some_iff.mpr ⟨below, x, above, hsplit, hx, fun y hy => hbelow y ?_⟩
  have hsorted := List.pairwise_lt_finRange n
  rw [hsplit] at hsorted
  exact (List.pairwise_append.mp hsorted).2.2 y hy x List.mem_cons_self

theorem validate_empty (h : b.count = 0) : validate b target = some (0, 0) := if_pos h

/-- The lowest bad slot is the fault (R35 order 2). -/
theorem validate_slot {r : Nat × Nat} (hx : x.val < b.count) (hbelow : ∀ y < x, SlotPlays b y)
    (hr : slotFault b x = some r) : validate b target = some r := by
  have hfind := findSome_finRange hr fun y hy => slotFault_plays fun _ => hbelow y hy
  rw [validate, if_neg (by omega), hfind]

section SlotsPlay

variable (hcount : 1 ≤ b.count) (hslots : ∀ x : SlotIx, x.val < b.count → SlotPlays b x)

include hslots in
theorem slots_faultless : (List.finRange 64).findSome? (slotFault b) = none :=
  List.findSome?_eq_none_iff.mpr fun x _ => slotFault_plays (hslots x)

include hcount hslots

theorem validate_loop {i : SlotIx} (hloop : b.endAction = .loop i) (h : b.count ≤ i.val) :
    validate b target = some (3, i.val) := by
  simp only [validate, if_neg (Nat.ne_of_gt hcount), slots_faultless hslots, hloop, if_neg (Nat.not_lt.mpr h)]

theorem validate_ends (hloop : ∀ i, b.endAction = .loop i → i.val < b.count) :
    validate b target = if target.val < b.count then none else some (4, target.val) := by
  cases hend : b.endAction with
  | stop => simp only [validate, if_neg (Nat.ne_of_gt hcount), slots_faultless hslots, hend]
  | loop i => simp only [validate, if_neg (Nat.ne_of_gt hcount), slots_faultless hslots, hend, if_pos (hloop i hend)]

end SlotsPlay

/-- Settles O32: the checks one after the other. -/
theorem validationAcceptsExactlyPlayableBanks : Obligations.ValidationAcceptsExactlyPlayableBanks := by
  unfold Obligations.ValidationAcceptsExactlyPlayableBanks
  intro b target _
  refine ⟨⟨fun h => ?_, fun ⟨hcount, hslots, hloop, htarget⟩ => ?_⟩, validate_empty, fun x hx hbelow => ⟨fun hnone => ?_,
    fun e he j hj hfar => ?_⟩, fun hcount hslots => ⟨fun i hloop hfar => ?_, fun hloop hfar => ?_⟩⟩
  · obtain ⟨hcount, hrest⟩ := validate_none h
    exact ⟨Nat.one_le_iff_ne_zero.mpr hcount, hrest⟩
  · exact (validate_ends hcount hslots hloop).trans (if_pos htarget)
  · exact validate_slot hx hbelow (slotFault_empty hx hnone)
  · exact validate_slot hx hbelow (slotFault_jump hx he hj hfar)
  · exact validate_loop hcount hslots hloop hfar
  · exact (validate_ends hcount hslots hloop).trans (if_neg (Nat.not_lt.mpr hfar))

end Sys2Proof.Machine
end

-- ==== A commit taken or held ====
section
/-! SUPPORT. COMMIT_TABLE accepted (R36, R37, R64): the swap as one change of the state, an entry begun on a flushed FIFO
(R48, R134) and the prefetcher's first request there (R131). -/

namespace Sys2Proof.Machine

open Sys2Proof

variable {s : State} {n : LinkId} {ch : ChanId} {x : SlotIx}

/-! ### The swap -/

/-- A swap with no commit pending moves the tables alone and is told to both links (R37). -/
theorem swapBanks_changes (h : (look s.channels ch).commit = none) :
    swapBanks ch s = State.raise { s with tables := put s.tables ch (swapped (look s.tables ch)) } (.commitTaken ch) := by
  have same : put s.channels ch { look s.channels ch with commit := none } = s.channels := by
    rw [← h]
    exact put_look s.channels ch
  unfold swapBanks
  dsimp only
  congr 1
  simp only [State.modChannel, State.modTables, same]
  rfl

/-! ### An entry begun -/

/-- The record of a channel that has begun the entry `e` in slot `x` at phase 0.0, no stop pending (R48, R84). -/
def begunRecord (e : Option Entry) (x : SlotIx) (c : Channel) : Channel :=
  { c with
    mode := if (e.bind Entry.gate).isSome then .waiting else .running
    entry := x
    passes := 0
    armed := none
    phase := 0
    currentStep := (e.bind Entry.step).getD c.defaultStep
    passClipped := false
    underrunEpisode := !(e.bind Entry.gate).isSome && c.underrunEpisode }

theorem beginEntry_changes (hstop : (look s.channels ch).stop = none) :
    beginEntry ch x 0 s =
      let begun := { s with channels := put s.channels ch (begunRecord (entryIn s ch x) x (look s.channels ch)) }
      if ((entryIn s ch x).bind Entry.gate).isSome then State.raise begun (.waitBegan ch) else begun := by
  have record : look (s.modChannel ch (beginRecord (entryIn s ch x) x 0)).channels ch =
      beginRecord (entryIn s ch x) x 0 (look s.channels ch) := look_put_same ..
  have unstopped : (beginRecord (entryIn s ch x) x 0 (look s.channels ch)).stop.isSome = false := by
    rw [show (beginRecord (entryIn s ch x) x 0 (look s.channels ch)).stop = none from hstop]
    rfl
  unfold beginEntry
  dsimp only
  rw [record, unstopped]
  cases hgate : (entryIn s ch x).bind Entry.gate with
  | none =>
    simp only [State.modChannel, look_put_same, put_put, begunRecord, hgate]
    rfl
  | some k =>
    simp only [State.modChannel, look_put_same, put_put, begunRecord, hgate]
    rfl

/-! ### The first request on a fresh path -/

/-- A prefetcher that makes a request changes its own record alone (R131). -/
theorem presentPrefetch_changes (ch : ChanId) (s : State) :
    presentPrefetch ch s = { s with prefetch := put s.prefetch ch (look (presentPrefetch ch s).prefetch ch) } := by
  obtain h | ⟨pos, r, -, -, -, -, h⟩ := presentPrefetch_cases ch s <;> rw [h]
  · rw [put_look]
  · simp only [State.modPrefetch, look_put_same]

theorem presentPrefetch_keeps (ch : ChanId) (s : State) :
    (look (presentPrefetch ch s).prefetch ch).fifo = (look s.prefetch ch).fifo ∧
      (look (presentPrefetch ch s).prefetch ch).play = (look s.prefetch ch).play := by
  obtain h | ⟨pos, r, -, -, -, -, h⟩ := presentPrefetch_cases ch s <;> rw [h]
  · exact ⟨rfl, rfl⟩
  · rw [State.modPrefetch_prefetch, look_put_same]
    exact ⟨rfl, rfl⟩

/-- On a path built afresh the prefetcher asks at once for its first line (R131, R134). -/
theorem presentPrefetch_fresh (hpath : look s.prefetch ch = ⟨[], some ⟨0, x, 0, 0⟩, 0, none⟩)
    (hmode : (look s.channels ch).mode = .running ∨ (look s.channels ch).mode = .waiting)
    (hstop : (look s.channels ch).stop = none) (hport : prefetchInTransfer s ch = false) :
    (look (presentPrefetch ch s).prefetch ch).waiting =
      (entryIn s ch x).map fun e => ⟨⟨0, x, 0, 0⟩, e.segment, segmentBase s e.segment⟩ := by
  have wants : wantsLine s ch = true := by simp [wantsLine, hpath, hmode, hport]
  have wanted : nextWanted s ch = some ⟨0, x, 0, 0⟩ := by simp [nextWanted, hpath]
  have within : beyondStop s ch 0 = false := by simp [beyondStop, stopEnd, hstop]
  unfold presentPrefetch
  rw [if_pos wants, wanted]
  dsimp only
  rw [within]
  cases he : entryIn s ch x with
  | none => simp [requestFor, he, hpath]
  | some e => simp [requestFor, he]

/-- The flush leaves a path of the channel's new place (R134). -/
theorem freshPath_begun (e : Option Entry) (x : SlotIx) (c : Channel) :
    freshPath (begunRecord e x c) = some ⟨0, x, 0, 0⟩ := by
  have playing : (begunRecord e x c).mode ≠ .idle := by
    unfold begunRecord
    dsimp only
    split <;> decide
  exact if_neg playing

theorem addr_orphanRead (ch : ChanId) (port : Option Transfer) :
    (orphanRead ch port).map Transfer.addr = port.map Transfer.addr := by
  unfold orphanRead
  split <;> rfl

theorem prefetchInTransfer_flush (ch : ChanId) (s : State) :
    prefetchInTransfer (flush ch s) ch = prefetchInTransfer s ch := by
  unfold prefetchInTransfer flush orphanRead
  dsimp only [State.modPrefetch, State.setPort]
  cases s.arbiter.port with
  | none => rfl
  | some t => cases t <;> rfl

/-! ### The commit -/

theorem acceptCommit_idle (tag : Byte) (k : Commit) (hmode : (look s.channels ch).mode = .idle) :
    acceptCommit n tag ch k s =
      respond n tag .taken [] (swapBanks ch (s.modTables ch fun t => { t with editor := none })) := by
  simp only [acceptCommit, State.modTables_channels, hmode]

theorem acceptCommit_waiting (tag : Byte) (hmode : (look s.channels ch).mode = .waiting) :
    acceptCommit n tag ch ⟨.atEntryEnd, x⟩ s = respond n tag .taken []
      (presentPrefetch ch (takeCommit ch x (s.modTables ch fun t => { t with editor := none }))) := by
  simp only [acceptCommit, State.modTables_channels, hmode]

theorem acceptCommit_held (tag : Byte) (k : Commit) (hidle : (look s.channels ch).mode ≠ .idle)
    (hwait : (look s.channels ch).mode = .waiting → k.point = .atTableEnd) :
    acceptCommit n tag ch k s = respond n tag .pending []
      ((s.modTables ch fun t => { t with editor := none }).modChannel ch fun c => { c with commit := some k }) := by
  unfold acceptCommit
  dsimp only
  rw [State.modTables_channels]
  split
  · contradiction
  · next hmode hpoint =>
    rw [hwait hmode] at hpoint
    cases hpoint
  · rfl

/-- The editor made absent, the swap is that of the tables as they were (R36, R37). -/
theorem swapBanks_edited (h : (look s.channels ch).commit = none) :
    swapBanks ch (s.modTables ch fun t => { t with editor := none }) =
      State.raise { s with tables := put s.tables ch (swapped (look s.tables ch)) } (.commitTaken ch) := by
  rw [swapBanks_changes (s := s.modTables ch fun t => { t with editor := none }) h]
  simp only [State.modTables, look_put_same, put_put]
  rfl

/-- The state of a WAITING channel's commit before its first request: the banks swapped, the target begun at phase 0.0,
the FIFO flushed, both links told (R48, R64, R134). -/
def commitTurned (ch : ChanId) (x : SlotIx) (s : State) : State :=
  let e := look (look s.tables ch).staged.slots x
  let taken := inBothSets (.commitTaken ch) s.links
  { s with
    tables := put s.tables ch (swapped (look s.tables ch))
    channels := put s.channels ch (begunRecord e x (look s.channels ch))
    prefetch := put s.prefetch ch ⟨[], some ⟨0, x, 0, 0⟩, 0, none⟩
    arbiter := { s.arbiter with port := orphanRead ch s.arbiter.port }
    links := if (e.bind Entry.gate).isSome then inBothSets (.waitBegan ch) taken else taken }

theorem takeCommit_changes (hcommit : (look s.channels ch).commit = none) (hstop : (look s.channels ch).stop = none) :
    takeCommit ch x (s.modTables ch fun t => { t with editor := none }) = commitTurned ch x s := by
  generalize hw : State.raise { s with tables := put s.tables ch (swapped (look s.tables ch)) } (.commitTaken ch) = w
  have entry : entryIn w ch x = look (look s.tables ch).staged.slots x := by
    rw [← hw, entryIn, State.raise_tables, look_put_same]
    rfl
  have channels : w.channels = s.channels := by rw [← hw, State.raise_channels]
  rw [takeCommit, turnTo, swapBanks_edited hcommit, hw, beginEntry_changes (by rw [channels]; exact hstop), entry, channels]
  dsimp only
  unfold commitTurned
  split
  all_goals
    next hgate =>
      simp only [hgate, Bool.false_eq_true, if_true, if_false, flush, raise_eq, State.setPort, State.modPrefetch,
        look_put_same, freshPath_begun, ← hw]

theorem commitTurned_links (x : SlotIx) (len : Nat) (s : State) :
    (commitTurned ch x (heard n len s)).links = heardFrame n len (commitTurned ch x s).links := by
  unfold commitTurned heard
  dsimp only
  rw [inBothSets_heardFrame, inBothSets_heardFrame]
  split <;> rfl

/-- The turned channel's first request is for line 0 of its target (R131). -/
theorem waiting_commitTurned (hstop : (look s.channels ch).stop = none) (hport : prefetchInTransfer s ch = false) :
    (look (presentPrefetch ch (commitTurned ch x s)).prefetch ch).waiting =
      (look (look s.tables ch).staged.slots x).map fun e =>
        ⟨⟨0, x, 0, 0⟩, e.segment, segmentBase s e.segment⟩ := by
  have record : look (commitTurned ch x s).channels ch =
      begunRecord (look (look s.tables ch).staged.slots x) x (look s.channels ch) := look_put_same ..
  have entry : entryIn (commitTurned ch x s) ch x = look (look s.tables ch).staged.slots x := by
    have tables : look (commitTurned ch x s).tables ch = swapped (look s.tables ch) := look_put_same ..
    rw [entryIn, tables]
    rfl
  have mode : (look (commitTurned ch x s).channels ch).mode = .running ∨
      (look (commitTurned ch x s).channels ch).mode = .waiting := by
    rw [record, begunRecord]
    dsimp only
    split
    · exact .inr rfl
    · exact .inl rfl
  have stop : (look (commitTurned ch x s).channels ch).stop = none := by
    rw [record]
    exact hstop
  have port : prefetchInTransfer (commitTurned ch x s) ch = false := (prefetchInTransfer_flush ch s).trans hport
  rw [presentPrefetch_fresh (s := commitTurned ch x s) (x := x) (look_put_same ..) mode stop port, entry]
  rfl

/-- The answer TAKEN after the turned channel's first request, all of it as one change of the turned state. -/
theorem respond_commitTurned (tag : Byte) (x : SlotIx) (len : Nat) (s : State) :
    let p := look (presentPrefetch ch (commitTurned ch x (heard n len s))).prefetch ch
    respond n tag .taken [] (presentPrefetch ch (commitTurned ch x (heard n len s))) =
      { commitTurned ch x s with
        prefetch := put s.prefetch ch p
        links := answered n len tag .taken [] (commitTurned ch x s).links } := by
  intro p
  have asked : presentPrefetch ch (commitTurned ch x (heard n len s)) =
      { commitTurned ch x (heard n len s) with prefetch := put (commitTurned ch x (heard n len s)).prefetch ch p } :=
    presentPrefetch_changes ch _
  have told : (commitTurned ch x (heard n len s)).links = heardFrame n len (commitTurned ch x s).links :=
    commitTurned_links x len s
  have answer := respond_heard (n := n) (len := len)
    (u := { commitTurned ch x (heard n len s) with prefetch := put (commitTurned ch x (heard n len s)).prefetch ch p })
    tag .taken [] told
  rw [asked, answer]
  clear_value p
  simp only [commitTurned, put_put]
  rfl

/-- Settles O33: the judgement's three outcomes, each as the change it makes. -/
theorem commitIsTakenOrHeld : Obligations.CommitIsTakenOrHeld := by
  unfold Obligations.CommitIsTakenOrHeld
  intro n tag ch late target s h hcommit heditor c t done taken
  have hch := finAt_oneByte (n := 4) (by decide) ch [boolByte late, oneByte target.val]
  have hpoint := commitPointAt_second (oneByte ch.val) late [oneByte target.val]
  have htarget := finAt_third (n := 64) (by decide) (oneByte ch.val) (boolByte late) target []
  have hedit := editRefusal_none (s := heard n 3 s) hcommit heditor
  refine ⟨fun reason index hfault => ?_, fun hvalid => ?_⟩
  · exact exec_responds (code := 0x23#8) rfl h rfl (by decide) (by decide)
      (commitTable_invalid hch hpoint htarget hedit hfault)
  have accepted : done = .next (acceptCommit n tag ch ⟨pointOf late, target⟩ (heard n 3 s)) :=
    (exec_taken (code := 0x23#8) rfl h (len := 3) rfl (by decide) (by decide)).trans
      (congrArg _ (commitTable_accepted hch hpoint htarget hedit hvalid))
  refine ⟨fun hmode => ?_, fun hmode => ?_, fun hmode hearly hstop => ?_⟩
  · rw [accepted, acceptCommit_idle (s := heard n 3 s) tag _ hmode, swapBanks_edited (s := heard n 3 s) hcommit,
      respond_heard_raised tag .taken [] (.commitTaken ch) (links := s.links) rfl]
    rfl
  · have hidle : c.mode ≠ .idle := by
      rintro hidle
      simp [hidle] at hmode
    have hwait : c.mode = .waiting → pointOf late = .atTableEnd := fun hw => by
      have hlate : late = true := by simpa [hw] using hmode
      rw [hlate]
      rfl
    rw [accepted, acceptCommit_held (s := heard n 3 s) tag ⟨pointOf late, target⟩ hidle hwait,
      respond_heard tag .pending [] (links := s.links) rfl]
    rfl
  · subst hearly
    obtain ⟨hfifo, hplay⟩ := presentPrefetch_keeps ch (commitTurned ch target (heard n 3 s))
    have path : look (commitTurned ch target (heard n 3 s)).prefetch ch = ⟨[], some ⟨0, target, 0, 0⟩, 0, none⟩ :=
      look_put_same ..
    refine ⟨look (presentPrefetch ch (commitTurned ch target (heard n 3 s))).prefetch ch, orphanRead ch s.arbiter.port,
      ?_, hfifo.trans (by rw [path]), hplay.trans (by rw [path]), addr_orphanRead ch _,
      waiting_commitTurned (s := heard n 3 s) hstop⟩
    rw [accepted, pointOf, if_neg Bool.false_ne_true, acceptCommit_waiting (s := heard n 3 s) tag hmode,
      takeCommit_changes (s := heard n 3 s) hcommit hstop, respond_commitTurned]
    rfl

end Sys2Proof.Machine
end

-- ==== What is one channel's own ====
section
/-! SUPPORT. A channel's own part of the state as one view (`State.view`), and the state without any channel's part
(`State.bare`). An operation of channel `ch` is `ChannelWork ch`: it changes that channel's view and no other's. Work on
all channels is then, for each channel, its own operation on a state with the same view of it. -/

namespace Sys2Proof.Machine

open Sys2Proof

variable {s t u : State} {ch d : ChanId}

/-! ### The view -/

/-- The initial level and the toggle state of a pin that shows the channel's pass toggle (R116). -/
def togglesFor (ch : ChanId) (m : MarkerPin) : Option (Bool × Bool) :=
  match m.source with
  | .passToggle c initial => if c = ch then some (initial, m.toggle) else none
  | _ => none

/-- What is a channel's own: its record, tables, prefetcher and played pattern, its seven flags in both links' sets, its
pass-end pulse, the pins that show its toggle, and whether a read of it is on the store port. -/
@[ext] structure ChannelView where
  record : Channel
  tables : Tables
  prefetch : Prefetch
  pattern : BitVec 4
  flags : LinkId → Fin 7 → Bool
  pulse : Bool
  toggles : PinId → Option (Bool × Bool)
  reading : Bool

/-- The channel's own part of the state. -/
def State.view (s : State) (ch : ChanId) : ChannelView where
  record := look s.channels ch
  tables := look s.tables ch
  prefetch := look s.prefetch ch
  pattern := look s.patterns ch
  flags n k := (look s.links n).flags.getLsbD (7 * ch.val + k.val)
  pulse := s.trigger.pulses.getLsbD ch.val
  toggles i := togglesFor ch (look s.pins i)
  reading := prefetchInTransfer s ch

/-- A pin without the toggle state a channel's pass ends and starts set. -/
def MarkerPin.bare (m : MarkerPin) : MarkerPin :=
  match m.source with
  | .passToggle _ _ => { m with toggle := false }
  | _ => m

/-- A link without the 28 flags of the channels. -/
def Link.bare (l : Link) : Link := { l with flags := l.flags >>> 28 }

/-- The state without any channel's own part. -/
def State.bare (s : State) : State :=
  { s with
    tables := Vector.replicate 4 Tables.reset
    channels := Vector.replicate 4 Channel.reset
    prefetch := Vector.replicate 4 Prefetch.reset
    patterns := Vector.replicate 4 0#4
    trigger := { s.trigger with pulses := 0#4 }
    pins := s.pins.map MarkerPin.bare
    arbiter := { s.arbiter with port := none }
    links := s.links.map Link.bare }

theorem look_map {α β : Type} {n : Nat} (g : α → β) (v : Vector α n) (i : Fin n) : look (v.map g) i = g (look v i) := by
  simp [look]

/-- The flags that one channel's events set, in a view: the channel's `k`-th flag is set in both sets. -/
def ChannelView.raised (k : Fin 7) (v : ChannelView) : ChannelView :=
  { v with flags := fun n j => v.flags n j || decide (j = k) }

theorem getLsbD_flagBit (f : EventFlag) (p : Nat) : (flagBit f).getLsbD p = decide (flagPos f = p) := by
  have bound : flagPos f < 41 := by cases f <;> simp only [flagPos] <;> omega
  rw [flagBit, BitVec.getLsbD_twoPow]
  simp [bound]

/-- Every flag position below 28 is one channel's (spec 10 section 10.7.6). -/
theorem flagPos_inj {k j : Fin 7} : 7 * ch.val + k.val = 7 * d.val + j.val ↔ ch = d ∧ k = j := by
  constructor
  · intro h
    exact ⟨Fin.ext (by omega), Fin.ext (by omega)⟩
  · rintro ⟨rfl, rfl⟩
    rfl

theorem view_raise {f : EventFlag} {k : Fin 7} (h : flagPos f = 7 * ch.val + k.val) :
    (s.raise f).view ch = (s.view ch).raised k := by
  ext : 1
  case flags =>
    funext n j
    simp [State.view, ChannelView.raised, getLsbD_flagBit, h, Fin.ext_iff, eq_comm]
  all_goals rfl

theorem view_raise_of_not_own {f : EventFlag} (h : ∀ k : Fin 7, flagPos f ≠ 7 * d.val + k.val) :
    (s.raise f).view d = s.view d := by
  ext : 1
  case flags =>
    funext n j
    simp [State.view, getLsbD_flagBit, h]
  all_goals rfl

/-! ### A channel's work -/

/-- No flag has been cleared. -/
def FlagsGrow (s t : State) : Prop :=
  ∀ (n : LinkId) (p : Nat), (look s.links n).flags.getLsbD p = true → (look t.links n).flags.getLsbD p = true

/-- From `s` to `t` nothing has changed but the channel's own part, and the line on the port is the same. -/
structure ChannelWork (ch : ChanId) (s t : State) : Prop where
  bare : t.bare = s.bare
  addr : t.arbiter.port.map Transfer.addr = s.arbiter.port.map Transfer.addr
  grow : FlagsGrow s t
  others : ∀ d, d ≠ ch → t.view d = s.view d

namespace ChannelWork

theorem refl (ch : ChanId) (s : State) : ChannelWork ch s s := ⟨rfl, rfl, fun _ _ h => h, fun _ _ => rfl⟩

theorem trans (h : ChannelWork ch s t) (g : ChannelWork ch t u) : ChannelWork ch s u :=
  ⟨g.bare.trans h.bare, g.addr.trans h.addr, fun n p hp => g.grow n p (h.grow n p hp),
    fun d hd => (g.others d hd).trans (h.others d hd)⟩

theorem modChannel (f : Channel → Channel) (h : ChannelWork ch s t) : ChannelWork ch s (t.modChannel ch f) := by
  refine h.trans ⟨rfl, rfl, fun _ _ h => h, fun d hd => ?_⟩
  ext : 1
  case record => exact look_put_ne _ _ hd.symm
  all_goals rfl

theorem modTables (f : Tables → Tables) (h : ChannelWork ch s t) : ChannelWork ch s (t.modTables ch f) := by
  refine h.trans ⟨rfl, rfl, fun _ _ h => h, fun d hd => ?_⟩
  ext : 1
  case tables => exact look_put_ne _ _ hd.symm
  all_goals rfl

theorem modPrefetch (f : Prefetch → Prefetch) (h : ChannelWork ch s t) : ChannelWork ch s (t.modPrefetch ch f) := by
  refine h.trans ⟨rfl, rfl, fun _ _ h => h, fun d hd => ?_⟩
  ext : 1
  case prefetch => exact look_put_ne _ _ hd.symm
  all_goals rfl

theorem setPattern (x : BitVec 4) (h : ChannelWork ch s t) : ChannelWork ch s (t.setPattern ch x) := by
  refine h.trans ⟨rfl, rfl, fun _ _ h => h, fun d hd => ?_⟩
  ext : 1
  case pattern => exact look_put_ne _ _ hd.symm
  all_goals rfl

theorem raise {f : EventFlag} {k : Fin 7} (hf : flagPos f = 7 * ch.val + k.val) (h : ChannelWork ch s t) :
    ChannelWork ch s (t.raise f) := by
  refine h.trans ⟨?_, rfl, fun n p hp => by simp [hp], fun d hd => view_raise_of_not_own fun j hj => ?_⟩
  · have links : (t.raise f).links.map Link.bare = t.links.map Link.bare := by
      apply vector_ext_look
      intro n
      have off : flagBit f >>> 28 = 0#41 := by
        apply BitVec.eq_of_getLsbD_eq
        intro i _
        rw [BitVec.getLsbD_ushiftRight, getLsbD_flagBit, hf]
        simp
        omega
      simp [look_map, State.raise_links_look, Link.bare, BitVec.ushiftRight_or_distrib, off]
    unfold State.bare
    rw [links]
    rfl
  · exact hd (flagPos_inj.mp (hf ▸ hj)).1.symm

theorem orphan (h : ChannelWork ch s t) : ChannelWork ch s (t.setPort (orphanRead ch t.arbiter.port)) := by
  refine h.trans ⟨rfl, addr_orphanRead ch _, fun _ _ h => h, fun d hd => ?_⟩
  ext : 1
  case reading =>
    change prefetchInTransfer _ d = prefetchInTransfer _ d
    unfold prefetchInTransfer orphanRead
    dsimp only [State.setPort]
    cases t.arbiter.port with
    | none => rfl
    | some x => cases x <;> rfl
  all_goals rfl

theorem emitPulse (h : ChannelWork ch s t) : ChannelWork ch s (emitPulse ch t) := by
  refine h.trans ⟨rfl, rfl, fun _ _ h => h, fun d hd => ?_⟩
  ext : 1
  case pulse =>
    have off : d.val ≠ ch.val := fun e => hd (Fin.ext e)
    simp [State.view, Machine.emitPulse, off]
  all_goals rfl

end ChannelWork

/-! ### Work on every pin -/

theorem foldl_pins {f : PinId → State → State} {g : PinId → MarkerPin}
    (hf : ∀ i u, u = { s with pins := u.pins } → look u.pins i = look s.pins i → f i u = u.modPin i fun _ => g i)
    (l : List PinId) : ∀ u, u = { s with pins := u.pins } → l.Nodup → (∀ i ∈ l, look u.pins i = look s.pins i) →
      l.foldl (fun u i => f i u) u =
        { s with pins := Vector.ofFn fun i => if i ∈ l then g i else look u.pins i } := by
  induction l with
  | nil =>
    intro u hu _ _
    refine hu.trans (congrArg (fun v => ({ s with pins := v } : State)) (vector_ext_look fun i => ?_))
    simp [look]
  | cons j l ih =>
    intro u hu hl hpins
    obtain ⟨hj, hl⟩ := List.nodup_cons.mp hl
    have apart : ∀ i ∈ l, j ≠ i := fun i hi e => hj (e ▸ hi)
    rw [List.foldl_cons, hf j u hu (hpins j (by simp)), ih (u.modPin j fun _ => g j) (by rw [hu]; rfl) hl
      fun i hi => (look_put_ne _ _ (apart i hi)).trans (hpins i (by simp [hi]))]
    refine congrArg (fun v => ({ s with pins := v } : State)) (congrArg Vector.ofFn (funext fun i => ?_))
    by_cases hi : i = j
    · subst hi
      simp [hj]
    · simp [hi, Ne.symm hi]

/-- Work on every pin that reads of the state no pin but its own. -/
theorem eachPin_eq {f : PinId → State → State} {g : PinId → MarkerPin}
    (hf : ∀ i u, u = { s with pins := u.pins } → look u.pins i = look s.pins i → f i u = u.modPin i fun _ => g i) :
    eachPin f s = { s with pins := Vector.ofFn g } := by
  have fold : eachPin f s = ([0, 1, 2, 3, 4, 5, 6, 7] : List PinId).foldl (fun u i => f i u) s := rfl
  have all : ∀ i : PinId, i ∈ ([0, 1, 2, 3, 4, 5, 6, 7] : List PinId) := by decide
  rw [fold, foldl_pins hf _ s rfl (by decide) fun _ _ => rfl]
  simp only [all, if_true]

theorem look_ofFn {α : Type} {n : Nat} (g : Fin n → α) (i : Fin n) : look (Vector.ofFn g) i = g i := by
  simp [look]

/-- The same turn of every pin. -/
theorem turnPins_eq (g : MarkerPin → MarkerPin) (s : State) :
    eachPin (fun i s => s.modPin i g) s = { s with pins := Vector.ofFn fun i => g (look s.pins i) } :=
  eachPin_eq fun i u _ h => by rw [← h]; rfl

/-- A turn of the toggle state of the pins that show the channel's pass toggle. -/
theorem ChannelWork.turnPins {g : MarkerPin → MarkerPin} (hbare : ∀ m, (g m).bare = m.bare)
    (hother : ∀ m, ∀ d, d ≠ ch → togglesFor d (g m) = togglesFor d m) (h : ChannelWork ch s t) :
    ChannelWork ch s (eachPin (fun i s => s.modPin i g) t) := by
  rw [turnPins_eq]
  refine h.trans ⟨?_, rfl, fun _ _ h => h, fun d hd => ?_⟩
  · have pins : (Vector.ofFn fun i => g (look t.pins i)).map MarkerPin.bare = t.pins.map MarkerPin.bare :=
      vector_ext_look fun i => by rw [look_map, look_map, look_ofFn, hbare]
    unfold State.bare
    rw [pins]
  · ext : 1
    case toggles => funext i; simp only [State.view, look_ofFn, hother _ d hd]
    all_goals rfl

theorem bare_invertToggle (ch : ChanId) (m : MarkerPin) : (invertToggle ch m).bare = m.bare := by
  unfold invertToggle
  split
  · next hm => split <;> simp only [MarkerPin.bare, hm]
  · rfl

theorem togglesFor_invertToggle (m : MarkerPin) (h : d ≠ ch) : togglesFor d (invertToggle ch m) = togglesFor d m := by
  unfold invertToggle
  split
  · next c initial hm =>
    split
    · next hc =>
      have other : c ≠ d := hc ▸ h.symm
      simp only [togglesFor, hm, if_neg other]
    · rfl
  · rfl

theorem bare_restoreToggle (ch : ChanId) (m : MarkerPin) : (restoreToggle ch m).bare = m.bare := by
  unfold restoreToggle
  split
  · next hm => split <;> simp only [MarkerPin.bare, hm]
  · rfl

theorem togglesFor_restoreToggle (m : MarkerPin) (h : d ≠ ch) :
    togglesFor d (restoreToggle ch m) = togglesFor d m := by
  unfold restoreToggle
  split
  · next c initial hm =>
    split
    · next hc =>
      have other : c ≠ d := hc ▸ h.symm
      simp only [togglesFor, hm, if_neg other]
    · rfl
  · rfl

end Sys2Proof.Machine
end

-- ==== What a channel's operations make of its view ====
section
/-! SUPPORT. One equation per operation of a channel (R37, R48, R53 to R58, R133, R134): the view it leaves of the channel
as a change of the view it finds. -/

namespace Sys2Proof.Machine

open Sys2Proof

variable {s : State} {ch : ChanId} {v w : ChannelView} {x : SlotIx} {p : Nat}

/-! ### Updates of one record -/

theorem view_modChannel (ch : ChanId) (f : Channel → Channel) (s : State) :
    (s.modChannel ch f).view ch = { s.view ch with record := f (s.view ch).record } := by
  ext : 1
  case record => exact look_put_same ..
  all_goals rfl

theorem view_modTables (ch : ChanId) (f : Tables → Tables) (s : State) :
    (s.modTables ch f).view ch = { s.view ch with tables := f (s.view ch).tables } := by
  ext : 1
  case tables => exact look_put_same ..
  all_goals rfl

theorem view_modPrefetch (ch : ChanId) (f : Prefetch → Prefetch) (s : State) :
    (s.modPrefetch ch f).view ch = { s.view ch with prefetch := f (s.view ch).prefetch } := by
  ext : 1
  case prefetch => exact look_put_same ..
  all_goals rfl

theorem view_setPattern (ch : ChanId) (b : BitVec 4) (s : State) :
    (s.setPattern ch b).view ch = { s.view ch with pattern := b } := by
  ext : 1
  case pattern => exact look_put_same ..
  all_goals rfl

theorem view_orphan (ch : ChanId) (s : State) : (s.setPort (orphanRead ch s.arbiter.port)).view ch = s.view ch := by
  ext : 1
  case reading => exact prefetchInTransfer_flush ch s
  all_goals rfl

theorem view_emitPulse (ch : ChanId) (s : State) : (emitPulse ch s).view ch = { s.view ch with pulse := true } := by
  ext : 1
  case pulse => simp [State.view, emitPulse]
  all_goals rfl

/-- Every pin that shows the channel's pass toggle turns it as `g` says. -/
theorem view_turnPins {g : MarkerPin → MarkerPin} {turn : Bool × Bool → Bool × Bool}
    (hg : ∀ m, togglesFor ch (g m) = (togglesFor ch m).map turn) (s : State) :
    (eachPin (fun i s => s.modPin i g) s).view ch =
      { s.view ch with toggles := fun i => ((s.view ch).toggles i).map turn } := by
  rw [turnPins_eq]
  ext : 1
  case toggles =>
    funext i
    simp only [State.view, look_ofFn, hg]
  all_goals rfl

/-! ### The current entry and the lengths -/

/-- The entry in a slot of the channel's ACTIVE bank. -/
def ChannelView.entryAt (v : ChannelView) (x : SlotIx) : Option Entry := look v.tables.active.slots x

/-- The channel's current entry. -/
def ChannelView.current (v : ChannelView) : Option Entry := v.entryAt v.record.entry

theorem entryAt_view (s : State) (ch : ChanId) (x : SlotIx) : (s.view ch).entryAt x = entryIn s ch x := rfl
theorem current_view (s : State) (ch : ChanId) : (s.view ch).current = currentEntry s ch := rfl

theorem segmentLength_of_bare {u : State} (h : u.bare = s.bare) : segmentLength u = segmentLength s := by
  have slots : u.bare.slots = s.bare.slots := by rw [h]
  change u.slots = s.slots at slots
  funext id
  rw [segmentLength, segmentLength, slots]

theorem segmentBase_of_bare {u : State} (h : u.bare = s.bare) : segmentBase u = segmentBase s := by
  have slots : u.bare.slots = s.bare.slots := by rw [h]
  change u.slots = s.slots at slots
  funext id
  rw [segmentBase, segmentBase, slots]

/-! ### Swap, flush, play position -/

/-- After a bank swap (R37). -/
def ChannelView.swappedBanks (v : ChannelView) : ChannelView :=
  ChannelView.raised 3 { v with tables := swapped v.tables, record := { v.record with commit := none } }

/-- On a flushed FIFO, its path built afresh (R134). -/
def ChannelView.flushed (v : ChannelView) : ChannelView := { v with prefetch := ⟨[], freshPath v.record, 0, none⟩ }

/-- The play position moved one place (R133). -/
def ChannelView.moved (v : ChannelView) : ChannelView :=
  { v with prefetch := { v.prefetch with
      play := v.prefetch.play + 1
      fifo := v.prefetch.fifo.filter fun l => decide (v.prefetch.play + 1 ≤ l.place) } }

theorem view_swapBanks (ch : ChanId) (s : State) : (swapBanks ch s).view ch = (s.view ch).swappedBanks := by
  unfold swapBanks
  rw [view_raise (ch := ch) (k := 3) rfl, view_modChannel, view_modTables]
  rfl

theorem view_flush (ch : ChanId) (s : State) : (flush ch s).view ch = (s.view ch).flushed := by
  unfold flush
  rw [view_modPrefetch, view_orphan]
  rfl

theorem view_movePlay (ch : ChanId) (s : State) : (movePlay ch s).view ch = (s.view ch).moved := view_modPrefetch ..

/-! ### Entry into IDLE and the beginning of an entry -/

/-- After entry into IDLE (R58). -/
def ChannelView.idled (v : ChannelView) : ChannelView where
  record := { idleRecord v.record with commit := none }
  tables := if v.record.commit.isSome then swapped v.tables else v.tables
  prefetch := ⟨[], none, 0, none⟩
  pattern := 0#4
  flags n k := v.flags n k || decide (k = 3) && v.record.commit.isSome || decide (k = 1)
  pulse := v.pulse
  toggles := v.toggles
  reading := v.reading

theorem view_enterIdle (ch : ChanId) (s : State) : (enterIdle ch s).view ch = (s.view ch).idled := by
  have record : (s.modChannel ch idleRecord).view ch = { s.view ch with record := idleRecord (s.view ch).record } :=
    view_modChannel ..
  have commit : (look (s.modChannel ch idleRecord).channels ch).commit = (s.view ch).record.commit :=
    (congrArg (fun v : ChannelView => v.record.commit) record).trans (idleRecord_commit _)
  unfold enterIdle
  dsimp only
  rw [view_raise (ch := ch) (k := 1) rfl, view_setPattern, view_flush, commit]
  cases hc : (s.view ch).record.commit with
  | some k =>
    rw [Option.isSome_some, if_pos rfl, view_swapBanks, record]
    ext : 1
    case flags => simp [ChannelView.idled, ChannelView.raised, ChannelView.swappedBanks, ChannelView.flushed, hc]
    all_goals simp [ChannelView.idled, ChannelView.raised, ChannelView.swappedBanks, ChannelView.flushed, hc] <;> rfl
  | none =>
    rw [Option.isSome_none, if_neg Bool.false_ne_true, record]
    have same : idleRecord (s.view ch).record = { idleRecord (s.view ch).record with commit := none } := by
      rw [← hc, ← idleRecord_commit]
    ext : 1
    case record => exact same
    all_goals simp [ChannelView.idled, ChannelView.raised, ChannelView.flushed, hc] <;> rfl

/-- After the beginning of entry `x` at phase `p` (R48). -/
def ChannelView.begun (x : SlotIx) (p : Nat) (v : ChannelView) : ChannelView :=
  let record := beginRecord (v.entryAt x) x p v.record
  if ((v.entryAt x).bind Entry.gate).isNone then { v with record := { record with mode := .running } }
  else if v.record.stop.isSome then ({ v with record := record } : ChannelView).idled
  else ChannelView.raised 2 { v with record := { record with mode := .waiting, phase := 0, underrunEpisode := false } }

theorem view_beginEntry (ch : ChanId) (x : SlotIx) (p : Nat) (s : State) :
    (beginEntry ch x p s).view ch = (s.view ch).begun x p := by
  have record : (s.modChannel ch (beginRecord (entryIn s ch x) x p)).view ch =
      { s.view ch with record := beginRecord (entryIn s ch x) x p (s.view ch).record } := view_modChannel ..
  have stop : (look (s.modChannel ch (beginRecord (entryIn s ch x) x p)).channels ch).stop = (s.view ch).record.stop :=
    congrArg (fun v : ChannelView => v.record.stop) record
  unfold beginEntry ChannelView.begun
  dsimp only
  rw [entryAt_view, stop]
  split
  · rw [view_modChannel, record]
  · split
    · rw [view_enterIdle, record]
    · rw [view_raise (ch := ch) (k := 2) rfl, view_modChannel, record]

theorem begun_ungated (h : (v.entryAt x).bind Entry.gate = none) :
    v.begun x p = { v with record := { beginRecord (v.entryAt x) x p v.record with mode := .running } } := by
  simp [ChannelView.begun, h]

theorem begun_stopped (h : ((v.entryAt x).bind Entry.gate).isSome) (hstop : v.record.stop.isSome) :
    v.begun x p = ({ v with record := beginRecord (v.entryAt x) x p v.record } : ChannelView).idled := by
  have gate : ((v.entryAt x).bind Entry.gate).isNone = false := by simpa using h
  simp [ChannelView.begun, gate, hstop]

theorem begun_waiting (h : ((v.entryAt x).bind Entry.gate).isSome) (hstop : v.record.stop = none) :
    v.begun x p = ChannelView.raised 2 { v with record :=
      { beginRecord (v.entryAt x) x p v.record with mode := .waiting, phase := 0, underrunEpisode := false } } := by
  have gate : ((v.entryAt x).bind Entry.gate).isNone = false := by simpa using h
  simp [ChannelView.begun, gate, hstop]

/-! ### Leaving the path and staying on it -/

theorem view_turnTo (ch : ChanId) (x : SlotIx) (s : State) :
    (turnTo ch x s).view ch = ((s.view ch).begun x 0).flushed := by rw [turnTo, view_flush, view_beginEntry]

theorem view_takeCommit (ch : ChanId) (x : SlotIx) (s : State) :
    (takeCommit ch x s).view ch = ((s.view ch).swappedBanks.begun x 0).flushed := by
  rw [takeCommit, view_turnTo, view_swapBanks]

theorem view_advanceTo (ch : ChanId) (x : SlotIx) (p : Nat) (s : State) :
    (advanceTo ch x p s).view ch = (s.view ch).moved.begun x p := by
  rw [advanceTo, view_beginEntry, view_movePlay]

/-! ### Entry end and table end (R56, R57) -/

theorem commitAt_hit {c : Channel} {point : CommitPoint} (h : c.commit = some ⟨point, x⟩) :
    commitAt c point = some x := by
  simp [commitAt, h]

theorem commitAt_miss {c : Channel} {point : CommitPoint} (h : ∀ k ∈ c.commit, k.point ≠ point) :
    commitAt c point = none := by
  unfold commitAt
  split
  · rfl
  · next k hk => exact if_neg (h k hk)

theorem view_entryEnd_stopped {jump : Option SlotIx} (hstop : (s.view ch).record.stop = some .atEntryEnd) :
    (entryEnd ch p jump s).view ch = (s.view ch).idled := by
  have stop : (look s.channels ch).stop = some .atEntryEnd := hstop
  rw [← view_enterIdle]
  unfold entryEnd
  dsimp only
  rw [if_pos stop]

theorem view_entryEnd_commit {jump : Option SlotIx} (hstop : (s.view ch).record.stop ≠ some .atEntryEnd)
    (hcommit : (s.view ch).record.commit = some ⟨.atEntryEnd, x⟩) :
    (entryEnd ch p jump s).view ch = ((s.view ch).swappedBanks.begun x 0).flushed := by
  have stop : ¬ (look s.channels ch).stop = some .atEntryEnd := hstop
  have commit : commitAt (look s.channels ch) .atEntryEnd = some x := commitAt_hit hcommit
  rw [← view_takeCommit]
  unfold entryEnd
  dsimp only
  rw [if_neg stop, commit]

theorem view_entryEnd_jump (hstop : (s.view ch).record.stop ≠ some .atEntryEnd)
    (hcommit : ∀ k ∈ (s.view ch).record.commit, k.point = .atTableEnd) :
    (entryEnd ch p (some x) s).view ch = ((s.view ch).begun x 0).flushed := by
  have stop : ¬ (look s.channels ch).stop = some .atEntryEnd := hstop
  have commit : commitAt (look s.channels ch) .atEntryEnd = none :=
    commitAt_miss fun k hk => by rw [hcommit k hk]; decide
  rw [← view_turnTo]
  unfold entryEnd
  dsimp only
  rw [if_neg stop, commit]

theorem view_entryEnd_next (hstop : (s.view ch).record.stop ≠ some .atEntryEnd)
    (hcommit : ∀ k ∈ (s.view ch).record.commit, k.point = .atTableEnd)
    (hx : x.val = (s.view ch).record.entry.val + 1) (hlt : x.val < (s.view ch).tables.active.count) :
    (entryEnd ch p none s).view ch = (s.view ch).moved.begun x p := by
  have stop : ¬ (look s.channels ch).stop = some .atEntryEnd := hstop
  have commit : commitAt (look s.channels ch) .atEntryEnd = none :=
    commitAt_miss fun k hk => by rw [hcommit k hk]; decide
  have index : x.val = (look s.channels ch).entry.val + 1 := hx
  have next : (look s.channels ch).entry.val + 1 < (look s.tables ch).active.count ∧
      (look s.channels ch).entry.val + 1 < 64 := ⟨index ▸ hlt, by omega⟩
  have slot : (⟨(look s.channels ch).entry.val + 1, next.2⟩ : SlotIx) = x := Fin.ext index.symm
  rw [← view_advanceTo]
  unfold entryEnd
  dsimp only
  rw [if_neg stop, commit]
  dsimp only
  rw [dif_pos next, slot]

theorem entryEnd_table (hstop : (s.view ch).record.stop ≠ some .atEntryEnd)
    (hcommit : ∀ k ∈ (s.view ch).record.commit, k.point = .atTableEnd)
    (hlast : (s.view ch).tables.active.count ≤ (s.view ch).record.entry.val + 1) :
    entryEnd ch p none s = tableEnd ch p s := by
  have stop : ¬ (look s.channels ch).stop = some .atEntryEnd := hstop
  have commit : commitAt (look s.channels ch) .atEntryEnd = none :=
    commitAt_miss fun k hk => by rw [hcommit k hk]; decide
  have last : ¬ ((look s.channels ch).entry.val + 1 < (look s.tables ch).active.count ∧
      (look s.channels ch).entry.val + 1 < 64) := fun h => Nat.not_lt.mpr hlast h.1
  unfold entryEnd
  dsimp only
  rw [if_neg stop, commit]
  dsimp only
  rw [dif_neg last]

theorem view_tableEnd_commit (hcommit : (s.view ch).record.commit = some ⟨.atTableEnd, x⟩) :
    (tableEnd ch p s).view ch = ((s.view ch).swappedBanks.begun x 0).flushed := by
  have commit : commitAt (look s.channels ch) .atTableEnd = some x := commitAt_hit hcommit
  rw [← view_takeCommit, tableEnd, commit]

theorem view_tableEnd_loop (hcommit : (s.view ch).record.commit = none)
    (hloop : (s.view ch).tables.active.endAction = .loop x) :
    (tableEnd ch p s).view ch = (s.view ch).moved.begun x p := by
  have none : (look s.channels ch).commit = none := hcommit
  have commit : commitAt (look s.channels ch) .atTableEnd = Option.none := commitAt_miss (by simp [none])
  have action : (look s.tables ch).active.endAction = .loop x := hloop
  rw [← view_advanceTo, tableEnd, commit]
  dsimp only
  rw [action]

theorem view_tableEnd_stop (hcommit : (s.view ch).record.commit = none)
    (hend : (s.view ch).tables.active.endAction = .stop) : (tableEnd ch p s).view ch = (s.view ch).idled := by
  have none : (look s.channels ch).commit = none := hcommit
  have commit : commitAt (look s.channels ch) .atTableEnd = Option.none := commitAt_miss (by simp [none])
  have action : (look s.tables ch).active.endAction = .stop := hend
  rw [← view_enterIdle, tableEnd, commit]
  dsimp only
  rw [action]

end Sys2Proof.Machine
end

-- ==== A channel's operations are its own work ====
section
/-! SUPPORT. Every operation of a channel, and every part of the tick that a channel does, is work on that channel's own
part of the state; and work on several channels is, for each, its own operation on a state with the same view of it. -/

namespace Sys2Proof.Machine

open Sys2Proof

variable {s t u : State} {ch d : ChanId}

/-! ### One channel's operations -/

theorem channelWork_swapBanks (ch : ChanId) (s : State) : ChannelWork ch s (swapBanks ch s) :=
  (((ChannelWork.refl ch s).modTables _).modChannel _).raise (k := 3) rfl

theorem channelWork_flush (ch : ChanId) (s : State) : ChannelWork ch s (flush ch s) :=
  (ChannelWork.refl ch s).orphan.modPrefetch fun _ => ⟨[], freshPath (look s.channels ch), 0, none⟩

theorem channelWork_movePlay (ch : ChanId) (s : State) : ChannelWork ch s (movePlay ch s) :=
  (ChannelWork.refl ch s).modPrefetch _

theorem channelWork_enterIdle (ch : ChanId) (s : State) : ChannelWork ch s (enterIdle ch s) := by
  have idle : ChannelWork ch s (s.modChannel ch idleRecord) := (ChannelWork.refl ch s).modChannel _
  have disposed : ChannelWork ch s (if (look (s.modChannel ch idleRecord).channels ch).commit.isSome
      then swapBanks ch (s.modChannel ch idleRecord) else s.modChannel ch idleRecord) := by
    split
    · exact idle.trans (channelWork_swapBanks ch _)
    · exact idle
  exact ((disposed.trans (channelWork_flush ch _)).setPattern _).raise (k := 1) rfl

theorem channelWork_beginEntry (ch : ChanId) (x : SlotIx) (p : Nat) (s : State) :
    ChannelWork ch s (beginEntry ch x p s) := by
  have begun : ChannelWork ch s (s.modChannel ch (beginRecord (entryIn s ch x) x p)) :=
    (ChannelWork.refl ch s).modChannel _
  unfold beginEntry
  dsimp only
  split
  · exact begun.modChannel _
  · split
    · exact begun.trans (channelWork_enterIdle ch _)
    · exact (begun.modChannel _).raise (k := 2) rfl

theorem channelWork_turnTo (ch : ChanId) (x : SlotIx) (s : State) : ChannelWork ch s (turnTo ch x s) :=
  (channelWork_beginEntry ch x 0 s).trans (channelWork_flush ch _)

theorem channelWork_takeCommit (ch : ChanId) (x : SlotIx) (s : State) : ChannelWork ch s (takeCommit ch x s) :=
  (channelWork_swapBanks ch s).trans (channelWork_turnTo ch x _)

theorem channelWork_advanceTo (ch : ChanId) (x : SlotIx) (p : Nat) (s : State) :
    ChannelWork ch s (advanceTo ch x p s) :=
  (channelWork_movePlay ch s).trans (channelWork_beginEntry ch x p _)

theorem channelWork_tableEnd (ch : ChanId) (p : Nat) (s : State) : ChannelWork ch s (tableEnd ch p s) := by
  unfold tableEnd
  split
  · exact channelWork_takeCommit ch _ s
  · split
    · exact channelWork_advanceTo ch _ p s
    · exact channelWork_enterIdle ch s

theorem channelWork_entryEnd (ch : ChanId) (p : Nat) (jump : Option SlotIx) (s : State) :
    ChannelWork ch s (entryEnd ch p jump s) := by
  unfold entryEnd
  dsimp only
  split
  · exact channelWork_enterIdle ch s
  · split
    · exact channelWork_takeCommit ch _ s
    · split
      · exact channelWork_turnTo ch _ s
      · split
        · exact channelWork_advanceTo ch _ p s
        · exact channelWork_tableEnd ch p s

theorem channelWork_passCounted (ch : ChanId) (p : Nat) (s : State) : ChannelWork ch s (passCounted ch p s) :=
  ((ChannelWork.refl ch s).emitPulse.turnPins (bare_invertToggle ch) fun m _ => togglesFor_invertToggle m).modChannel _

theorem channelWork_passEnds (ch : ChanId) (p : Nat) (jump : Option SlotIx) (s : State) :
    ChannelWork ch s (passEnds ch p jump s) := by
  have counted := channelWork_passCounted ch p s
  rw [passEnds_eq]
  unfold passEndDecision
  dsimp only
  split
  · exact counted.trans (channelWork_enterIdle ch _)
  · split
    · exact counted.trans (channelWork_entryEnd ch p jump _)
    · split
      · exact counted.trans (channelWork_entryEnd ch p _ _)
      · exact counted.trans (channelWork_movePlay ch _)

theorem channelWork_withdrawPrefetch (ch : ChanId) (s : State) : ChannelWork ch s (withdrawPrefetch ch s) := by
  unfold withdrawPrefetch
  split
  · exact ChannelWork.refl ch s
  · exact (ChannelWork.refl ch s).modPrefetch _

theorem channelWork_trimToStop (ch : ChanId) (s : State) : ChannelWork ch s (trimToStop ch s) := by
  unfold trimToStop
  split
  · exact ChannelWork.refl ch s
  · split
    · exact channelWork_withdrawPrefetch ch s
    · exact ChannelWork.refl ch s

theorem channelWork_presentPrefetch (ch : ChanId) (s : State) : ChannelWork ch s (presentPrefetch ch s) := by
  obtain h | ⟨pos, r, -, -, -, -, h⟩ := presentPrefetch_cases ch s <;> rw [h]
  · exact ChannelWork.refl ch s
  · exact (ChannelWork.refl ch s).modPrefetch _

/-- The channel at its START before its prefetcher asks for the first line (R50). -/
def startTurned (x : SlotIx) (ch : ChanId) (s : State) : State :=
  ((eachPin (fun i s => s.modPin i (restoreToggle ch)) (turnTo ch x (s.modChannel ch startRecord))).setPattern ch
    0#4).raise (.started ch)

theorem channelWork_startTurned (x : SlotIx) (ch : ChanId) (s : State) : ChannelWork ch s (startTurned x ch s) := by
  have turned : ChannelWork ch s (turnTo ch x (s.modChannel ch startRecord)) :=
    ((ChannelWork.refl ch s).modChannel _).trans (channelWork_turnTo ch x _)
  have shown := turned.turnPins (bare_restoreToggle ch) fun m _ => togglesFor_restoreToggle m
  exact (shown.setPattern _).raise (k := 0) rfl

theorem channelWork_startChannel (x : SlotIx) (ch : ChanId) (s : State) : ChannelWork ch s (startChannel x ch s) :=
  (channelWork_startTurned x ch s).trans (channelWork_presentPrefetch ch _)

theorem channelWork_stopChannel (mode : StopMode) (ch : ChanId) (s : State) :
    ChannelWork ch s (stopChannel mode ch s) := by
  unfold stopChannel
  split
  · exact ChannelWork.refl ch s
  · exact channelWork_enterIdle ch s
  · exact channelWork_enterIdle ch s
  · exact (((ChannelWork.refl ch s).modChannel _).trans (channelWork_trimToStop ch _)).trans
      (channelWork_presentPrefetch ch _)

/-! ### One channel's parts of the tick -/

theorem channelWork_carryStop (ch : ChanId) (s : State) : ChannelWork ch s (carryStop ch s) := by
  unfold carryStop
  dsimp only
  split
  · exact channelWork_enterIdle ch s
  · exact ChannelWork.refl ch s

theorem channelWork_takeFirings (fired : BitVec 4) (ch : ChanId) (s : State) :
    ChannelWork ch s (takeFirings fired ch s) := by
  have same := ChannelWork.refl ch s
  unfold takeFirings
  split
  · exact same.modChannel _
  · split
    · exact same
    · split
      · exact same.modChannel _
      · exact same

theorem channelWork_handComputed (ch : ChanId) (z : Int) (s : State) : ChannelWork ch s (handComputed ch z s) := by
  have handed : ChannelWork ch s (s.modChannel ch fun c =>
      handCode (BitVec.ofInt 16 (clampCode (roundValue z))) { c with underrunEpisode := false }) :=
    (ChannelWork.refl ch s).modChannel _
  unfold handComputed
  dsimp only
  split
  · exact handed
  · split
    · exact handed.modChannel clipRecord
    · exact (handed.modChannel clipRecord).raise (k := 5) rfl

theorem channelWork_handOver (values : ChanId → TickValue) (ch : ChanId) (s : State) :
    ChannelWork ch s (handOver values ch s) := by
  have same := ChannelWork.refl ch s
  unfold handOver
  dsimp only
  split
  · exact same.modChannel _
  · exact same.modChannel _
  · split <;> exact same.modChannel _
  · split
    · exact channelWork_handComputed ch _ s
    · split
      · exact same.modChannel _
      · exact (same.modChannel _).raise (k := 4) rfl
    · exact same.modChannel _
    · exact same.modChannel _

theorem channelWork_showPattern (ch : ChanId) (s : State) : ChannelWork ch s (showPattern ch s) := by
  unfold showPattern
  split
  · split
    · exact ChannelWork.refl ch s
    · exact (ChannelWork.refl ch s).setPattern _
  · exact ChannelWork.refl ch s

theorem channelWork_advance (jumps : ChanId → Option SlotIx) (ch : ChanId) (s : State) :
    ChannelWork ch s (advance jumps ch s) := by
  unfold advance
  dsimp only
  split
  · split
    · exact channelWork_passEnds ch _ _ s
    · have moved := (ChannelWork.refl ch s).modChannel
        fun c => { c with phase := (look s.channels ch).phase + (look s.channels ch).currentStep }
      have played := moved.trans (channelWork_movePlay ch _)
      split <;> split
      · exact moved
      · exact played
      · exact moved.trans (channelWork_entryEnd ch _ _ _)
      · exact played.trans (channelWork_entryEnd ch _ _ _)
  · exact ChannelWork.refl ch s

/-! ### Work on several channels -/

/-- Every channel's own part may have changed, and nothing else of the state but the liveness of the transfer. -/
structure ChannelsWork (s t : State) : Prop where
  bare : t.bare = s.bare
  addr : t.arbiter.port.map Transfer.addr = s.arbiter.port.map Transfer.addr
  grow : FlagsGrow s t

theorem ChannelsWork.trans (h : ChannelsWork s t) (g : ChannelsWork t u) : ChannelsWork s u :=
  ⟨g.bare.trans h.bare, g.addr.trans h.addr, fun n p hp => g.grow n p (h.grow n p hp)⟩

theorem ChannelWork.channels (h : ChannelWork ch s t) : ChannelsWork s t := ⟨h.bare, h.addr, h.grow⟩

/-- The state has the same view of the channel, and the same of everything that is no channel's. -/
structure SameFor (ch : ChanId) (s t : State) : Prop where
  bare : t.bare = s.bare
  view : t.view ch = s.view ch

theorem SameFor.trans (h : SameFor ch s t) (g : SameFor ch t u) : SameFor ch s u :=
  ⟨g.bare.trans h.bare, g.view.trans h.view⟩

theorem ChannelWork.sameFor (h : ChannelWork ch s t) (hd : d ≠ ch) : SameFor d s t := ⟨h.bare, h.others d hd⟩

section
variable {f : ChanId → State → State} (hf : ∀ ch u, ChannelWork ch u (f ch u))
include hf

theorem channelsWork_foldl (l : List ChanId) : ∀ s, ChannelsWork s (l.foldl (fun u ch => f ch u) s) := by
  induction l with
  | nil => exact fun s => ⟨rfl, rfl, fun _ _ h => h⟩
  | cons d l ih => exact fun s => (hf d s).channels.trans (ih _)

/-- A channel that no step works on keeps its view. -/
theorem sameFor_foldl (l : List ChanId) : ∀ s, ch ∉ l → SameFor ch s (l.foldl (fun u ch => f ch u) s) := by
  induction l with
  | nil => exact fun s _ => ⟨rfl, rfl⟩
  | cons d l ih =>
    intro s h
    obtain ⟨hd, hl⟩ : ch ≠ d ∧ ch ∉ l := by simpa using h
    exact ((hf d s).sameFor hd).trans (ih _ hl)

/-- A channel that one step works on has that step done on a state with the same view of it. -/
theorem own_step_foldl (l : List ChanId) : ∀ s, l.Nodup → ch ∈ l →
    ∃ u, SameFor ch s u ∧ (l.foldl (fun u ch => f ch u) s).view ch = (f ch u).view ch := by
  induction l with
  | nil => exact fun s _ h => by cases h
  | cons d l ih =>
    intro s hl h
    obtain ⟨hd, hl⟩ := List.nodup_cons.mp hl
    by_cases e : ch = d
    · subst e
      exact ⟨s, ⟨rfl, rfl⟩, (sameFor_foldl hf l _ hd).view⟩
    · obtain ⟨u, hu, hview⟩ := ih (f d s) hl ((List.mem_cons.mp h).resolve_left e)
      exact ⟨u, ((hf d s).sameFor e).trans hu, hview⟩

theorem channelsWork_eachChannel (s : State) : ChannelsWork s (eachChannel f s) := by
  rw [eachChannel_eq]
  exact channelsWork_foldl hf _ s

theorem own_step_eachChannel (ch : ChanId) (s : State) :
    ∃ u, SameFor ch s u ∧ (eachChannel f s).view ch = (f ch u).view ch := by
  have all : ∀ ch : ChanId, ch ∈ ([0, 1, 2, 3] : List ChanId) := by decide
  rw [eachChannel_eq]
  exact own_step_foldl hf _ s (by decide) (all ch)

theorem channelsWork_forChannels (set : BitVec 4) (s : State) : ChannelsWork s (forChannels set f s) :=
  channelsWork_foldl hf _ s

theorem sameFor_forChannels {set : BitVec 4} (h : set.getLsbD ch.val = false) (s : State) :
    SameFor ch s (forChannels set f s) :=
  sameFor_foldl hf _ s fun hm => Bool.false_ne_true (h ▸ (List.mem_filter.mp hm).2)

theorem own_step_forChannels {set : BitVec 4} (h : set.getLsbD ch.val = true) (s : State) :
    ∃ u, SameFor ch s u ∧ (forChannels set f s).view ch = (f ch u).view ch :=
  own_step_foldl hf _ s ((List.nodup_finRange 4).filter _) (by simp [channelsOf, h])

end

end Sys2Proof.Machine
end

-- ==== START and STOP judged ====
section
/-! SUPPORT. START and STOP over a channel set (R49, R51): the payload's fields, the refusals in their order, and what an
accepted one leaves of the links and of everything that is no channel's. -/

namespace Sys2Proof.Machine

open Sys2Proof

variable {s u : State} {n : LinkId} {tag : Byte} {p : List Byte} {set : BitVec 4} {x : SlotIx} {ch : ChanId}

/-! ### Payload fields -/

theorem channelSetAt_none {i : Nat} (h : byteAt p i = 0 ∨ 16 ≤ byteAt p i) : channelSetAt p i = none := by
  simp [channelSetAt, h]

theorem channelSetAt_oneByte (hset : set ≠ 0#4) (p : List Byte) :
    channelSetAt (oneByte set.toNat :: p) 0 = some set := by
  have small : set.toNat % 256 = set.toNat := Nat.mod_eq_of_lt (by omega)
  have pos : set.toNat ≠ 0 := fun e => hset (BitVec.eq_of_toNat_eq e)
  have range : ¬ 16 ≤ set.toNat := by omega
  simp [channelSetAt, small, pos, range]

theorem stopModeAt_none {i : Nat} (h : 3 ≤ byteAt p i) : stopModeAt p i = none := by
  obtain ⟨k, hk⟩ := Nat.exists_eq_add_of_le h
  rw [stopModeAt, hk, Nat.add_comm]
  rfl

/-! ### START's refusals (R49) -/

theorem lowestFailing_eq (set : BitVec 4) (fails : ChanId → Bool) :
    lowestFailing set fails = ([0, 1, 2, 3] : List ChanId).find? fun ch => set.getLsbD ch.val && fails ch := by
  rw [lowestFailing, channelsOf, List.find?_filter]
  simp only [Bool.decide_and, Bool.decide_eq_true]
  rfl

theorem lowestFailing_none {fails : ChanId → Bool} (h : ∀ j : ChanId, set.getLsbD j.val = true → fails j = false) :
    lowestFailing set fails = none := by
  rw [lowestFailing_eq, List.find?_eq_none]
  intro j _
  cases hj : set.getLsbD j.val with
  | false => simp
  | true => simp [h j hj]

theorem lowestFailing_some {fails : ChanId → Bool} (hch : set.getLsbD ch.val = true) (hfails : fails ch = true)
    (hbelow : ∀ j < ch, set.getLsbD j.val = true → fails j = false) : lowestFailing set fails = some ch := by
  have passes : ∀ j < ch, (set.getLsbD j.val && fails j) = false := fun j hj => by
    cases h : set.getLsbD j.val with
    | false => rfl
    | true => exact hbelow j hj h
  have here : (set.getLsbD ch.val && fails ch) = true := by rw [hch, hfails]; rfl
  rw [lowestFailing_eq, List.find?_eq_some_iff_getElem]
  refine ⟨here, ch.val, ch.isLt, by fin_cases ch <;> rfl, fun j hj => ?_⟩
  have index : ([0, 1, 2, 3] : List ChanId)[j]'(by simp; omega) = ⟨j, by omega⟩ := by
    have : j < 4 := by omega
    interval_cases j <;> rfl
  rw [index, passes ⟨j, by omega⟩ hj]
  rfl

theorem startChannels_outOfRange (h : channelSetAt p 0 = none ∨ finAt 64 p 1 = none) :
    startChannels n tag p u = respond n tag .outOfRange [] u := by
  unfold startChannels
  split
  · simp_all
  · rfl

theorem startChannels_refused {status : Status} (hset : channelSetAt p 0 = some set) (hx : finAt 64 p 1 = some x)
    (hfault : startFault u set x = some (status, ch)) :
    startChannels n tag p u = respond n tag status [oneByte ch.val] u := by
  simp only [startChannels, hset, hx, hfault]

theorem startChannels_accepted (hset : channelSetAt p 0 = some set) (hx : finAt 64 p 1 = some x)
    (hfault : startFault u set x = none) :
    startChannels n tag p u = respond n tag .ok [] (forChannels set (startChannel x) u) := by
  simp only [startChannels, hset, hx, hfault]

theorem stopChannels_outOfRange (h : channelSetAt p 0 = none ∨ stopModeAt p 1 = none) :
    stopChannels n tag p u = respond n tag .outOfRange [] u := by
  unfold stopChannels
  split
  · simp_all
  · rfl

theorem stopChannels_accepted {mode : StopMode} (hset : channelSetAt p 0 = some set)
    (hmode : stopModeAt p 1 = some mode) :
    stopChannels n tag p u = respond n tag .ok [] (forChannels set (stopChannel mode) u) := by
  simp only [stopChannels, hset, hmode]

/-- START's second check (R49): WRONG_STATE by the lowest channel of the set that is not IDLE. -/
theorem startFault_busy (h : lowestFailing set (fun ch => (look s.channels ch).mode ≠ .idle) = some ch) :
    startFault s set x = some (.wrongState, ch) := by
  unfold startFault
  rw [h]

section
variable (hidle : lowestFailing set (fun ch => (look s.channels ch).mode ≠ .idle) = none)
include hidle

/-- The third: EMPTY_TABLE. -/
theorem startFault_empty (h : lowestFailing set (fun ch => (look s.tables ch).active.count = 0) = some ch) :
    startFault s set x = some (.emptyTable, ch) := by
  unfold startFault
  rw [hidle, h]

variable (hfilled : lowestFailing set (fun ch => (look s.tables ch).active.count = 0) = none)
include hfilled

/-- The fourth: OUT_OF_RANGE. -/
theorem startFault_beyond (h : lowestFailing set (fun ch => (look s.tables ch).active.count ≤ x.val) = some ch) :
    startFault s set x = some (.outOfRange, ch) := by
  unfold startFault
  rw [hidle, hfilled, h]

variable (hwithin : lowestFailing set (fun ch => (look s.tables ch).active.count ≤ x.val) = none)
include hwithin

/-- The fifth: NO_CLOCK. -/
theorem startFault_clock
    (h : lowestFailing set (fun ch => (look s.channels ch).haltOnLoss && !s.monitor.locked) = some ch) :
    startFault s set x = some (.noClock, ch) := by
  unfold startFault
  rw [hidle, hfilled, hwithin, h]

theorem startFault_passed
    (h : lowestFailing set (fun ch => (look s.channels ch).haltOnLoss && !s.monitor.locked) = none) :
    startFault s set x = none := by
  unfold startFault
  rw [hidle, hfilled, hwithin, h]

end

/-- Settles O37: the checks in their order, each by the lowest channel that fails it. -/
theorem startIsAllOrNothing : Obligations.StartIsAllOrNothing := by
  unfold Obligations.StartIsAllOrNothing
  intro n tag s h refused busy empty beyond noClock
  have starts : ∀ (a b : Byte) (status : Status) (q : List Byte),
      startChannels n tag [a, b] (heard n 2 s) = respond n tag status q (heard n 2 s) →
      refused (.start n tag [a, b]) status q :=
    fun a b status q => exec_responds (code := 0x30#8) rfl h rfl (by decide) (by decide)
  refine ⟨fun a b hab => starts a b _ _ (startChannels_outOfRange ?_), fun a b hab => ?_, fun set x ch hch => ?_⟩
  · obtain rfl | ha | hb := hab
    · exact .inl (channelSetAt_none (.inl rfl))
    · exact .inl (channelSetAt_none (.inr ha))
    · exact .inr (finAt_none hb)
  · refine exec_responds (code := 0x31#8) rfl h rfl (by decide) (by decide) (stopChannels_outOfRange ?_)
    obtain rfl | ha | hb := hab
    · exact .inl (channelSetAt_none (.inl rfl))
    · exact .inl (channelSetAt_none (.inr ha))
    · exact .inr (stopModeAt_none hb)
  · intro lowest none' start
    have hset : set ≠ 0#4 := by
      rintro rfl
      simp at hch
    have refusal : ∀ status : Status, startFault (heard n 2 s) set x = some (status, ch) →
        refused start status [oneByte ch.val] := fun status hfault =>
      starts _ _ _ _ (startChannels_refused (channelSetAt_oneByte hset _) (finAt_second (by decide) _ x []) hfault)
    have passed : ∀ {fails : ChanId → Prop} [DecidablePred fails], none' fails →
        lowestFailing set (fun j => decide (fails j)) = none :=
      fun hnone => lowestFailing_none fun j hj => decide_eq_false (hnone j hj)
    have failed : ∀ {fails : ChanId → Prop} [DecidablePred fails], lowest fails →
        lowestFailing set (fun j => decide (fails j)) = some ch :=
      fun hlow => lowestFailing_some hch (decide_eq_true hlow.1) fun j hj hset => decide_eq_false (hlow.2 j hj hset)
    refine ⟨fun hbusy => refusal _ (startFault_busy (failed hbusy)),
      fun hidle hempty => refusal _ (startFault_empty (passed hidle) (failed hempty)),
      fun hidle hfilled hbeyond => refusal _ (startFault_beyond (passed hidle) (passed hfilled) (failed hbeyond)),
      fun hidle hfilled hwithin hclock =>
        refusal _ (startFault_clock (passed hidle) (passed hfilled) (passed hwithin) ?_)⟩
    refine lowestFailing_some hch ?_ fun j hj hset => ?_
    · have clock : (look s.channels ch).haltOnLoss = true ∧ s.monitor.locked = false := hclock.1
      simp [heard, clock]
    · simpa [heard, noClock] using hclock.2 j hj hset

end Sys2Proof.Machine
end

-- ==== START and STOP accepted ====
section
/-! SUPPORT. What an accepted START or STOP leaves of the links and of everything that is no channel's, and each channel of
the set by its view (R48, R50, R51, R58, R130). -/

namespace Sys2Proof.Machine

open Sys2Proof

variable {s t u w : State} {n : LinkId} {tag : Byte} {set : BitVec 4} {x : SlotIx} {ch : ChanId}

/-! ### Everything that is no channel's -/

theorem look_links_of_bare (h : u.bare = s.bare) (m : LinkId) :
    look u.links m = { look s.links m with flags := (look u.links m).flags } ∧
      ∀ p, 28 ≤ p → (look u.links m).flags.getLsbD p = (look s.links m).flags.getLsbD p := by
  have links : (look u.links m).bare = (look s.links m).bare := by
    rw [← look_map Link.bare, ← look_map Link.bare]
    exact congrArg (fun v : State => look v.links m) h
  simp only [Link.bare, Link.mk.injEq] at links
  obtain ⟨phase, request, flags, masks, inReset, ignoring, sdo⟩ := links
  constructor
  · dsimp only
    rw [← phase, ← request, ← masks, ← inReset, ← ignoring, ← sdo]
  · intro p hp
    have shifted := congrArg (fun b : BitVec 41 => b.getLsbD (p - 28)) flags
    simpa only [BitVec.getLsbD_ushiftRight, Nat.add_sub_cancel' hp] using shifted

/-- A state that differs from another in what is the channels' own. -/
theorem eq_of_bare (h : u.bare = s.bare) :
    u = { s with tables := u.tables, channels := u.channels, prefetch := u.prefetch, patterns := u.patterns,
                 trigger := { s.trigger with pulses := u.trigger.pulses }, pins := u.pins, links := u.links,
                 arbiter := { s.arbiter with port := u.arbiter.port } } := by
  obtain ⟨_, _, _, _, _, _, _, _, ⟨_, _, _, _⟩, _, _, ⟨_, _, _, _, _⟩, _, _, _, _, _, _, _⟩ := u
  obtain ⟨_, _, _, _, _, _, _, _, ⟨_, _, _, _⟩, _, _, ⟨_, _, _, _, _⟩, _, _, _, _, _, _, _⟩ := s
  simp only [State.bare, State.mk.injEq, Trigger.mk.injEq, Arbiter.mk.injEq] at h ⊢
  simp [h]

/-- The flags of both sets after channels' work whose views show these flags of theirs newly set. -/
theorem flags_of_views (h : u.bare = s.bare) {own : ChanId → Fin 7 → Prop} {m : LinkId}
    (hview : ∀ d k, (u.view d).flags m k = true ↔ (s.view d).flags m k = true ∨ own d k) (p : Nat) :
    (look u.links m).flags.getLsbD p = true ↔
      (look s.links m).flags.getLsbD p = true ∨ ∃ d k, own d k ∧ p = 7 * d.val + k.val := by
  by_cases hp : p < 28
  · have place : p = 7 * (p / 7) + p % 7 := by omega
    have here : (look u.links m).flags.getLsbD p = true ↔ (look s.links m).flags.getLsbD p = true ∨
        own ⟨p / 7, by omega⟩ ⟨p % 7, by omega⟩ := by
      have hd := hview ⟨p / 7, by omega⟩ ⟨p % 7, by omega⟩
      simp only [State.view, ← place] at hd
      exact hd
    rw [here]
    refine or_congr_right ⟨fun ho => ⟨_, _, ho, place⟩, ?_⟩
    rintro ⟨d, k, ho, hpos⟩
    have index : (⟨p / 7, by omega⟩ : ChanId) = d ∧ (⟨p % 7, by omega⟩ : Fin 7) = k :=
      flagPos_inj.mp (place.symm.trans hpos)
    rw [index.1, index.2]
    exact ho
  · rw [(look_links_of_bare h m).2 p (by omega)]
    refine ⟨.inl, ?_⟩
    rintro (ho | ⟨d, k, -, hpos⟩)
    · exact ho
    · omega

/-- Views that read of a link only its channels' flags do not see the answer it holds. -/
theorem view_of_links {links : Vector Link 2}
    (h : ∀ m, ∀ p < 28, (look links m).flags.getLsbD p = (look s.links m).flags.getLsbD p) (d : ChanId) :
    ({ s with links := links } : State).view d = s.view d := by
  ext : 1
  case flags => exact funext fun m => funext fun k => h m _ (by omega)
  all_goals rfl

theorem view_heard (n : LinkId) (len : Nat) (s : State) (d : ChanId) : (heard n len s).view d = s.view d := by
  refine view_of_links (fun m p _ => ?_) d
  by_cases hm : n = m
  · subst hm
    simp [heardFrame]
  · rw [look_heardFrame_ne _ _ hm]

/-- The links once a command over channels has been answered OK: nothing but the answer and the flags has changed. -/
theorem look_links_answered {len : Nat} (h : ChannelsWork (heard n len s) w) (m : LinkId) :
    look (respond n tag .ok [] w).links m = { look s.links m with
      phase := if m = n then .holding ⟨tag, .ok, []⟩ else (look s.links m).phase
      sdo := if m = n then List.replicate (5 + len) 0#8 else (look s.links m).sdo
      flags := (look (respond n tag .ok [] w).links m).flags } := by
  have before := (look_links_of_bare h.bare m).1
  rw [respond_eq]
  by_cases hm : n = m
  · subst hm
    rw [look_put_same, before]
    simp [heard, heardFrame]
  · have apart : ¬ m = n := fun e => hm e.symm
    rw [look_put_ne _ _ hm, before]
    simp [heard, look_heardFrame_ne _ _ hm, apart]

/-- The flags once a command over channels has been answered: RESPONSE_READY (position 38) and the channels' own. -/
theorem flags_answered {len : Nat} {own : ChanId → Fin 7 → Prop} (h : ChannelsWork (heard n len s) w) {m : LinkId}
    (hview : ∀ d k, (w.view d).flags m k = true ↔ (s.view d).flags m k = true ∨ own d k) (p : Nat) :
    (look (respond n tag .ok [] w).links m).flags.getLsbD p = true ↔
      (look s.links m).flags.getLsbD p = true ∨ (m = n ∧ p = 38) ∨ ∃ d k, own d k ∧ p = 7 * d.val + k.val := by
  have heardFlags : (look (heard n len s).links m).flags = (look s.links m).flags := by
    by_cases hm : n = m
    · subst hm
      simp [heard, heardFrame]
    · rw [heard, look_heardFrame_ne _ _ hm]
  have worked := flags_of_views (own := own) h.bare (m := m) (fun d k => by rw [view_heard]; exact hview d k) p
  rw [heardFlags] at worked
  rw [respond_eq]
  by_cases hm : n = m
  · subst hm
    have ready : (flagBit .responseReady).getLsbD p = true ↔ p = 38 := by
      rw [getLsbD_flagBit, decide_eq_true_iff]
      exact eq_comm
    simp only [look_put_same, BitVec.getLsbD_or, Bool.or_eq_true, worked, ready, true_and]
    rw [or_assoc, or_comm (b := p = 38)]
  · have apart : ¬ m = n := fun e => hm e.symm
    rw [look_put_ne _ _ hm, worked]
    simp [apart]

/-! ### One channel of a START -/

theorem view_presentPrefetch (ch : ChanId) (s : State) :
    (presentPrefetch ch s).view ch = { s.view ch with prefetch := look (presentPrefetch ch s).prefetch ch } := by
  obtain h | ⟨pos, r, -, -, -, -, h⟩ := presentPrefetch_cases ch s <;> rw [h]
  · rfl
  · rw [view_modPrefetch]
    exact congrArg (fun p => ({ s.view ch with prefetch := p } : ChannelView)) (look_put_same ..).symm

theorem togglesFor_restoreToggle_own (ch : ChanId) (m : MarkerPin) :
    togglesFor ch (restoreToggle ch m) = (togglesFor ch m).map fun t => (t.1, t.1) := by
  unfold restoreToggle
  split
  · next c initial hm =>
    split
    · next hc => simp [togglesFor, hm, hc]
    · next hc => simp [togglesFor, hm, hc]
  · next hm =>
    unfold togglesFor
    split
    · next c initial h => exact absurd h (hm c initial)
    · rfl

/-- An entry begun at phase 0.0 with no stop pending (R48). -/
theorem begun_unstopped {v : ChannelView} (h : v.record.stop = none) :
    v.begun x 0 = { v with
      record := begunRecord (v.entryAt x) x v.record
      flags := fun m k => v.flags m k || decide (k = 2) && ((v.entryAt x).bind Entry.gate).isSome } := by
  cases hgate : (v.entryAt x).bind Entry.gate with
  | none =>
    rw [begun_ungated hgate]
    ext : 1
    case record => simp only [begunRecord, hgate]; rfl
    case flags => simp
    all_goals rfl
  | some k =>
    rw [begun_waiting (by rw [hgate]; rfl) h]
    ext : 1
    case record => simp only [ChannelView.raised, begunRecord, hgate]; rfl
    case flags => simp [ChannelView.raised]
    all_goals rfl

/-- A channel's view after its part of an accepted START, but for the prefetcher's first request (R48, R50, R116). -/
def ChannelView.started (x : SlotIx) (v : ChannelView) : ChannelView where
  record := begunRecord (v.entryAt x) x (startRecord v.record)
  tables := v.tables
  prefetch := ⟨[], some ⟨0, x, 0, 0⟩, 0, none⟩
  pattern := 0#4
  flags m k := v.flags m k || decide (k = 2) && ((v.entryAt x).bind Entry.gate).isSome || decide (k = 0)
  pulse := v.pulse
  toggles i := (v.toggles i).map fun t => (t.1, t.1)
  reading := v.reading

theorem view_startTurned (hstop : (look s.channels ch).stop = none) :
    (startTurned x ch s).view ch = (s.view ch).started x := by
  have record : (s.modChannel ch startRecord).view ch = { s.view ch with record := startRecord (s.view ch).record } :=
    view_modChannel ..
  have stop : ({ s.view ch with record := startRecord (s.view ch).record } : ChannelView).record.stop = none := hstop
  unfold startTurned
  rw [view_raise (ch := ch) (k := 0) rfl, view_setPattern, view_turnPins (togglesFor_restoreToggle_own ch), view_turnTo,
    record, begun_unstopped stop]
  ext : 1
  case prefetch => simp only [ChannelView.raised, ChannelView.flushed, freshPath_begun]; rfl
  all_goals rfl

/-- One channel of an accepted START (R50, R131): begun, and place 0 of its path asked for. -/
theorem view_startChannel (hstop : (look s.channels ch).stop = none) :
    ∃ p : Prefetch, (startChannel x ch s).view ch = { (s.view ch).started x with prefetch := p } ∧
      p.fifo = [] ∧ p.play = 0 ∧
      (prefetchInTransfer s ch = false → p.waiting = ((s.view ch).entryAt x).map fun e =>
        ⟨⟨0, x, 0, 0⟩, e.segment, segmentBase s e.segment⟩) := by
  have turned := view_startTurned (x := x) hstop
  have path : look (startTurned x ch s).prefetch ch = ⟨[], some ⟨0, x, 0, 0⟩, 0, none⟩ :=
    congrArg ChannelView.prefetch turned
  obtain ⟨hfifo, hplay⟩ := presentPrefetch_keeps ch (startTurned x ch s)
  have whole : startChannel x ch s = presentPrefetch ch (startTurned x ch s) := rfl
  refine ⟨look (presentPrefetch ch (startTurned x ch s)).prefetch ch, ?_, hfifo.trans (by rw [path]),
    hplay.trans (by rw [path]), fun hport => ?_⟩
  · rw [whole, view_presentPrefetch, turned]
  · have record : look (startTurned x ch s).channels ch =
        begunRecord ((s.view ch).entryAt x) x (startRecord (s.view ch).record) :=
      congrArg ChannelView.record turned
    have mode : (look (startTurned x ch s).channels ch).mode = .running ∨
        (look (startTurned x ch s).channels ch).mode = .waiting := by
      rw [record, begunRecord]
      dsimp only
      split
      · exact .inr rfl
      · exact .inl rfl
    have stop : (look (startTurned x ch s).channels ch).stop = none := by
      rw [record]
      exact hstop
    have reading : prefetchInTransfer (startTurned x ch s) ch = false :=
      (congrArg ChannelView.reading turned).trans hport
    have entry : entryIn (startTurned x ch s) ch x = (s.view ch).entryAt x :=
      congrArg (fun v : ChannelView => v.entryAt x) turned
    rw [presentPrefetch_fresh path mode stop reading, entry, segmentBase_of_bare (channelWork_startTurned x ch s).bare]

/-! ### The pins -/

theorem source_bare (m : MarkerPin) : m.bare.source = m.source := by
  unfold MarkerPin.bare
  split
  · rfl
  · rfl

theorem pin_of_bare {m k : MarkerPin} (h : k.bare = m.bare) (hm : ∀ c initial, m.source ≠ .passToggle c initial) :
    k = m := by
  have source : k.source = m.source := by rw [← source_bare, h, source_bare]
  have same : ∀ l : MarkerPin, (∀ c initial, l.source ≠ .passToggle c initial) → l.bare = l := fun l hl => by
    unfold MarkerPin.bare
    split
    · next c initial hc => exact absurd hc (hl c initial)
    · rfl
  rw [← same m hm, ← h, same k (by rw [source]; exact hm)]

theorem pin_of_toggle {m k : MarkerPin} {initial a b : Bool} (h : k.bare = m.bare)
    (hm : m.source = .passToggle ch initial) (hk : togglesFor ch k = some (a, b)) : k = { m with toggle := b } := by
  have source : k.source = .passToggle ch initial := by rw [← source_bare, h, source_bare, hm]
  have toggle : k.toggle = b := by
    simp only [togglesFor, source, if_true, Option.some.injEq, Prod.mk.injEq] at hk
    exact hk.2
  simp only [MarkerPin.bare, hm, source, MarkerPin.mk.injEq] at h
  obtain ⟨-, -, pulse, path, presented, computed⟩ := h
  rw [← toggle, ← pulse, ← path, ← presented, ← computed, hm, ← source]

theorem look_pins_of_bare (h : u.bare = s.bare) (i : PinId) : (look u.pins i).bare = (look s.pins i).bare := by
  rw [← look_map MarkerPin.bare, ← look_map MarkerPin.bare]
  exact congrArg (fun v : State => look v.pins i) h

theorem pins_of_views (h : u.bare = s.bare) (htoggles : ∀ d : ChanId, (u.view d).toggles = (s.view d).toggles) :
    u.pins = s.pins := by
  refine vector_ext_look fun i => ?_
  by_cases hm : ∃ c initial, (look s.pins i).source = .passToggle c initial
  · obtain ⟨c, initial, hm⟩ := hm
    refine pin_of_toggle (a := initial) (b := (look s.pins i).toggle) (look_pins_of_bare h i) hm ?_
    rw [show togglesFor c (look u.pins i) = _ from congrFun (htoggles c) i]
    simp only [State.view, togglesFor, hm, if_true]
  · exact pin_of_bare (look_pins_of_bare h i) fun c initial hc => hm ⟨c, initial, hc⟩

/-- A pin after a START (R50, R116): at its initial level where it shows the pass toggle of a channel of the set. -/
theorem pin_started {m k : MarkerPin} (h : k.bare = m.bare)
    (htoggle : ∀ ch : ChanId, (set.getLsbD ch.val = false → togglesFor ch k = togglesFor ch m) ∧
      (set.getLsbD ch.val = true → togglesFor ch k = (togglesFor ch m).map fun t => (t.1, t.1))) :
    k = match m.source with
      | .passToggle ch initial => if set.getLsbD ch.val then { m with toggle := initial } else m
      | _ => m := by
  split
  · next ch initial hm =>
    have before : togglesFor ch m = some (initial, m.toggle) := by simp [togglesFor, hm]
    obtain ⟨out, inside⟩ := htoggle ch
    rw [before] at out inside
    split
    · next hch => exact pin_of_toggle h hm (inside hch)
    · next hch => exact pin_of_toggle h hm (out (by simpa using hch))
  · next hm => exact pin_of_bare h hm

/-! ### The whole START -/

/-- A START none of whose checks fails (R49). -/
theorem startFault_accepted (h : ∀ ch : ChanId, set.getLsbD ch.val = true → (look s.channels ch).mode = .idle ∧
      x.val < (look s.tables ch).active.count ∧ ((look s.channels ch).haltOnLoss = true → s.monitor.locked = true)) :
    startFault s set x = none := by
  have checks : ∀ {fails : ChanId → Bool}, (∀ j : ChanId, (look s.channels j).mode = .idle →
      x.val < (look s.tables j).active.count → ((look s.channels j).haltOnLoss = true → s.monitor.locked = true) →
      fails j = false) → lowestFailing set fails = none := fun hf => lowestFailing_none fun j hj => by
    obtain ⟨hmode, hcount, hclock⟩ := h j hj
    exact hf j hmode hcount hclock
  refine startFault_passed (checks fun j hmode _ _ => ?_) (checks fun j _ hcount _ => ?_)
    (checks fun j _ hcount _ => ?_)
    (checks fun j _ _ hclock => ?_)
  · simp [hmode]
  · simpa using Nat.ne_of_gt (Nat.zero_lt_of_lt hcount)
  · simpa using hcount
  · simpa using hclock

theorem pulses_of_views (h : ∀ d : ChanId, (u.view d).pulse = (s.view d).pulse) : u.trigger.pulses = s.trigger.pulses :=
  BitVec.eq_of_getLsbD_eq fun i hi => h ⟨i, hi⟩

/-- The state once a command over channels has been answered: the channels' own parts, the links and the liveness of the
transfer on the port, and nothing else. -/
theorem respond_channelsWork {len : Nat} (h : ChannelsWork (heard n len s) w)
    (hpulse : ∀ d : ChanId, (w.view d).pulse = (s.view d).pulse) :
    respond n tag .ok [] w =
      { s with tables := w.tables, channels := w.channels, prefetch := w.prefetch, patterns := w.patterns, pins := w.pins,
               links := (respond n tag .ok [] w).links, arbiter := { s.arbiter with port := w.arbiter.port } } := by
  have frame := eq_of_bare h.bare
  rw [pulses_of_views (s := s) hpulse] at frame
  have answer : respond n tag .ok [] w = { w with links := (respond n tag .ok [] w).links } := by rw [respond_eq]
  refine answer.trans ?_
  generalize (respond n tag .ok [] w).links = links
  exact (congrArg (fun v : State => ({ v with links := links } : State)) frame).trans rfl

/-- Each channel once the channels of a START's set have begun (R49, R50). -/
theorem view_forChannels_start (hstop : ∀ d : ChanId, set.getLsbD d.val = true → (look s.channels d).stop = none)
    (d : ChanId) :
    let w := forChannels set (startChannel x) (heard n 2 s)
    (set.getLsbD d.val = false → w.view d = s.view d) ∧
    (set.getLsbD d.val = true → ∃ p : Prefetch, w.view d = { (s.view d).started x with prefetch := p } ∧
      p.fifo = [] ∧ p.play = 0 ∧
      (prefetchInTransfer s d = false → p.waiting = ((s.view d).entryAt x).map fun e =>
        ⟨⟨0, x, 0, 0⟩, e.segment, segmentBase s e.segment⟩)) := by
  refine ⟨fun hd => ?_, fun hd => ?_⟩
  · exact (sameFor_forChannels (channelWork_startChannel x) hd _).view.trans (view_heard n 2 s d)
  · obtain ⟨u, hu, hview⟩ := own_step_forChannels (channelWork_startChannel x) hd (heard n 2 s)
    have same : u.view d = s.view d := hu.view.trans (view_heard n 2 s d)
    have stop : (look u.channels d).stop = none :=
      (congrArg (fun v : ChannelView => v.record.stop) same).trans (hstop d hd)
    obtain ⟨p, hp, hfifo, hplay, hwaiting⟩ := view_startChannel (x := x) stop
    refine ⟨p, hview.trans (by rw [hp, same]), hfifo, hplay, fun hport => ?_⟩
    have base : segmentBase u = segmentBase s := segmentBase_of_bare (s := heard n 2 s) hu.bare
    rw [hwaiting ((congrArg ChannelView.reading same).trans hport), same, base]

/-- Settles O36: each channel of the set by its view, the rest by the channels' work. -/
theorem startBeginsEveryChannelOfTheSet : Obligations.StartBeginsEveryChannelOfTheSet := by
  unfold Obligations.StartBeginsEveryChannelOfTheSet
  intro n tag set x s h hlaw hset hchecks entry gated
  have fault := startFault_accepted (s := heard n 2 s) hchecks
  have accepted : exec (.start n tag [oneByte set.toNat, oneByte x.val]) s =
      .next (respond n tag .ok [] (forChannels set (startChannel x) (heard n 2 s))) :=
    (exec_taken (code := 0x30#8) rfl h (len := 2) rfl (by decide) (by decide)).trans
      (congrArg _ (startChannels_accepted (channelSetAt_oneByte hset _) (finAt_second (by decide) _ x []) fault))
  have stopped : ∀ d : ChanId, set.getLsbD d.val = true → (look s.channels d).stop = none := fun d hd =>
    (hlaw d).2 (by rw [(hchecks d hd).1]; decide)
  have work := channelsWork_forChannels (channelWork_startChannel x) set (heard n 2 s)
  have views := view_forChannels_start (n := n) (x := x) stopped
  generalize forChannels set (startChannel x) (heard n 2 s) = w at accepted work views
  dsimp only at views
  have pulse : ∀ d : ChanId, (w.view d).pulse = (s.view d).pulse := fun d => by
    cases hd : set.getLsbD d.val with
    | false => rw [(views d).1 hd]
    | true =>
      obtain ⟨p, hp, -⟩ := (views d).2 hd
      rw [hp]
      rfl
  have tables : w.tables = s.tables := vector_ext_look fun d => by
    cases hd : set.getLsbD d.val with
    | false => exact congrArg ChannelView.tables ((views d).1 hd)
    | true =>
      obtain ⟨p, hp, -⟩ := (views d).2 hd
      exact congrArg ChannelView.tables hp
  refine ⟨_, accepted, ?_, work.addr, fun ch => ⟨fun hch => ?_, fun hch => ?_⟩, fun i => ?_,
    look_links_answered work, fun m p => ?_⟩
  · have frame := respond_channelsWork (tag := tag) work pulse
    rw [tables] at frame
    exact frame
  · have same := (views ch).1 hch
    exact ⟨congrArg ChannelView.record same, congrArg ChannelView.prefetch same, congrArg ChannelView.pattern same⟩
  · obtain ⟨p, hp, hfifo, hplay, hwaiting⟩ := (views ch).2 hch
    have prefetch : look w.prefetch ch = p := congrArg ChannelView.prefetch hp
    refine ⟨congrArg ChannelView.record hp, ?_, ?_, congrArg ChannelView.pattern hp, fun hport => ?_⟩
    · exact (congrArg Prefetch.fifo prefetch).trans hfifo
    · exact (congrArg Prefetch.play prefetch).trans hplay
    · exact (congrArg Prefetch.waiting prefetch).trans (hwaiting hport)
  · refine pin_started (look_pins_of_bare work.bare i) fun ch => ⟨fun hch => ?_, fun hch => ?_⟩
    · exact congrFun (congrArg ChannelView.toggles ((views ch).1 hch)) i
    · obtain ⟨p, hp, -⟩ := (views ch).2 hch
      exact congrFun (congrArg ChannelView.toggles hp) i
  · have own : ∀ d k, (w.view d).flags m k = true ↔ (s.view d).flags m k = true ∨
        set.getLsbD d.val = true ∧ (k = 0 ∨ gated d = true ∧ k = 2) := fun d k => by
      cases hd : set.getLsbD d.val with
      | false => simp [(views d).1 hd]
      | true =>
        obtain ⟨p, hp, -⟩ := (views d).2 hd
        have gate : ((s.view d).entryAt x).bind Entry.gate = (entry d).bind Entry.gate := rfl
        simp only [hp, ChannelView.started, gate, gated, Bool.or_eq_true, Bool.and_eq_true, decide_eq_true_eq, true_and]
        tauto
    rw [flags_answered work own]
    refine or_congr_right (or_congr_right ⟨?_, ?_⟩)
    · rintro ⟨d, k, ⟨hd, hk⟩, hp⟩
      refine ⟨d, hd, ?_⟩
      obtain rfl | ⟨hg, rfl⟩ := hk
      · exact .inl hp
      · exact .inr ⟨hg, hp⟩
    · rintro ⟨d, hd, hp | ⟨hg, hp⟩⟩
      · exact ⟨d, 0, ⟨hd, .inl rfl⟩, hp⟩
      · exact ⟨d, 2, ⟨hd, .inr ⟨hg, rfl⟩⟩, hp⟩

end Sys2Proof.Machine
end

-- ==== STOP accepted ====
section
/-! SUPPORT. What an accepted STOP does to each channel of its set by its state (R51, R58), and to the waiting prefetch
request of a RUNNING one by the path's new end (R130). -/

namespace Sys2Proof.Machine

open Sys2Proof

variable {s t u w : State} {n : LinkId} {tag : Byte} {set : BitVec 4} {x : SlotIx} {ch : ChanId} {mode : StopMode}

/-! ### The path's end under a stop (R130) -/

theorem stopEnd_eq {e : Entry} (hstop : (look s.channels ch).stop = some mode) (he : currentEntry s ch = some e) :
    stopEnd s ch = some (lastPlace mode e ((segmentLength s e.segment + 3) / 4)
      ((look s.channels ch).phase / 16777216 / 4) (look s.channels ch).passes (look s.prefetch ch).play) := by
  have line : phaseLine (look s.channels ch).phase = (look s.channels ch).phase / 16777216 / 4 := rfl
  unfold stopEnd
  dsimp only
  rw [hstop, he]
  cases mode with
  | immediate => rfl
  | atPassEnd =>
    cases hf : passFollows e (look s.channels ch).passes <;> simp [lastPlace, passLinesFor, hf, line]
  | atEntryEnd =>
    cases hr : e.repeats <;> simp [lastPlace, passLinesFor, passFollows, hr, line]

theorem beyondStop_iff {e : Entry} (hstop : (look s.channels ch).stop = some mode) (he : currentEntry s ch = some e)
    (place : Nat) : beyondStop s ch place = true ↔ BeyondPath s ch (some mode) place := by
  rw [beyondStop, stopEnd_eq hstop he]
  simp [BeyondPath, he]

theorem play_le_stopEnd {last : Nat} (h : stopEnd s ch = some last) : (look s.prefetch ch).play ≤ last := by
  unfold stopEnd at h
  dsimp only at h
  split at h
  · cases h
  · exact (Option.some.inj h).le
  · exact (Option.some.inj h).le
  · split at h
    · have := Option.some.inj h
      omega
    · split at h <;> have := Option.some.inj h <;> omega

/-! ### The waiting request -/

/-- A prefetcher with a request asks for nothing more (R123). -/
theorem presentPrefetch_waiting {r : PrefetchRequest} (h : (look s.prefetch ch).waiting = some r) :
    presentPrefetch ch s = s := by
  have wants : wantsLine s ch = false := by simp [wantsLine, h]
  simp [presentPrefetch, wants]

/-- Nor does one whose next place lies past the path's end (R130). -/
theorem presentPrefetch_beyond {pos : PathPos} (hnext : (look s.prefetch ch).next = some pos)
    (h : beyondStop s ch pos.place = true) : presentPrefetch ch s = s := by
  have ahead : ¬ pos.place < (look s.prefetch ch).play := by
    unfold beyondStop at h
    split at h
    · cases h
    · next last hlast =>
      have := play_le_stopEnd hlast
      simp only [decide_eq_true_eq] at h
      omega
  have wanted : nextWanted s ch = some pos := by simp [nextWanted, hnext, ahead]
  unfold presentPrefetch
  rw [wanted]
  simp [h]

theorem withdrawPrefetch_eq {r : PrefetchRequest} (h : (look s.prefetch ch).waiting = some r) :
    withdrawPrefetch ch s = s.modPrefetch ch fun p => { p with waiting := none, next := some r.pos } := by
  rw [withdrawPrefetch, h]

theorem trimToStop_cases (ch : ChanId) (s : State) :
    trimToStop ch s = s ∨
      ∃ r, (look s.prefetch ch).waiting = some r ∧ beyondStop s ch r.pos.place = true ∧
        trimToStop ch s = s.modPrefetch ch fun p => { p with waiting := none, next := some r.pos } := by
  unfold trimToStop
  split
  · exact .inl rfl
  · next r hr =>
    split
    · next hb => exact .inr ⟨r, hr, hb, withdrawPrefetch_eq hr⟩
    · exact .inl rfl

theorem trimToStop_beyond {r : PrefetchRequest} (h : (look s.prefetch ch).waiting = some r)
    (hb : beyondStop s ch r.pos.place = true) :
    trimToStop ch s = s.modPrefetch ch fun p => { p with waiting := none, next := some r.pos } := by
  rw [trimToStop, h]
  dsimp only
  rw [if_pos hb, withdrawPrefetch_eq h]

theorem trimToStop_within {r : PrefetchRequest} (h : (look s.prefetch ch).waiting = some r)
    (hb : beyondStop s ch r.pos.place = false) : trimToStop ch s = s := by
  rw [trimToStop, h]
  dsimp only
  rw [hb]
  rfl

/-- The prefetcher of a RUNNING channel after the stop is recorded. -/
theorem prefetch_stopRecorded (hstop : (look s.channels ch).stop = some mode) :
    let p := look s.prefetch ch
    let q := look (presentPrefetch ch (trimToStop ch s)).prefetch ch
    q.fifo = p.fifo ∧ q.play = p.play ∧
      ∀ r, p.waiting = some r → (currentEntry s ch).isSome →
        (BeyondPath s ch (some mode) r.pos.place → q.waiting = none ∧ q.next = some r.pos) ∧
        (¬ BeyondPath s ch (some mode) r.pos.place → q = p) := by
  intro p q
  obtain ⟨hfifo, hplay⟩ := presentPrefetch_keeps ch (trimToStop ch s)
  have trimmed : (look (trimToStop ch s).prefetch ch).fifo = p.fifo ∧
      (look (trimToStop ch s).prefetch ch).play = p.play := by
    obtain h | ⟨r, -, -, h⟩ := trimToStop_cases ch s <;> rw [h]
    · exact ⟨rfl, rfl⟩
    · rw [State.modPrefetch_prefetch, look_put_same]
      exact ⟨rfl, rfl⟩
  refine ⟨hfifo.trans trimmed.1, hplay.trans trimmed.2, fun r hr he => ?_⟩
  obtain ⟨e, he⟩ := Option.isSome_iff_exists.mp he
  have beyond := beyondStop_iff hstop he r.pos.place
  refine ⟨fun hb => ?_, fun hb => ?_⟩
  · have hb := beyond.mpr hb
    have withdrawn := trimToStop_beyond hr hb
    have prefetch : look (trimToStop ch s).prefetch ch = { p with waiting := none, next := some r.pos } := by
      rw [withdrawn, State.modPrefetch_prefetch, look_put_same]
    have still : beyondStop (trimToStop ch s) ch r.pos.place = true := by
      rw [withdrawn]
      have play : (look (s.modPrefetch ch fun p => { p with waiting := none, next := some r.pos }).prefetch ch).play =
          (look s.prefetch ch).play := by rw [State.modPrefetch_prefetch, look_put_same]
      unfold beyondStop stopEnd at hb ⊢
      rw [play]
      exact hb
    have kept : q = look (trimToStop ch s).prefetch ch := by
      have := presentPrefetch_beyond (s := trimToStop ch s) (congrArg Prefetch.next prefetch) still
      change look (presentPrefetch ch (trimToStop ch s)).prefetch ch = _
      rw [this]
    rw [kept, prefetch]
    exact ⟨rfl, rfl⟩
  · have within : beyondStop s ch r.pos.place = false := by
      rw [← Bool.not_eq_true, beyond]
      exact hb
    change look (presentPrefetch ch (trimToStop ch s)).prefetch ch = _
    rw [trimToStop_within hr within, presentPrefetch_waiting hr]

/-! ### One channel of a STOP -/

theorem view_trimToStop (ch : ChanId) (s : State) :
    (trimToStop ch s).view ch = { s.view ch with prefetch := look (trimToStop ch s).prefetch ch } := by
  obtain h | ⟨r, -, -, h⟩ := trimToStop_cases ch s <;> rw [h]
  · rfl
  · rw [view_modPrefetch]
    exact congrArg (fun p => ({ s.view ch with prefetch := p } : ChannelView)) (look_put_same ..).symm

/-- A channel of the set by its state (R51). -/
theorem view_stopChannel_idle (h : (look s.channels ch).mode = .idle) :
    (stopChannel mode ch s).view ch = s.view ch := by
  rw [stopChannel, h]

theorem view_stopChannel_ends (h : (look s.channels ch).mode = .waiting ∨ (look s.channels ch).mode = .halted) :
    (stopChannel mode ch s).view ch = (s.view ch).idled := by
  rw [← view_enterIdle]
  obtain h | h := h <;> rw [stopChannel, h]

theorem view_stopChannel_running (h : (look s.channels ch).mode = .running) :
    ∃ q : Prefetch, (stopChannel mode ch s).view ch =
        { s.view ch with record := { (s.view ch).record with stop := some mode }, prefetch := q } ∧
      q.fifo = (look s.prefetch ch).fifo ∧ q.play = (look s.prefetch ch).play ∧
      ∀ r, (look s.prefetch ch).waiting = some r → (currentEntry s ch).isSome →
        (BeyondPath s ch (some mode) r.pos.place → q.waiting = none ∧ q.next = some r.pos) ∧
        (¬ BeyondPath s ch (some mode) r.pos.place → q = look s.prefetch ch) := by
  generalize hu : (s.modChannel ch fun c => { c with stop := some mode }) = u
  have view : u.view ch = { s.view ch with record := { (s.view ch).record with stop := some mode } } := by
    rw [← hu, view_modChannel]
  have record : look u.channels ch = { look s.channels ch with stop := some mode } := congrArg ChannelView.record view
  have prefetch : look u.prefetch ch = look s.prefetch ch := congrArg ChannelView.prefetch view
  have current : currentEntry u ch = currentEntry s ch := congrArg ChannelView.current view
  have length : segmentLength u = segmentLength s := by rw [← hu]; rfl
  have beyond : ∀ place, BeyondPath u ch (some mode) place = BeyondPath s ch (some mode) place := fun place => by
    unfold BeyondPath
    rw [record, prefetch, current, length]
  have whole : stopChannel mode ch s = presentPrefetch ch (trimToStop ch u) := by rw [stopChannel, h, ← hu]
  have recorded := prefetch_stopRecorded (s := u) (ch := ch) (mode := mode) (by rw [record])
  simp only [prefetch, current, beyond] at recorded
  refine ⟨_, ?_, recorded⟩
  rw [whole, view_presentPrefetch, view_trimToStop, view]

/-! ### The whole STOP -/

/-- The channel ends at the STOP (R51, R58): it is of the set, and WAITING or HALTED. -/
def EndsAtStop (set : BitVec 4) (s : State) (ch : ChanId) : Prop :=
  set.getLsbD ch.val = true ∧ ((look s.channels ch).mode = .waiting ∨ (look s.channels ch).mode = .halted)

/-- Each channel once a STOP has acted on the channels of its set. -/
theorem view_forChannels_stop (d : ChanId) :
    let w := forChannels set (stopChannel mode) (heard n 2 s)
    (set.getLsbD d.val = false ∨ (look s.channels d).mode = .idle → w.view d = s.view d) ∧
    (EndsAtStop set s d → w.view d = (s.view d).idled) ∧
    (set.getLsbD d.val = true → (look s.channels d).mode = .running → ∃ q : Prefetch,
      w.view d = { s.view d with record := { (s.view d).record with stop := some mode }, prefetch := q } ∧
      q.fifo = (look s.prefetch d).fifo ∧ q.play = (look s.prefetch d).play ∧
      ∀ r, (look s.prefetch d).waiting = some r → (currentEntry s d).isSome →
        (BeyondPath s d (some mode) r.pos.place → q.waiting = none ∧ q.next = some r.pos) ∧
        (¬ BeyondPath s d (some mode) r.pos.place → q = look s.prefetch d)) := by
  intro w
  have out : set.getLsbD d.val = false → w.view d = s.view d := fun hd =>
    (sameFor_forChannels (channelWork_stopChannel mode) hd _).view.trans (view_heard n 2 s d)
  have step : set.getLsbD d.val = true → ∃ u, u.view d = s.view d ∧ segmentLength u = segmentLength s ∧
      w.view d = (stopChannel mode d u).view d := fun hd => by
    obtain ⟨u, hu, hview⟩ := own_step_forChannels (channelWork_stopChannel mode) hd (heard n 2 s)
    exact ⟨u, hu.view.trans (view_heard n 2 s d), segmentLength_of_bare (s := heard n 2 s) hu.bare, hview⟩
  refine ⟨fun h => ?_, fun ⟨hd, hm⟩ => ?_, fun hd hm => ?_⟩
  · cases hd : set.getLsbD d.val with
    | false => exact out hd
    | true =>
      obtain ⟨u, hu, -, hview⟩ := step hd
      have idle : (look s.channels d).mode = .idle := h.resolve_left (by rw [hd]; decide)
      have record : look u.channels d = look s.channels d := congrArg ChannelView.record hu
      rw [hview, view_stopChannel_idle (by rw [record]; exact idle), hu]
  · obtain ⟨u, hu, -, hview⟩ := step hd
    have record : look u.channels d = look s.channels d := congrArg ChannelView.record hu
    rw [hview, view_stopChannel_ends (by rw [record]; exact hm), hu]
  · obtain ⟨u, hu, length, hview⟩ := step hd
    have record : look u.channels d = look s.channels d := congrArg ChannelView.record hu
    have prefetch : look u.prefetch d = look s.prefetch d := congrArg ChannelView.prefetch hu
    have current : currentEntry u d = currentEntry s d := congrArg ChannelView.current hu
    have beyond : ∀ place, BeyondPath u d (some mode) place = BeyondPath s d (some mode) place := fun place => by
      unfold BeyondPath
      rw [record, prefetch, current, length]
    obtain ⟨q, hq, hrest⟩ := view_stopChannel_running (mode := mode) (s := u) (ch := d) (by rw [record]; exact hm)
    simp only [prefetch, current, beyond] at hrest
    exact ⟨q, by rw [hview, hq, hu], hrest⟩

/-- Of each channel: it has ended, or nothing but its record and its prefetcher has changed. -/
theorem view_forChannels_stop_cases (d : ChanId) :
    let w := forChannels set (stopChannel mode) (heard n 2 s)
    (EndsAtStop set s d ∧ w.view d = (s.view d).idled) ∨
      (¬ EndsAtStop set s d ∧ ∃ c q, w.view d = { s.view d with record := c, prefetch := q }) := by
  intro w
  obtain ⟨same, idled, running⟩ := view_forChannels_stop (s := s) (n := n) (set := set) (mode := mode) d
  by_cases hout : set.getLsbD d.val = false ∨ (look s.channels d).mode = .idle
  · refine .inr ⟨fun ⟨hd, hm⟩ => ?_, _, _, same hout⟩
    obtain hout | hout := hout
    · rw [hout] at hd
      cases hd
    · rw [hout] at hm
      simp at hm
  · have hd : set.getLsbD d.val = true := by
      rw [← Bool.not_eq_false]
      exact fun e => hout (.inl e)
    cases hm : (look s.channels d).mode with
    | idle => exact absurd (.inr hm) hout
    | waiting => exact .inl ⟨⟨hd, .inl hm⟩, idled ⟨hd, .inl hm⟩⟩
    | halted => exact .inl ⟨⟨hd, .inr hm⟩, idled ⟨hd, .inr hm⟩⟩
    | running =>
      obtain ⟨q, hq, -⟩ := running hd hm
      exact .inr ⟨fun hends => by simpa [hm] using hends.2, _, _, hq⟩

/-- The channel's record on entry into IDLE (R58): every pending update applied or taken (R88). -/
theorem idleRecord_eq (c : Channel) : idleRecord c = { c with
    mode := .idle
    stop := none
    armed := none
    scale := c.pendingScale.getD c.scale
    pendingScale := none
    defaultStep := c.pendingRate.getD c.defaultStep
    pendingRate := none
    underrunEpisode := false } := by
  have scale : applyScale c = { c with scale := c.pendingScale.getD c.scale, pendingScale := none } := by
    unfold applyScale
    split
    · cases c
      simp_all
    · next x h => rw [h]; rfl
  have rate : ∀ d : Channel, applyRateIdle d = { d with
      defaultStep := d.pendingRate.getD d.defaultStep, pendingRate := none } := fun d => by
    unfold applyRateIdle
    split
    · cases d
      simp_all
    · next x h => rw [h]; rfl
  rw [idleRecord, scale, rate]

/-- Settles O38: each channel of the set by its state and its view, the rest by the channels' work. -/
theorem stopActsByState : Obligations.StopActsByState := by
  unfold Obligations.StopActsByState
  intro n tag set mode s h hset b ends
  have hmode : stopModeAt [oneByte set.toNat, b] 1 = some mode := by cases mode <;> rfl
  have accepted : exec (.stop n tag [oneByte set.toNat, b]) s =
      .next (respond n tag .ok [] (forChannels set (stopChannel mode) (heard n 2 s))) :=
    (exec_taken (code := 0x31#8) rfl h (len := 2) rfl (by decide) (by decide)).trans
      (congrArg _ (stopChannels_accepted (channelSetAt_oneByte hset _) hmode))
  have work := channelsWork_forChannels (channelWork_stopChannel mode) set (heard n 2 s)
  have views := view_forChannels_stop (s := s) (n := n) (set := set) (mode := mode)
  have byState := view_forChannels_stop_cases (s := s) (n := n) (set := set) (mode := mode)
  generalize forChannels set (stopChannel mode) (heard n 2 s) = w at accepted work views byState
  dsimp only at views
  refine ⟨_, accepted, ?_, work.addr, fun ch => ⟨fun hch => ?_, fun hch => ?_, fun hch hrun => ?_⟩,
    look_links_answered work, fun m p => ?_⟩
  · have pulse : ∀ d : ChanId, (w.view d).pulse = (s.view d).pulse := fun d => by
      obtain ⟨-, hd⟩ | ⟨-, c, q, hd⟩ := byState d <;> rw [hd]
      rfl
    have pins : w.pins = s.pins := pins_of_views (s := heard n 2 s) work.bare fun d => by
      rw [view_heard]
      obtain ⟨-, hd⟩ | ⟨-, c, q, hd⟩ := byState d <;> rw [hd]
      rfl
    have frame := respond_channelsWork (tag := tag) work pulse
    rw [pins] at frame
    exact frame
  · have same := (views ch).1 hch
    exact ⟨congrArg ChannelView.record same, congrArg ChannelView.tables same, congrArg ChannelView.prefetch same,
      congrArg ChannelView.pattern same⟩
  · have idled := (views ch).2.1 hch
    refine ⟨?_, congrArg ChannelView.tables idled, ?_, ?_, congrArg ChannelView.pattern idled⟩
    · refine (congrArg ChannelView.record idled).trans ?_
      simp only [ChannelView.idled, idleRecord_eq]
      rfl
    · exact congrArg (fun v : ChannelView => v.prefetch.fifo) idled
    · exact congrArg (fun v : ChannelView => v.prefetch.waiting) idled
  · obtain ⟨q, hq, hfifo, hplay, hrest⟩ := (views ch).2.2 hch hrun
    have prefetch : look w.prefetch ch = q := congrArg ChannelView.prefetch hq
    refine ⟨congrArg ChannelView.record hq, congrArg ChannelView.tables hq, ?_, congrArg ChannelView.pattern hq, ?_, ?_⟩
    · exact (congrArg Prefetch.fifo prefetch).trans hfifo
    · exact (congrArg Prefetch.play prefetch).trans hplay
    · subst prefetch
      exact hrest
  · have own : ∀ d k, (w.view d).flags m k = true ↔ (s.view d).flags m k = true ∨
        EndsAtStop set s d ∧ (k = 1 ∨ (look s.channels d).commit.isSome = true ∧ k = 3) := fun d k => by
      obtain ⟨hends, hd⟩ | ⟨hends, c, q, hd⟩ := byState d
      · have commit : (s.view d).record.commit = (look s.channels d).commit := rfl
        simp only [hd, ChannelView.idled, commit, hends, Bool.or_eq_true, Bool.and_eq_true, decide_eq_true_eq, true_and]
        tauto
      · simp [hd, hends]
    rw [flags_answered work own]
    refine or_congr_right (or_congr_right ⟨?_, ?_⟩)
    · rintro ⟨d, k, ⟨hends, hk⟩, hp⟩
      refine ⟨d, hends, ?_⟩
      obtain rfl | ⟨hc, rfl⟩ := hk
      · exact .inl hp
      · exact .inr ⟨hc, hp⟩
    · rintro ⟨d, hends, hp | ⟨hc, hp⟩⟩
      · exact ⟨d, 1, ⟨hends, .inl rfl⟩, hp⟩
      · exact ⟨d, 3, ⟨hends, .inr ⟨hc, rfl⟩⟩, hp⟩

end Sys2Proof.Machine
end

-- ==== A tick up to the firings ====
section
/-! SUPPORT. The opening of an output tick by views: the pins sampled (R93, R94, R158), the stops IMMEDIATE carried out
(R52), the conditions evaluated (R97 to R100), the gates opened (R60) and the jumps armed (R63). -/

namespace Sys2Proof.Machine

open Sys2Proof

variable {s t u : State} {ch d : ChanId} {k : CondId} {levels : BitVec 8} {v : ChannelView} {fires : CondId → Bool}

/-! ### Sampling -/

theorem view_sampleInputs (levels : BitVec 8) (s : State) (ch : ChanId) :
    (sampleInputs levels s).view ch = { s.view ch with pulse := false } := by
  ext : 1
  case pulse => simp [State.view, sampleInputs]
  all_goals rfl

/-! ### Conditions -/

theorem view_modCond (k : CondId) (f : Condition → Condition) (s : State) (ch : ChanId) :
    (s.modCond k f).view ch = s.view ch := rfl

/-- FIREDk lies above the channels' flags (spec 10 section 10.7.6). -/
theorem view_raise_fired (k : CondId) (s : State) (ch : ChanId) : (s.raise (.fired k)).view ch = s.view ch :=
  view_raise_of_not_own fun j => by
    simp only [flagPos]
    omega

theorem view_evaluate (k : CondId) (s : State) (ch : ChanId) : (evaluate k s).view ch = s.view ch := by
  unfold evaluate
  dsimp only
  split
  · rw [view_raise_fired, view_modCond]
  · exact view_modCond ..

theorem view_eachCond_evaluate (s : State) (ch : ChanId) : (eachCond evaluate s).view ch = s.view ch := by
  simp only [eachCond, view_evaluate]

/-- What the evaluation of a condition leaves of the trigger unit. -/
theorem evaluate_trigger (k : CondId) (s : State) :
    (evaluate k s).trigger = { s.trigger with
      conds := put s.trigger.conds k (evaluated (look s.trigger.conds k) s.trigger.seen) } := by
  unfold evaluate
  dsimp only
  split <;> rfl

theorem look_conds_evaluate (j k : CondId) (s : State) :
    look (evaluate j s).trigger.conds k =
      if j = k then evaluated (look s.trigger.conds j) s.trigger.seen else look s.trigger.conds k := by
  rw [evaluate_trigger, look_put]

theorem seen_evaluate (k : CondId) (s : State) : (evaluate k s).trigger.seen = s.trigger.seen := by
  rw [evaluate_trigger]

/-- Each condition after the evaluation of all four (R109). -/
theorem look_conds_eachCond (s : State) (k : CondId) :
    look (eachCond evaluate s).trigger.conds k = evaluated (look s.trigger.conds k) s.trigger.seen := by
  simp only [eachCond, look_conds_evaluate, seen_evaluate]
  fin_cases k <;> rfl

/-- The conditions collected in a set of bits. -/
theorem getLsbD_foldl_twoPow (f : CondId → Bool) (l : List CondId) (k : CondId) : ∀ a : BitVec 4,
    (l.foldl (fun acc j => if f j then acc ||| BitVec.twoPow 4 j.val else acc) a).getLsbD k.val =
      (a.getLsbD k.val || decide (k ∈ l) && f k) := by
  induction l with
  | nil => simp
  | cons j l ih =>
    intro a
    rw [List.foldl_cons, ih]
    by_cases hk : k = j
    · subst hk
      cases f k <;> simp
    · have off : ¬ k.val = j.val := fun e => hk (Fin.ext e)
      cases f j <;> simp [hk, off]

theorem getLsbD_firedSet (s : State) (k : CondId) :
    (firedSet s).getLsbD k.val = firesNow (look s.trigger.conds k) s.trigger.seen := by
  rw [firedSet, getLsbD_foldl_twoPow (fun j => firesNow (look s.trigger.conds j) s.trigger.seen)]
  simp

theorem channelsWork_tickOpening (levels : BitVec 8) (s : State) :
    ChannelsWork (sampleInputs levels s) (tickOpening levels s) :=
  channelsWork_eachChannel channelWork_carryStop _

theorem trigger_of_bare (h : u.bare = s.bare) :
    u.trigger = { s.trigger with pulses := u.trigger.pulses } := congrArg State.trigger (eq_of_bare h)

/-- The conditions that fire at a tick, in the statements' terms (R100). -/
theorem getLsbD_firedSet_tickOpening (levels : BitVec 8) (s : State) (k : CondId) :
    (firedSet (tickOpening levels s)).getLsbD k.val = firesAt s levels k := by
  rw [getLsbD_firedSet, trigger_of_bare (channelsWork_tickOpening levels s).bare]
  rfl

/-! ### Stops IMMEDIATE -/

/-- After the opening of a tick, its pulse not yet emitted (R52, R94). -/
def ChannelView.opened (v : ChannelView) : ChannelView :=
  if v.record.mode = .running ∧ v.record.stop = some .immediate then ({ v with pulse := false } : ChannelView).idled
  else { v with pulse := false }

theorem view_carryStop (ch : ChanId) (s : State) : (carryStop ch s).view ch =
    if (s.view ch).record.mode = .running ∧ (s.view ch).record.stop = some .immediate then (s.view ch).idled
    else s.view ch := by
  have record : (s.view ch).record = look s.channels ch := rfl
  unfold carryStop
  dsimp only
  rw [record]
  by_cases h : (look s.channels ch).mode = .running ∧ (look s.channels ch).stop = some .immediate
  · rw [if_pos (by simp [h]), if_pos h, view_enterIdle]
  · rw [if_neg (by simpa using h), if_neg h]

theorem view_tickOpening (levels : BitVec 8) (s : State) (ch : ChanId) :
    (tickOpening levels s).view ch = (s.view ch).opened := by
  obtain ⟨u, hu, hview⟩ := own_step_eachChannel channelWork_carryStop ch (sampleInputs levels s)
  rw [tickOpening, hview, view_carryStop, hu.view, view_sampleInputs]
  rfl

/-! ### Gates and jumps -/

/-- The gate of the current entry fires (R60). -/
def ChannelView.opens (fires : CondId → Bool) (v : ChannelView) : Bool := (v.current.bind Entry.gate).any fires

/-- The jump of the current entry whose condition fires (R61). -/
def ChannelView.firedJump (fires : CondId → Bool) (v : ChannelView) : Option Jump :=
  (v.current.bind Entry.jump).filter fun j => fires j.cond

/-- The target of the jump fired, if its timing is the one named (R62, R63). -/
def ChannelView.jumpTo (timing : JumpTiming) (fires : CondId → Bool) (v : ChannelView) : Option SlotIx :=
  ((v.firedJump fires).filter fun j => decide (j.timing = timing)).map Jump.target

theorem jumpTo_of_fired {timing : JumpTiming} {j : Jump} (h : v.firedJump fires = some j) :
    v.jumpTo timing fires = if j.timing = timing then some j.target else none := by
  rw [ChannelView.jumpTo, h]
  by_cases ht : j.timing = timing <;> simp [Option.filter, ht]

theorem jumpTo_of_none {timing : JumpTiming} (h : v.firedJump fires = none) : v.jumpTo timing fires = none := by
  rw [ChannelView.jumpTo, h]
  rfl

/-- After the firings (R60, R63): a gate opened, or a jump AT_PASS_END armed. -/
def ChannelView.fired (fires : CondId → Bool) (v : ChannelView) : ChannelView :=
  match v.record.mode with
  | .waiting => if v.opens fires then { v with record := { v.record with mode := .running, phase := 0 } } else v
  | .running => { v with record := { v.record with armed := (v.jumpTo .atPassEnd fires).or v.record.armed } }
  | _ => v

section
variable {set : BitVec 4} (hset : ∀ k : CondId, set.getLsbD k.val = fires k)
include hset

theorem gateFires_eq :
    gateFires s set ch = (decide ((s.view ch).record.mode = .waiting) && (s.view ch).opens fires) := by
  rw [gateFires, ChannelView.opens, current_view]
  cases (currentEntry s ch).bind Entry.gate with
  | none => rfl
  | some k => rw [Option.any_some, ← hset k]; rfl

theorem firedJump_eq : firedJump s set ch =
    if (s.view ch).record.mode = .running then (s.view ch).firedJump fires else none := by
  rw [Machine.firedJump, ChannelView.firedJump, current_view]
  cases (currentEntry s ch).bind Entry.jump with
  | none => rfl
  | some j => simp only [hset, Option.filter_some]; rfl

theorem immediateJump_eq : immediateJump s set ch =
    if (s.view ch).record.mode = .running then (s.view ch).jumpTo .immediate fires else none := by
  rw [immediateJump, firedJump_eq hset]
  by_cases hmode : (s.view ch).record.mode = .running
  · rw [if_pos hmode, if_pos hmode]
    cases hjump : (s.view ch).firedJump fires with
    | none => rw [jumpTo_of_none hjump]
    | some j => rw [jumpTo_of_fired hjump]
  · rw [if_neg hmode, if_neg hmode]

theorem view_takeFirings : (takeFirings set ch s).view ch = (s.view ch).fired fires := by
  unfold takeFirings ChannelView.fired
  rw [gateFires_eq hset, firedJump_eq hset]
  have keep : ({ s.view ch with record := { (s.view ch).record with armed := (s.view ch).record.armed } } : ChannelView) =
      s.view ch := rfl
  cases hmode : (s.view ch).record.mode with
  | idle => simp
  | halted => simp
  | waiting =>
    cases hopen : (s.view ch).opens fires with
    | false => simp
    | true => simp [view_modChannel]
  | running =>
    cases hjump : (s.view ch).firedJump fires with
    | none => simp [jumpTo_of_none hjump, keep]
    | some j => cases ht : j.timing <;> simp [jumpTo_of_fired hjump, ht, view_modChannel, keep]

end

theorem view_tickFirings (levels : BitVec 8) (s : State) (ch : ChanId) :
    (tickFirings (tickOpening levels s)).view ch = (s.view ch).opened.fired (firesAt s levels) := by
  obtain ⟨u, hu, hview⟩ := own_step_eachChannel (channelWork_takeFirings (firedSet (tickOpening levels s))) ch
    (eachCond evaluate (tickOpening levels s))
  rw [tickFirings, hview, view_takeFirings (getLsbD_firedSet_tickOpening levels s), hu.view, view_eachCond_evaluate,
    view_tickOpening]

/-! ### Case by case -/

theorem opened_of_not_stopped (h : ¬ (v.record.mode = .running ∧ v.record.stop = some .immediate)) :
    v.opened = { v with pulse := false } := if_neg h

theorem opened_stopped (hmode : v.record.mode = .running) (hstop : v.record.stop = some .immediate) :
    v.opened = ({ v with pulse := false } : ChannelView).idled := if_pos ⟨hmode, hstop⟩

end Sys2Proof.Machine
end

-- ==== The codes handed over, and the state the advance begins in ====
section
/-! SUPPORT. The value of a channel's tick (R75 to R77), the code it hands over (R47, R79 to R85) and the played pattern
(R115), by views. -/

namespace Sys2Proof.Machine

open Sys2Proof

variable {s t u : State} {ch d : ChanId} {levels : BitVec 8} {v : ChannelView} {fires : CondId → Bool}

/-! ### The value -/

/-- The value of a tick reads of a channel neither its armed jump nor its pulse. -/
theorem tickValue_of_view {b : Bool} {x : Option SlotIx}
    (hview : u.view ch = { s.view ch with pulse := b, record := { (s.view ch).record with armed := x } })
    (hlength : segmentLength u = segmentLength s) : tickValue u ch = tickValue s ch := by
  have record : look u.channels ch = { look s.channels ch with armed := x } := congrArg ChannelView.record hview
  have prefetch : look u.prefetch ch = look s.prefetch ch := congrArg ChannelView.prefetch hview
  have current : currentEntry u ch = currentEntry s ch := congrArg ChannelView.current hview
  have index : ∀ c : Channel, phaseIndex { c with armed := x } = phaseIndex c := fun _ => rfl
  have fraction : ∀ c : Channel, phaseFraction { c with armed := x } = phaseFraction c := fun _ => rfl
  unfold tickValue
  rw [record, prefetch, current, hlength]
  simp only [index, fraction]

theorem tickValue_silent (h : (look s.channels ch).mode ≠ .running) : tickValue s ch = .silent := by
  unfold tickValue
  dsimp only
  split
  · next hm _ => exact absurd hm h
  · rfl

/-- After the opening of a tick and its firings (R52, R60, R63). -/
def ChannelView.ready (fires : CondId → Bool) (v : ChannelView) : ChannelView := v.opened.fired fires

theorem ready_of_idle (h : v.record.mode = .idle) : v.ready fires = { v with pulse := false } := by
  rw [ChannelView.ready, opened_of_not_stopped (by simp [h])]
  simp only [ChannelView.fired, h]

theorem ready_of_halted (h : v.record.mode = .halted) : v.ready fires = { v with pulse := false } := by
  rw [ChannelView.ready, opened_of_not_stopped (by simp [h])]
  simp only [ChannelView.fired, h]

/-- The gate does not fire. -/
theorem ready_closed (h : v.record.mode = .waiting) (hgate : v.opens fires = false) :
    v.ready fires = { v with pulse := false } := by
  have gate : ({ v with pulse := false } : ChannelView).opens fires = false := hgate
  rw [ChannelView.ready, opened_of_not_stopped (by simp [h])]
  simp only [ChannelView.fired, h, gate, Bool.false_eq_true, if_false]

/-- A gate's release (R60). -/
theorem ready_released (h : v.record.mode = .waiting) (hgate : v.opens fires = true) :
    v.ready fires = { v with pulse := false, record := { v.record with mode := .running, phase := 0 } } := by
  have gate : ({ v with pulse := false } : ChannelView).opens fires = true := hgate
  rw [ChannelView.ready, opened_of_not_stopped (by simp [h])]
  simp only [ChannelView.fired, h, gate, if_true]

/-- A stop IMMEDIATE carried out (R52). -/
theorem ready_stopped (h : v.record.mode = .running) (hstop : v.record.stop = some .immediate) :
    v.ready fires = ({ v with pulse := false } : ChannelView).idled := by
  rw [ChannelView.ready, opened_stopped h hstop]
  rfl

theorem ready_running (h : v.record.mode = .running) (hstop : v.record.stop ≠ some .immediate) :
    v.ready fires = { v with
      pulse := false
      record := { v.record with armed := (v.jumpTo .atPassEnd fires).or v.record.armed } } := by
  rw [ChannelView.ready, opened_of_not_stopped (by simp [hstop])]
  simp only [ChannelView.fired, h]
  rfl

/-- A channel is RUNNING in a tick when it was with no stop IMMEDIATE to carry out, or when its gate opens. -/
theorem ready_mode : (v.ready fires).record.mode = .running ↔
    (v.record.mode = .running ∧ v.record.stop ≠ some .immediate) ∨
      (v.record.mode = .waiting ∧ v.opens fires = true) := by
  cases hmode : v.record.mode with
  | idle => rw [ready_of_idle hmode]; simp [hmode]
  | halted => rw [ready_of_halted hmode]; simp [hmode]
  | waiting =>
    cases hgate : v.opens fires with
    | false => rw [ready_closed hmode hgate]; simp [hmode]
    | true => rw [ready_released hmode hgate]; simp
  | running =>
    by_cases hstop : v.record.stop = some .immediate
    · rw [ready_stopped hmode hstop]; simp [ChannelView.idled, idleRecord, hstop]
    · rw [ready_running hmode hstop]; simp [hmode, hstop]

theorem segmentLength_tickFirings (levels : BitVec 8) (s : State) :
    segmentLength (tickFirings (tickOpening levels s)) = segmentLength s := by
  have dir : (tickFirings (tickOpening levels s)).dir = s.dir := by
    rw [tickFirings, dir_eachChannel _ _ fun ch u => (onlyChannel_takeFirings _ ch u).dir,
      dir_eachCond _ _ fun k u => dir_of_play (play_evaluate k u), tickOpening,
      dir_eachChannel _ _ fun ch u => (onlyChannel_carryStop ch u).dir, dir_of_play (play_sampleInputs levels s)]
  exact segmentLength_of_dir dir

/-- The values the codes are formed from are those of the statements (R47, R52, R60). -/
theorem tickValue_tickFirings (levels : BitVec 8) (s : State) :
    tickValue (tickFirings (tickOpening levels s)) = played s levels := by
  funext ch
  have length := segmentLength_tickFirings levels s
  have view : (tickFirings (tickOpening levels s)).view ch = (s.view ch).ready (firesAt s levels) :=
    view_tickFirings levels s ch
  generalize tickFirings (tickOpening levels s) = u at length view
  have mode : (look u.channels ch).mode = ((s.view ch).ready (firesAt s levels)).record.mode :=
    congrArg (fun v : ChannelView => v.record.mode) view
  have running := ready_mode (v := s.view ch) (fires := firesAt s levels)
  rw [← mode] at running
  have opens : ((currentEntry s ch).bind Entry.gate).any (firesAt s levels) = (s.view ch).opens (firesAt s levels) := rfl
  have record : look s.channels ch = (s.view ch).record := rfl
  unfold played
  dsimp only
  rw [opens, record]
  by_cases hrun : (s.view ch).record.mode = .running ∧ (s.view ch).record.stop ≠ some .immediate
  · rw [if_pos hrun]
    rw [ready_running hrun.1 hrun.2] at view
    exact tickValue_of_view view length
  rw [if_neg hrun]
  by_cases hopen : (s.view ch).record.mode = .waiting ∧ (s.view ch).opens (firesAt s levels) = true
  · rw [if_pos hopen]
    rw [ready_released hopen.1 hopen.2] at view
    exact tickValue_of_view (x := (s.view ch).record.armed) (by rw [view, view_modChannel]) length
  · rw [if_neg hopen]
    exact tickValue_silent fun h => (running.mp h).elim hrun hopen

/-! ### The code -/

/-- The code of a WAITING channel, by its wait level (R81). -/
def ChannelView.waitCode (v : ChannelView) : Code :=
  if v.current.map Entry.waitLevel = some .park then v.record.park else v.record.last

/-- The sum's rounded value lies outside the code range (R79). -/
def clips (z : Int) : Bool := decide (clampCode (roundValue z) ≠ roundValue z)

/-- After a computed tick with the exact sum given (R79, R80, R84). -/
def ChannelView.computed (z : Int) (v : ChannelView) : ChannelView :=
  { v with
    record := { v.record with
      last := BitVec.ofInt 16 (clampCode (roundValue z))
      presented := v.record.path.getLastD 0#16
      path := BitVec.ofInt 16 (clampCode (roundValue z)) :: v.record.path.dropLast
      underrunEpisode := false
      clips := if clips z then min (v.record.clips + 1) 65535 else v.record.clips
      passClipped := v.record.passClipped || clips z
      clipEpisode := v.record.clipEpisode || clips z }
    flags := fun n k => v.flags n k || decide (k = 5) && (clips z && !v.record.clipEpisode) }

/-- After the channel has handed over its code: `value` is its tick's value, `sum` adds its sum source (R47, R81). -/
def ChannelView.handed (value : TickValue) (sum : Int → Int) (v : ChannelView) : ChannelView :=
  match v.record.mode, value with
  | .running, .computed own => v.computed (sum own)
  | .running, .underrun =>
    { v with
      record := underrunRecord (handCode v.record.last v.record)
      flags := fun n k => v.flags n k || decide (k = 4) && !v.record.underrunEpisode }
  | .running, .poison => { v with record := poisonRecord (handCode v.record.last v.record) }
  | .running, .silent => { v with record := handCode v.record.last v.record }
  | .waiting, _ => { v with record := handCode v.waitCode v.record }
  | _, _ => { v with record := handCode v.record.park v.record }

theorem view_handComputed (ch : ChanId) (z : Int) (s : State) :
    (handComputed ch z s).view ch = (s.view ch).computed z := by
  have record : look s.channels ch = (s.view ch).record := rfl
  unfold handComputed ChannelView.computed clips
  dsimp only
  rw [record]
  by_cases hz : clampCode (roundValue z) = roundValue z
  · rw [if_pos hz, view_modChannel]
    simp [hz, handCode]
  · rw [if_neg hz]
    cases hepisode : (s.view ch).record.clipEpisode with
    | true =>
      rw [if_pos rfl, view_modChannel, view_modChannel]
      simp [hz, handCode, clipRecord]
    | false =>
      rw [if_neg Bool.false_ne_true, view_raise (ch := ch) (k := 5) rfl, view_modChannel, view_modChannel]
      simp [hz, handCode, clipRecord, ChannelView.raised]

theorem view_handOver (values : ChanId → TickValue) (ch : ChanId) (s : State) :
    (handOver values ch s).view ch =
      (s.view ch).handed (values ch) fun own => tickSum values own (s.view ch).record.sumSource := by
  have record : look s.channels ch = (s.view ch).record := rfl
  unfold handOver ChannelView.handed
  dsimp only
  rw [record]
  cases hmode : (s.view ch).record.mode with
  | idle => exact view_modChannel ..
  | halted => exact view_modChannel ..
  | waiting =>
    dsimp only
    unfold ChannelView.waitCode
    rw [current_view]
    cases hlevel : (currentEntry s ch).map Entry.waitLevel with
    | none => exact view_modChannel ..
    | some level => cases level <;> exact view_modChannel ..
  | running =>
    cases values ch with
    | computed own => exact view_handComputed ..
    | poison => exact view_modChannel ..
    | silent => exact view_modChannel ..
    | underrun =>
      dsimp only
      cases hepisode : (s.view ch).record.underrunEpisode with
      | true =>
        rw [if_pos rfl, view_modChannel]
        simp
      | false =>
        rw [if_neg Bool.false_ne_true, view_raise (ch := ch) (k := 4) rfl, view_modChannel]
        simp [ChannelView.raised]

/-! ### The pattern, and the whole of it -/

/-- After the played pattern has been set (R115). -/
def ChannelView.shown (v : ChannelView) : ChannelView :=
  { v with pattern := if v.record.mode = .running then (v.current.map Entry.markers).getD v.pattern else v.pattern }

theorem view_showPattern (ch : ChanId) (s : State) : (showPattern ch s).view ch = (s.view ch).shown := by
  have record : look s.channels ch = (s.view ch).record := rfl
  unfold showPattern ChannelView.shown
  rw [record, current_view]
  by_cases hmode : (s.view ch).record.mode = .running
  · rw [if_pos hmode, if_pos hmode]
    cases currentEntry s ch with
    | none => rfl
    | some e => exact view_setPattern ..
  · rw [if_neg hmode, if_neg hmode]

/-- The state the markers are computed in (R112). -/
def tickShown (levels : BitVec 8) (s : State) : State :=
  eachChannel showPattern (eachChannel (handOver (tickValue (tickFirings (tickOpening levels s))))
    (tickFirings (tickOpening levels s)))

theorem tickHanded_eq (levels : BitVec 8) (s : State) :
    tickHanded levels s = eachPin (markerTick (firedSet (tickOpening levels s))) (tickShown levels s) := rfl

/-- The channel as the advance of a tick finds it. -/
def handedView (levels : BitVec 8) (s : State) (ch : ChanId) : ChannelView :=
  (((s.view ch).ready (firesAt s levels)).handed (played s levels ch) fun own =>
    tickSum (played s levels) own ((s.view ch).ready (firesAt s levels)).record.sumSource).shown

theorem view_tickShown (levels : BitVec 8) (s : State) (ch : ChanId) :
    (tickShown levels s).view ch = handedView levels s ch := by
  unfold tickShown
  obtain ⟨u, hu, hshown⟩ := own_step_eachChannel channelWork_showPattern ch
    (eachChannel (handOver (tickValue (tickFirings (tickOpening levels s)))) (tickFirings (tickOpening levels s)))
  obtain ⟨w, hw, hhanded⟩ := own_step_eachChannel
    (channelWork_handOver (tickValue (tickFirings (tickOpening levels s)))) ch (tickFirings (tickOpening levels s))
  rw [hshown, view_showPattern, hu.view, hhanded, view_handOver, hw.view, view_tickFirings, tickValue_tickFirings]
  rfl

theorem channelsWork_tickShown (levels : BitVec 8) (s : State) :
    ChannelsWork (eachCond evaluate (tickOpening levels s)) (tickShown levels s) :=
  ((channelsWork_eachChannel (channelWork_takeFirings _) _).trans
    (channelsWork_eachChannel (channelWork_handOver _) _)).trans (channelsWork_eachChannel channelWork_showPattern _)

end Sys2Proof.Machine
end

-- ==== The advance of a channel ====
section
/-! SUPPORT. The advance at the end of a tick by views: a step within the pass (R74, R133), a pass end with its decision
(R53 to R55), an IMMEDIATE jump (R62), and what every outcome has in common. -/

namespace Sys2Proof.Machine

open Sys2Proof

variable {s t u : State} {ch d : ChanId} {levels : BitVec 8} {v w : ChannelView} {fires : CondId → Bool} {p : Nat}
  {x : SlotIx} {jump : Option SlotIx} {jumps : ChanId → Option SlotIx}

/-! ### The pass end -/

/-- After a pass end has been counted, before its decision (R53, R94, R116). -/
def ChannelView.passed (p : Nat) (v : ChannelView) : ChannelView :=
  { v with
    record := passEndRecord v.current p v.record
    pulse := true
    toggles := fun i => (v.toggles i).map fun t => (t.1, !t.2) }

theorem togglesFor_invertToggle_own (ch : ChanId) (m : MarkerPin) :
    togglesFor ch (invertToggle ch m) = (togglesFor ch m).map fun t => (t.1, !t.2) := by
  unfold invertToggle
  split
  · next c initial hm =>
    split
    · next hc => simp [togglesFor, hm, hc]
    · next hc => simp [togglesFor, hm, hc]
  · next hm =>
    unfold togglesFor
    split
    · next c initial h => exact absurd h (hm c initial)
    · rfl

theorem view_passCounted (ch : ChanId) (p : Nat) (s : State) : (passCounted ch p s).view ch = (s.view ch).passed p := by
  have signalled : (passSignalled ch s).view ch = { s.view ch with
      pulse := true
      toggles := fun i => ((s.view ch).toggles i).map fun t => (t.1, !t.2) } := by
    rw [passSignalled, view_turnPins (togglesFor_invertToggle_own ch), view_emitPulse]
  rw [passCounted, view_modChannel, ← current_view, signalled]
  rfl

/-! ### The decision (R54) -/

theorem view_decision_stopped (h : (s.view ch).record.stop = some .atPassEnd) :
    (passEndDecision ch p jump s).view ch = (s.view ch).idled := by
  have stop : (look s.channels ch).stop = some .atPassEnd := h
  rw [← view_enterIdle]
  unfold passEndDecision
  dsimp only
  rw [if_pos stop]

theorem decision_jump (h : (s.view ch).record.stop ≠ some .atPassEnd) :
    passEndDecision ch p (some x) s = entryEnd ch p (some x) s := by
  have stop : ¬ (look s.channels ch).stop = some .atPassEnd := h
  unfold passEndDecision
  dsimp only
  rw [if_neg stop]
  rfl

theorem decision_ends (h : (s.view ch).record.stop ≠ some .atPassEnd)
    (hends : entryEndsHere (s.view ch).current (s.view ch).record = true) :
    passEndDecision ch p none s = entryEnd ch p (s.view ch).record.armed s := by
  have stop : ¬ (look s.channels ch).stop = some .atPassEnd := h
  have ends : entryEndsHere (currentEntry s ch) (look s.channels ch) = true := hends
  unfold passEndDecision
  dsimp only
  rw [if_neg stop, ends]
  rfl

theorem view_decision_goes_on (h : (s.view ch).record.stop ≠ some .atPassEnd)
    (hends : entryEndsHere (s.view ch).current (s.view ch).record = false) :
    (passEndDecision ch p none s).view ch = (s.view ch).moved := by
  have stop : ¬ (look s.channels ch).stop = some .atPassEnd := h
  have ends : entryEndsHere (currentEntry s ch) (look s.channels ch) = false := hends
  rw [← view_movePlay]
  unfold passEndDecision
  dsimp only
  rw [if_neg stop, ends]
  rfl

/-! ### The advance (R74) -/

/-- The length of the current entry's segment, in units of the phase, by the lengths of the segments. -/
def ChannelView.whole (len : SegId → Nat) (v : ChannelView) : Nat := lengthIn len v.current * 16777216

/-- The phase after one more step. -/
def ChannelView.reached (v : ChannelView) : Nat := v.record.phase + v.record.currentStep

/-- After a step within the pass: the phase advanced, the play position moved where the phase enters the next line. -/
def ChannelView.stepped (v : ChannelView) : ChannelView :=
  let step : ChannelView := { v with record := { v.record with phase := v.reached } }
  if phaseLine v.record.phase = phaseLine v.reached then step else step.moved

theorem view_advance_rest (h : (s.view ch).record.mode ≠ .running) : (advance jumps ch s).view ch = s.view ch := by
  have mode : ¬ (look s.channels ch).mode = .running := h
  unfold advance
  dsimp only
  rw [if_neg mode]

theorem whole_view (s : State) (ch : ChanId) :
    entryLength s (currentEntry s ch) * Config.oneSample = (s.view ch).whole (segmentLength s) := by
  rw [entryLength_eq]
  rfl

theorem advance_pass (hmode : (s.view ch).record.mode = .running)
    (hwhole : (s.view ch).whole (segmentLength s) ≤ (s.view ch).reached) :
    advance jumps ch s = passEndDecision ch ((s.view ch).reached - (s.view ch).whole (segmentLength s)) (jumps ch)
      (passCounted ch ((s.view ch).reached - (s.view ch).whole (segmentLength s)) s) := by
  have mode : (look s.channels ch).mode = .running := hmode
  have whole : (s.view ch).whole (segmentLength s) ≤
      (look s.channels ch).phase + (look s.channels ch).currentStep := hwhole
  unfold advance
  dsimp only
  rw [if_pos mode, whole_view, if_pos whole, passEnds_eq]
  rfl

/-- The state a tick without a pass end leaves before any jump of it. -/
theorem advance_step (hmode : (s.view ch).record.mode = .running)
    (hwhole : (s.view ch).reached < (s.view ch).whole (segmentLength s)) :
    ∃ u, u.view ch = (s.view ch).stepped ∧
      (jumps ch = none → advance jumps ch s = u) ∧
      ∀ x, jumps ch = some x → advance jumps ch s = entryEnd ch (s.view ch).reached (some x) u := by
  have mode : (look s.channels ch).mode = .running := hmode
  have whole : ¬ (s.view ch).whole (segmentLength s) ≤ (look s.channels ch).phase + (look s.channels ch).currentStep :=
    Nat.not_le.mpr hwhole
  have step : (s.modChannel ch fun c =>
      { c with phase := (look s.channels ch).phase + (look s.channels ch).currentStep }).view ch =
        { s.view ch with record := { (s.view ch).record with phase := (s.view ch).reached } } := view_modChannel ..
  refine ⟨if phaseLine (look s.channels ch).phase = phaseLine (s.view ch).reached
    then s.modChannel ch fun c => { c with phase := (look s.channels ch).phase + (look s.channels ch).currentStep }
    else movePlay ch (s.modChannel ch fun c =>
      { c with phase := (look s.channels ch).phase + (look s.channels ch).currentStep }), ?_, fun hjump => ?_,
    fun x hjump => ?_⟩
  · have line : (s.view ch).record.phase = (look s.channels ch).phase := rfl
    unfold ChannelView.stepped
    dsimp only
    rw [line]
    split
    · exact step
    · rw [view_movePlay, step]
  · unfold advance
    dsimp only
    rw [if_pos mode, whole_view, if_neg whole, hjump]
    rfl
  · unfold advance
    dsimp only
    rw [if_pos mode, whole_view, if_neg whole, hjump]
    rfl

/-! ### What every outcome has in common -/

/-- The outcome `w` of an advance that finds the channel RUNNING with the view `v`: what follows its mode, and what it
leaves (R37, R48, R58, R84, R115, R180). -/
structure Outcome (v w : ChannelView) : Prop where
  sound : w.record.last = v.record.last ∧ w.record.presented = v.record.presented ∧ w.record.path = v.record.path ∧
    w.record.clips = v.record.clips ∧ w.record.underruns = v.record.underruns ∧
    w.record.substitutions = v.record.substitutions ∧ w.record.clipEpisode = v.record.clipEpisode
  passClipped : v.record.passClipped = false → w.record.passClipped = false
  underrun : w.record.underrunEpisode = (v.record.underrunEpisode && decide (w.record.mode = .running))
  updates : v.record.pendingScale = none → v.record.pendingRate = none →
    w.record.scale = v.record.scale ∧ w.record.pendingScale = none ∧ w.record.defaultStep = v.record.defaultStep ∧
      w.record.pendingRate = none
  tables : w.tables = v.tables ∨ w.tables = swapped v.tables
  pattern : w.pattern = if w.record.mode = .idle then 0#4 else v.pattern
  flags : ∀ n k, w.flags n k = (v.flags n k || decide (k = 1) && decide (w.record.mode = .idle) ||
    decide (k = 2) && decide (w.record.mode = .waiting) || decide (k = 3) && decide (w.tables ≠ v.tables))
  pulse : w.pulse = v.pulse
  toggles : w.toggles = v.toggles

theorem swapped_ne (b : Tables) : swapped b ≠ b := by
  intro h
  have swaps : b.swaps + 1#16 = b.swaps := congrArg Tables.swaps h
  simp at swaps

namespace Outcome

theorem stays (h : v.record.mode = .running) : Outcome v v where
  sound := ⟨rfl, rfl, rfl, rfl, rfl, rfl, rfl⟩
  passClipped := id
  underrun := by simp [h]
  updates := fun hs hr => ⟨rfl, hs, rfl, hr⟩
  tables := .inl rfl
  pattern := by simp [h]
  flags := by simp [h]
  pulse := rfl
  toggles := rfl

/-- The prefetcher's record is no part of it. -/
theorem prefetch (q : Prefetch) (h : Outcome v w) : Outcome v { w with prefetch := q } := { h with }

theorem of_prefetch {q : Prefetch} (h : Outcome { v with prefetch := q } w) : Outcome v w := { h with }

theorem moved (h : Outcome v.moved w) : Outcome v w := of_prefetch h

/-- Entry into IDLE (R58). -/
theorem idled (v : ChannelView) : Outcome v v.idled where
  sound := by rw [ChannelView.idled, idleRecord_eq]; exact ⟨rfl, rfl, rfl, rfl, rfl, rfl, rfl⟩
  passClipped := fun h => by rw [ChannelView.idled, idleRecord_eq]; exact h
  underrun := by rw [ChannelView.idled, idleRecord_eq]; simp
  updates := fun hs hr => by
    rw [ChannelView.idled, idleRecord_eq, hs, hr]
    exact ⟨rfl, rfl, rfl, rfl⟩
  tables := by
    unfold ChannelView.idled
    dsimp only
    split
    · exact .inr rfl
    · exact .inl rfl
  pattern := by rw [ChannelView.idled, idleRecord_eq]; simp
  flags := fun n k => by
    rw [ChannelView.idled, idleRecord_eq]
    cases hc : v.record.commit <;> simp [swapped_ne, Bool.or_right_comm]
  pulse := rfl
  toggles := rfl

theorem of_begin {e : Option Entry} (h : Outcome { v with record := beginRecord e x p v.record } w) : Outcome v w :=
  { h with passClipped := fun _ => h.passClipped rfl }

/-- The beginning of an entry (R48). -/
theorem begun (x : SlotIx) (p : Nat) (v : ChannelView) : Outcome v (v.begun x p) := by
  unfold ChannelView.begun
  dsimp only
  split
  · exact of_begin (e := v.entryAt x) (x := x) (p := p)
      { sound := ⟨rfl, rfl, rfl, rfl, rfl, rfl, rfl⟩
        passClipped := id
        underrun := by simp
        updates := fun hs hr => ⟨rfl, hs, rfl, hr⟩
        tables := .inl rfl
        pattern := by simp
        flags := by simp
        pulse := rfl
        toggles := rfl }
  · split
    · exact of_begin (idled _)
    · exact of_begin (e := v.entryAt x) (x := x) (p := p)
        { sound := ⟨rfl, rfl, rfl, rfl, rfl, rfl, rfl⟩
          passClipped := id
          underrun := by simp [ChannelView.raised]
          updates := fun hs hr => ⟨rfl, hs, rfl, hr⟩
          tables := .inl rfl
          pattern := by simp [ChannelView.raised]
          flags := by simp [ChannelView.raised]
          pulse := rfl
          toggles := rfl }

/-- The outcome that follows a swap leaves the banks as swapped (R37). -/
theorem swap (h : Outcome v.swappedBanks w) (htables : w.tables = swapped v.tables) : Outcome v w :=
  { h with
    tables := .inr htables
    flags := fun n k => by
      have before : v.swappedBanks.flags n k = (v.flags n k || decide (k = 3)) := rfl
      have banks : v.swappedBanks.tables = swapped v.tables := rfl
      rw [h.flags, before, banks, htables]
      simp [swapped_ne, Bool.or_right_comm] }

end Outcome

/-- With no commit pending no beginning swaps the banks. -/
theorem begun_tables (h : v.record.commit = none) : (v.begun x p).tables = v.tables := by
  have pending : (beginRecord (v.entryAt x) x p v.record).commit = none := h
  unfold ChannelView.begun
  dsimp only
  split
  · rfl
  · split
    · unfold ChannelView.idled
      dsimp only
      rw [pending]
      rfl
    · rfl

theorem Outcome.committed (x : SlotIx) (v : ChannelView) : Outcome v ((v.swappedBanks.begun x 0).flushed) :=
  (((Outcome.begun x 0 v.swappedBanks).swap (begun_tables rfl))).prefetch _

theorem Outcome.turned (x : SlotIx) (v : ChannelView) : Outcome v ((v.begun x 0).flushed) :=
  (Outcome.begun x 0 v).prefetch _

theorem Outcome.advanced (x : SlotIx) (p : Nat) (v : ChannelView) : Outcome v (v.moved.begun x p) :=
  (Outcome.begun x p v.moved).moved

theorem outcome_tableEnd (ch : ChanId) (p : Nat) (s : State) : Outcome (s.view ch) ((tableEnd ch p s).view ch) := by
  unfold tableEnd
  split
  · rw [view_takeCommit]
    exact .committed _ _
  · split
    · rw [view_advanceTo]
      exact .advanced _ _ _
    · rw [view_enterIdle]
      exact .idled _

theorem outcome_entryEnd (ch : ChanId) (p : Nat) (jump : Option SlotIx) (s : State) :
    Outcome (s.view ch) ((entryEnd ch p jump s).view ch) := by
  unfold entryEnd
  dsimp only
  split
  · rw [view_enterIdle]
    exact .idled _
  · split
    · rw [view_takeCommit]
      exact .committed _ _
    · split
      · rw [view_turnTo]
        exact .turned _ _
      · split
        · rw [view_advanceTo]
          exact .advanced _ _ _
        · exact outcome_tableEnd ch p s

theorem outcome_passEndDecision (ch : ChanId) (p : Nat) (jump : Option SlotIx)
    (hmode : (s.view ch).record.mode = .running) : Outcome (s.view ch) ((passEndDecision ch p jump s).view ch) := by
  unfold passEndDecision
  dsimp only
  split
  · rw [view_enterIdle]
    exact .idled _
  · split
    · exact outcome_entryEnd ch p jump s
    · split
      · exact outcome_entryEnd ch p _ s
      · rw [view_movePlay]
        exact (Outcome.stays (v := (s.view ch).moved) hmode).moved

/-- The outcome of a tick that ends a pass, from the pass counted. -/
theorem outcome_advance_pass (hmode : (s.view ch).record.mode = .running)
    (hwhole : (s.view ch).whole (segmentLength s) ≤ (s.view ch).reached) :
    Outcome ((s.view ch).passed ((s.view ch).reached - (s.view ch).whole (segmentLength s)))
      ((advance jumps ch s).view ch) := by
  have running : ((passCounted ch ((s.view ch).reached - (s.view ch).whole (segmentLength s)) s).view ch).record.mode =
      .running := by
    rw [view_passCounted]
    exact (passEndRecord_seat _ _ _).1.trans hmode
  rw [advance_pass hmode hwhole, ← view_passCounted]
  exact outcome_passEndDecision ch _ _ running

theorem stepped_mode (v : ChannelView) : v.stepped.record.mode = v.record.mode := by
  unfold ChannelView.stepped
  dsimp only
  split <;> rfl

/-- The outcome of a tick within the pass, from the step done. -/
theorem outcome_advance_step (hmode : (s.view ch).record.mode = .running)
    (hwhole : (s.view ch).reached < (s.view ch).whole (segmentLength s)) :
    Outcome (s.view ch).stepped ((advance jumps ch s).view ch) := by
  obtain ⟨u, hu, hnone, hsome⟩ := advance_step (jumps := jumps) hmode hwhole
  rw [← hu]
  cases hjump : jumps ch with
  | none =>
    rw [hnone hjump]
    exact .stays (by rw [hu, stepped_mode, hmode])
  | some x =>
    rw [hsome x hjump]
    exact outcome_entryEnd ch _ _ u

/-! ### The markers, and the first request after the advance -/

theorem markerLevel_of_pins {set : BitVec 4} (h : u = { s with pins := u.pins }) (m : MarkerPin) :
    markerLevel u set m = markerLevel s set m := by
  rw [h]
  rfl

/-- Every pin has its part of the tick (R112). -/
theorem markerTick_eq (set : BitVec 4) (s : State) : eachPin (markerTick set) s = { s with
    pins := Vector.ofFn fun i => markerRecord (markerLevel s set (look s.pins i)) set (look s.pins i) } := by
  refine eachPin_eq fun i u hu hpin => ?_
  rw [← hpin, ← markerLevel_of_pins hu]
  rfl

theorem view_markerTick (set : BitVec 4) (s : State) (ch : ChanId) :
    (eachPin (markerTick set) s).view ch = s.view ch := by
  rw [markerTick_eq]
  ext : 1
  case toggles =>
    funext i
    simp only [State.view, look_ofFn]
    rfl
  all_goals rfl

theorem view_tickHanded (levels : BitVec 8) (s : State) (ch : ChanId) :
    (tickHanded levels s).view ch = handedView levels s ch := by
  rw [← view_tickShown, tickHanded_eq, view_markerTick]

/-- What the end of a tick leaves of the channel: its prefetcher may have asked for a line (R131). -/
theorem view_tick (levels : BitVec 8) (s : State) (ch : ChanId) :
    ∃ u, u.view ch = handedView levels s ch ∧ segmentLength u = segmentLength s ∧
      ∃ w, w.view ch = (advance (immediateJump (tickOpening levels s) (firedSet (tickOpening levels s))) ch u).view ch ∧
        (tick levels s).view ch = (presentPrefetch ch w).view ch := by
  rw [tick_eq]
  obtain ⟨w, hw, hpresent⟩ := own_step_eachChannel channelWork_presentPrefetch ch
    (eachChannel (advance (immediateJump (tickOpening levels s) (firedSet (tickOpening levels s)))) (tickHanded levels s))
  obtain ⟨u, hu, hadvance⟩ := own_step_eachChannel
    (channelWork_advance (immediateJump (tickOpening levels s) (firedSet (tickOpening levels s)))) ch (tickHanded levels s)
  refine ⟨u, ?_, ?_, w, hw.view.trans hadvance, hpresent⟩
  · rw [hu.view, view_tickHanded]
  · rw [segmentLength_of_bare hu.bare]
    exact segmentLength_of_dir (tickHanded_dir levels s)

end Sys2Proof.Machine
end

-- ==== The frame of a tick ====
section
/-! SUPPORT. What an output tick leaves of everything that is no channel's: the state's other fields, the links but for
their flags, the trigger unit, and the pins. -/

namespace Sys2Proof.Machine

open Sys2Proof

variable {s t u : State} {ch d : ChanId} {levels : BitVec 8} {v w : ChannelView} {fires : CondId → Bool} {k : CondId}

/-! ### The frame -/

/-- The state with the units of another that a tick may change. -/
def State.ticked (s u : State) : State :=
  { s with tables := u.tables, channels := u.channels, prefetch := u.prefetch, trigger := u.trigger, pins := u.pins,
           patterns := u.patterns, links := u.links, arbiter := { s.arbiter with port := u.arbiter.port } }

/-- From `s` to `t` only what a tick may change has changed. -/
structure TickFrame (s t : State) : Prop where
  state : t = s.ticked t
  addr : t.arbiter.port.map Transfer.addr = s.arbiter.port.map Transfer.addr
  links : ∀ n, look t.links n = { look s.links n with flags := (look t.links n).flags }
  grow : FlagsGrow s t

namespace TickFrame

theorem trans (h : TickFrame s t) (g : TickFrame t u) : TickFrame s u where
  state := g.state.trans (by rw [h.state]; rfl)
  addr := g.addr.trans h.addr
  links n := (g.links n).trans (by rw [h.links n])
  grow n p hp := g.grow n p (h.grow n p hp)

theorem of_channels (h : ChannelsWork s t) : TickFrame s t where
  state := (eq_of_bare h.bare).trans (by rw [State.ticked, trigger_of_bare h.bare])
  addr := h.addr
  links n := (look_links_of_bare h.bare n).1
  grow := h.grow

theorem evaluate (k : CondId) (s : State) : TickFrame s (evaluate k s) where
  state := by
    unfold Machine.evaluate
    dsimp only
    split <;> rfl
  addr := by
    unfold Machine.evaluate
    dsimp only
    split <;> rfl
  links n := by
    unfold Machine.evaluate
    dsimp only
    split
    · rw [State.raise_links_look]
      rfl
    · rfl
  grow n p hp := by
    unfold Machine.evaluate
    dsimp only
    split
    · simp [hp]
    · exact hp

theorem markers (set : BitVec 4) (s : State) : TickFrame s (eachPin (markerTick set) s) := by
  rw [markerTick_eq]
  exact ⟨rfl, rfl, fun _ => rfl, fun _ _ h => h⟩

theorem eachCond (s : State) : TickFrame s (eachCond Machine.evaluate s) :=
  (((TickFrame.evaluate 0 s).trans (.evaluate 1 _)).trans (.evaluate 2 _)).trans (.evaluate 3 _)

end TickFrame

/-- The whole tick from the pins sampled. -/
theorem tickFrame_tick (levels : BitVec 8) (s : State) : TickFrame (sampleInputs levels s) (tick levels s) := by
  have shown : TickFrame (sampleInputs levels s) (tickShown levels s) :=
    ((TickFrame.of_channels (channelsWork_tickOpening levels s)).trans (.eachCond _)).trans
      (.of_channels (channelsWork_tickShown levels s))
  have handed : TickFrame (sampleInputs levels s) (tickHanded levels s) := by
    rw [tickHanded_eq]
    exact shown.trans (.markers _ _)
  rw [tick_eq]
  exact handed.trans (.of_channels ((channelsWork_eachChannel (channelWork_advance _) _).trans
    (channelsWork_eachChannel channelWork_presentPrefetch _)))

/-- What the tick does after the markers is channels' work. -/
theorem bare_tick (levels : BitVec 8) (s : State) : (tick levels s).bare = (tickHanded levels s).bare := by
  rw [tick_eq]
  exact ((channelsWork_eachChannel (channelWork_advance _) _).trans
    (channelsWork_eachChannel channelWork_presentPrefetch _)).bare

/-! ### The trigger unit -/

/-- The trigger unit after a tick, the pulses of its pass ends aside (R93, R94, R97 to R100). -/
theorem trigger_tick (levels : BitVec 8) (s : State) : (tick levels s).trigger =
    { (eachCond evaluate (tickOpening levels s)).trigger with pulses := (tick levels s).trigger.pulses } := by
  have handed : (tickHanded levels s).trigger = (tickShown levels s).trigger := by rw [tickHanded_eq, markerTick_eq]
  have shown := trigger_of_bare (channelsWork_tickShown levels s).bare
  rw [trigger_of_bare (bare_tick levels s), handed, shown]

theorem trigger_eachCond (s : State) : (eachCond evaluate s).trigger =
    { s.trigger with conds := (eachCond evaluate s).trigger.conds } := by
  simp only [eachCond, evaluate_trigger]

theorem trigger_tickOpening (levels : BitVec 8) (s : State) : (tickOpening levels s).trigger =
    { (sampleInputs levels s).trigger with pulses := (tickOpening levels s).trigger.pulses } :=
  trigger_of_bare (channelsWork_tickOpening levels s).bare

/-- A condition after a tick is the one evaluated over the sources seen at it (R97). -/
theorem look_conds_tick (levels : BitVec 8) (s : State) (k : CondId) : look (tick levels s).trigger.conds k =
    evaluated (look s.trigger.conds k) (sampleInputs levels s).trigger.seen := by
  rw [trigger_tick, look_conds_eachCond, trigger_tickOpening]
  rfl

theorem delay_tick (levels : BitVec 8) (s : State) :
    (tick levels s).trigger.delay = levels :: s.trigger.delay.dropLast := by
  rw [trigger_tick, trigger_eachCond, trigger_tickOpening]
  rfl

theorem seen_tick (levels : BitVec 8) (s : State) :
    (tick levels s).trigger.seen = s.trigger.pulses ++ s.trigger.delay.getLastD 0#8 := by
  rw [trigger_tick, trigger_eachCond, trigger_tickOpening]
  rfl

/-- FIREDk (position 28 + k) is set at a firing, and stays otherwise (R100). -/
theorem fired_evaluate (j k : CondId) (s : State) (n : LinkId) :
    (look (evaluate j s).links n).flags.getLsbD (28 + k.val) =
      ((look s.links n).flags.getLsbD (28 + k.val) ||
        (decide (j = k) && firesNow (look s.trigger.conds j) s.trigger.seen)) := by
  have position : decide (flagPos (.fired j) = 28 + k.val) = decide (j = k) := by
    simp [flagPos, Fin.ext_iff]
  unfold evaluate
  dsimp only
  split
  · next h =>
    rw [State.raise_flags, BitVec.getLsbD_or, getLsbD_flagBit, position, h]
    simp
  · next h => simp [h]

theorem fired_tick (levels : BitVec 8) (s : State) (k : CondId) (n : LinkId) (h : firesAt s levels k = true) :
    (look (tick levels s).links n).flags.getLsbD (28 + k.val) = true := by
  have fires : firesNow (look (tickOpening levels s).trigger.conds k) (tickOpening levels s).trigger.seen = true := by
    rw [← getLsbD_firedSet, getLsbD_firedSet_tickOpening, h]
  have evaluated : (look (eachCond evaluate (tickOpening levels s)).links n).flags.getLsbD (28 + k.val) = true := by
    simp only [eachCond, fired_evaluate, look_conds_evaluate, seen_evaluate]
    fin_cases k <;> simp_all
  have handed : (tickHanded levels s).links = (tickShown levels s).links := by rw [tickHanded_eq, markerTick_eq]
  have later := (look_links_of_bare (bare_tick levels s) n).2 (28 + k.val) (by omega)
  have shown := (look_links_of_bare (channelsWork_tickShown levels s).bare n).2 (28 + k.val) (by omega)
  rw [later, handed, shown, evaluated]

/-! ### The pins -/

theorem ready_toggles (v : ChannelView) (fires : CondId → Bool) :
    (v.ready fires).toggles = v.toggles ∧ (v.ready fires).pulse = false := by
  cases hmode : v.record.mode with
  | idle => rw [ready_of_idle hmode]; exact ⟨rfl, rfl⟩
  | halted => rw [ready_of_halted hmode]; exact ⟨rfl, rfl⟩
  | waiting =>
    cases hgate : v.opens fires with
    | false => rw [ready_closed hmode hgate]; exact ⟨rfl, rfl⟩
    | true => rw [ready_released hmode hgate]; exact ⟨rfl, rfl⟩
  | running =>
    by_cases hstop : v.record.stop = some .immediate
    · rw [ready_stopped hmode hstop]; exact ⟨rfl, rfl⟩
    · rw [ready_running hmode hstop]; exact ⟨rfl, rfl⟩

theorem handed_toggles (value : TickValue) (sum : Int → Int) (v : ChannelView) :
    (v.handed value sum).toggles = v.toggles := by
  unfold ChannelView.handed
  split <;> rfl

/-- The pins are untouched up to the markers. -/
theorem pins_tickShown (levels : BitVec 8) (s : State) : (tickShown levels s).pins = s.pins := by
  have evaluated : ∀ u : State, (eachCond evaluate u).pins = u.pins := fun u => by
    have one : ∀ (k : CondId) (u : State), (evaluate k u).pins = u.pins := fun k u => by
      unfold evaluate
      dsimp only
      split <;> rfl
    simp only [eachCond, one]
  have opened : (tickOpening levels s).pins = (sampleInputs levels s).pins :=
    pins_of_views (channelsWork_tickOpening levels s).bare fun d => by
      rw [view_tickOpening, view_sampleInputs]
      unfold ChannelView.opened
      split <;> rfl
  have shown : (tickShown levels s).pins = (eachCond evaluate (tickOpening levels s)).pins :=
    pins_of_views (channelsWork_tickShown levels s).bare fun d => by
      rw [view_tickShown, view_eachCond_evaluate, view_tickOpening]
      have ready : (s.view d).opened.toggles = (s.view d).toggles := by
        unfold ChannelView.opened
        split <;> rfl
      rw [ready]
      exact (handed_toggles _ _ _).trans (ready_toggles _ _).1
  rw [shown, evaluated, opened]
  rfl

/-- A pin after a tick, its toggle state aside (R112, R118). -/
theorem bare_pin_tick (levels : BitVec 8) (s : State) (i : PinId) : (look (tick levels s).pins i).bare =
    (markerRecord (markerLevel (tickShown levels s) (firedSet (tickOpening levels s)) (look s.pins i))
      (firedSet (tickOpening levels s)) (look s.pins i)).bare := by
  rw [look_pins_of_bare (bare_tick levels s), tickHanded_eq, markerTick_eq]
  dsimp only
  rw [look_ofFn, pins_tickShown]

/-- The fields of a pin that its toggle state is not. -/
theorem fields_of_bare {m k : MarkerPin} (h : k.bare = m.bare) : k.source = m.source ∧ k.pulse = m.pulse ∧
    k.path = m.path ∧ k.presented = m.presented ∧ k.computed = m.computed := by
  have fields : ∀ l : MarkerPin, l.bare.source = l.source ∧ l.bare.pulse = l.pulse ∧ l.bare.path = l.path ∧
      l.bare.presented = l.presented ∧ l.bare.computed = l.computed := fun l => by
    unfold MarkerPin.bare
    split <;> exact ⟨rfl, rfl, rfl, rfl, rfl⟩
  obtain ⟨source, pulse, path, presented, computed⟩ := fields k
  rw [h] at source pulse path presented computed
  obtain ⟨source', pulse', path', presented', computed'⟩ := fields m
  exact ⟨source.symm.trans source', pulse.symm.trans pulse', path.symm.trans path', presented.symm.trans presented',
    computed.symm.trans computed'⟩

theorem pulseNow_tick (levels : BitVec 8) (s : State) {m : MarkerPin} {k : CondId} {width : Nat}
    (h : m.source = .firePulse k width) :
    pulseNow (firedSet (tickOpening levels s)) m = if firesAt s levels k then width else m.pulse := by
  simp only [pulseNow, h, getLsbD_firedSet_tickOpening]

/-- A FIRE_PULSE pin at a tick (R118). -/
theorem firePulse_tick (levels : BitVec 8) (s : State) {i : PinId} {k : CondId} {width : Nat}
    (h : (look s.pins i).source = .firePulse k width) :
    (look (tick levels s).pins i).computed =
        decide (0 < if firesAt s levels k then width else (look s.pins i).pulse) ∧
      (look (tick levels s).pins i).pulse = (if firesAt s levels k then width else (look s.pins i).pulse) - 1 := by
  obtain ⟨-, pulse, -, -, computed⟩ := fields_of_bare (bare_pin_tick levels s i)
  refine ⟨computed.trans ?_, pulse.trans ?_⟩
  · simp only [markerRecord, markerLevel, h, pulseNow_tick levels s h]
  · simp only [markerRecord, h, pulseNow_tick levels s h]

/-! ### The events within a tick -/

theorem firesNow_enabled {c : Condition} {seen : BitVec 12} (h : firesNow c seen = true) : c.enabled = true := by
  cases he : c.enabled with
  | true => rfl
  | false => simp [firesNow, naturalFiring, countsNow, softwareFiring, he] at h

/-- A condition's record after a firing (R100). -/
theorem evaluated_fires {c : Condition} {seen : BitVec 12} (h : firesNow c seen = true) :
    (evaluated c seen).firings = c.firings + 1#32 ∧ (evaluated c seen).holdoffLeft = c.holdoff := by
  rw [evaluated, if_pos (firesNow_enabled h), h]
  exact ⟨rfl, rfl⟩

/-- With no firing the holdoff runs down (R98). -/
theorem evaluated_rests {c : Condition} {seen : BitVec 12} (h : firesNow c seen = false) :
    (evaluated c seen).firings = c.firings ∧ (evaluated c seen).holdoffLeft = c.holdoffLeft - 1 := by
  rw [evaluated, h]
  split <;> exact ⟨rfl, rfl⟩

/-- Settles O45: each event row is the tick or nothing, and the tick's own effect is its condition's or its pin's. -/
theorem eventsWithinTheTick : Obligations.EventsWithinTheTick := by
  unfold Obligations.EventsWithinTheTick
  intro levels s
  refine ⟨tick levels s, rfl, fun k => ?_, fun ch => rfl, fun i => ⟨fun k width hpin => ?_, fun hpin => ?_⟩⟩
  · dsimp only
    have cond := look_conds_tick levels s k
    rw [cond]
    have firing : exec (.conditionFiring k levels) s = .next (if firesAt s levels k then tick levels s else s) := rfl
    have holdoff : exec (.holdoffExpiry k levels) s = .next (if holdoffEnds s levels k then tick levels s else s) := rfl
    refine ⟨fun h => ?_, fun h => ?_, fun h hleft => ?_, fun h => ?_⟩
    · obtain ⟨firings, left⟩ := evaluated_fires h
      rw [firing, if_pos h]
      exact ⟨rfl, firings, left, fun n => fired_tick levels s k n h⟩
    · rw [firing, h, if_neg Bool.false_ne_true]
      exact ⟨rfl, (evaluated_rests h).1⟩
    · have ends : holdoffEnds s levels k = true := by simp [holdoffEnds, h, hleft]
      rw [holdoff, ends, if_pos rfl]
      exact ⟨rfl, (evaluated_rests h).2.trans (by rw [hleft])⟩
    · have stays : holdoffEnds s levels k = false := by
        obtain h | h := h <;> simp [holdoffEnds, h]
      rw [holdoff, stays, if_neg Bool.false_ne_true]
  · obtain ⟨computed, pulse⟩ := firePulse_tick levels s hpin
    have row : exec (.markerPulseEnd i levels) s = .next (if pulseEnds s levels i then tick levels s else s) := rfl
    have ends : pulseEnds s levels i = ((if firesAt s levels k then width else (look s.pins i).pulse) == 1) := by
      rw [pulseEnds, hpin]
    refine ⟨fun hp => ?_, fun hp => ?_⟩
    · rw [row, ends, computed, pulse, hp, if_pos (beq_self_eq_true 1)]
      exact ⟨rfl, rfl, rfl⟩
    · rw [row, ends, beq_false_of_ne hp, if_neg Bool.false_ne_true]
  · have row : exec (.markerPulseEnd i levels) s = .next (if pulseEnds s levels i then tick levels s else s) := rfl
    have stays : pulseEnds s levels i = false := by
      unfold pulseEnds
      split
      · next k width h => exact absurd h (hpin k width)
      · rfl
    rw [row, stays, if_neg Bool.false_ne_true]

end Sys2Proof.Machine
end

-- ==== A channel's tick as a whole ====
section
/-! SUPPORT. What a tick leaves of a channel by what it was in the tick: not RUNNING, at a pass end, or within the pass; and
with it the paths of the tick (R47, R112) and the levels of the markers (R114 to R118). -/

namespace Sys2Proof.Machine

open Sys2Proof

variable {s t u : State} {ch d : ChanId} {levels : BitVec 8} {v w : ChannelView} {fires : CondId → Bool} {k : CondId}

/-! ### Up to the codes -/

/-- A channel RUNNING in the tick, at this phase and with this jump armed, its pulse not yet emitted. -/
abbrev ChannelView.playing (phase : Nat) (armed : Option SlotIx) (v : ChannelView) : ChannelView :=
  { v with pulse := false, record := { v.record with mode := .running, phase := phase, armed := armed } }

/-- A channel that stays RUNNING (R63). -/
theorem ready_playing (hmode : v.record.mode = .running) (hstop : v.record.stop ≠ some .immediate) :
    v.ready fires = v.playing v.record.phase ((v.jumpTo .atPassEnd fires).or v.record.armed) := by
  rw [ready_running hmode hstop, ChannelView.playing, ← hmode]

/-- What the firings can leave: nothing done, a stop IMMEDIATE carried out, or a channel RUNNING in the tick. -/
theorem ready_cases (v : ChannelView) (fires : CondId → Bool) :
    (v.ready fires = { v with pulse := false } ∧ v.record.mode ≠ .running) ∨
    (v.ready fires = ({ v with pulse := false } : ChannelView).idled ∧ v.record.mode = .running) ∨
    ∃ phase armed, v.ready fires = v.playing phase armed := by
  cases hmode : v.record.mode with
  | idle => exact .inl ⟨ready_of_idle hmode, by decide⟩
  | halted => exact .inl ⟨ready_of_halted hmode, by decide⟩
  | waiting =>
    cases hgate : v.opens fires with
    | false => exact .inl ⟨ready_closed hmode hgate, by decide⟩
    | true => exact .inr (.inr ⟨_, _, ready_released hmode hgate⟩)
  | running =>
    by_cases hstop : v.record.stop = some .immediate
    · exact .inr (.inl ⟨ready_stopped hmode hstop, rfl⟩)
    · exact .inr (.inr ⟨_, _, ready_playing hmode hstop⟩)

/-- From `r` to `h` a channel has handed over its code: its sound and the flags of its episodes aside, nothing of it has
changed (R47, R81). -/
structure Handed (r h : ChannelView) : Prop where
  record : h.record = { r.record with
    last := h.record.last, presented := h.record.presented, path := h.record.path,
    clipEpisode := h.record.clipEpisode, passClipped := h.record.passClipped,
    underrunEpisode := h.record.underrunEpisode, clips := h.record.clips, underruns := h.record.underruns,
    substitutions := h.record.substitutions }
  presented : h.record.presented = r.record.path.getLastD 0#16
  path : h.record.path = h.record.last :: r.record.path.dropLast
  tables : h.tables = r.tables
  prefetch : h.prefetch = r.prefetch
  flags : ∀ n k, k ≠ 4 → k ≠ 5 → h.flags n k = r.flags n k
  pulse : h.pulse = r.pulse
  toggles : h.toggles = r.toggles

theorem handed_keeps (value : TickValue) (sum : Int → Int) (v : ChannelView) : Handed v (v.handed value sum) := by
  unfold ChannelView.handed
  split
  · exact ⟨rfl, rfl, rfl, rfl, rfl, fun n k _ h5 => by simp [ChannelView.computed, h5], rfl, rfl⟩
  · exact ⟨rfl, rfl, rfl, rfl, rfl, fun n k h4 _ => by simp [h4], rfl, rfl⟩
  · exact ⟨rfl, rfl, rfl, rfl, rfl, fun _ _ _ _ => rfl, rfl, rfl⟩
  · exact ⟨rfl, rfl, rfl, rfl, rfl, fun _ _ _ _ => rfl, rfl, rfl⟩
  · exact ⟨rfl, rfl, rfl, rfl, rfl, fun _ _ _ _ => rfl, rfl, rfl⟩
  · exact ⟨rfl, rfl, rfl, rfl, rfl, fun _ _ _ _ => rfl, rfl, rfl⟩

theorem handed_of_view (levels : BitVec 8) (s : State) (ch : ChanId) :
    Handed ((s.view ch).ready (firesAt s levels)) (handedView levels s ch) :=
  { handed_keeps (played s levels ch) (fun own => tickSum (played s levels) own
      ((s.view ch).ready (firesAt s levels)).record.sumSource) ((s.view ch).ready (firesAt s levels)) with }

namespace Handed

variable {r h : ChannelView}

theorem mode (hh : Handed r h) : h.record.mode = r.record.mode := by rw [hh.record]
theorem entry (hh : Handed r h) : h.record.entry = r.record.entry := by rw [hh.record]

theorem entryAt (hh : Handed r h) (x : SlotIx) : h.entryAt x = r.entryAt x := by
  rw [ChannelView.entryAt, hh.tables]
  rfl

theorem current (hh : Handed r h) : h.current = r.current := by
  rw [ChannelView.current, hh.entry, hh.entryAt]
  rfl

end Handed

/-- The played pattern a tick's markers see (R115). -/
theorem handedView_pattern (levels : BitVec 8) (s : State) (ch : ChanId) :
    (handedView levels s ch).pattern = if (handedView levels s ch).record.mode = .running
      then ((handedView levels s ch).current.map Entry.markers).getD ((s.view ch).ready (firesAt s levels)).pattern
      else ((s.view ch).ready (firesAt s levels)).pattern := by
  have pattern : ∀ (value : TickValue) (sum : Int → Int) (v : ChannelView), (v.handed value sum).pattern = v.pattern :=
    fun value sum v => by
      unfold ChannelView.handed
      split <;> rfl
  unfold handedView ChannelView.shown
  rw [pattern]
  rfl

/-! ### The advance -/

/-- A prefetcher of a channel that plays nothing asks for nothing (R131). -/
theorem presentPrefetch_rest (h : (look s.channels ch).mode = .idle ∨ (look s.channels ch).mode = .halted) :
    presentPrefetch ch s = s := by
  have wants : wantsLine s ch = false := by
    obtain h | h := h <;> simp [wantsLine, h]
  simp [presentPrefetch, wants]

/-- The IMMEDIATE jump that the advance of a channel finds (R62). -/
def tickJump (levels : BitVec 8) (s : State) : ChanId → Option SlotIx :=
  immediateJump (tickOpening levels s) (firedSet (tickOpening levels s))

theorem tickJump_running (hmode : (s.view ch).record.mode = .running)
    (hstop : (s.view ch).record.stop ≠ some .immediate) :
    tickJump levels s ch = (s.view ch).jumpTo .immediate (firesAt s levels) := by
  rw [tickJump, immediateJump_eq (getLsbD_firedSet_tickOpening levels s), view_tickOpening,
    opened_of_not_stopped (fun h => hstop h.2), if_pos hmode]
  rfl

theorem tickJump_waiting (hmode : (s.view ch).record.mode = .waiting) : tickJump levels s ch = none := by
  rw [tickJump, immediateJump_eq (getLsbD_firedSet_tickOpening levels s), view_tickOpening,
    opened_of_not_stopped (by simp [hmode]), if_neg (by simp [hmode])]

/-- After the advance of a tick: what it has done, and the prefetcher's request made there. -/
theorem view_tick_advance (levels : BitVec 8) (s : State) (ch : ChanId) :
    ∃ (u : State) (v : ChannelView) (q : Prefetch),
      u.view ch = handedView levels s ch ∧ segmentLength u = segmentLength s ∧
      (advance (tickJump levels s) ch u).view ch = v ∧ (tick levels s).view ch = { v with prefetch := q } ∧
      q.fifo = v.prefetch.fifo ∧ q.play = v.prefetch.play ∧
      (v.record.mode = .idle ∨ v.record.mode = .halted → q = v.prefetch) := by
  obtain ⟨u, hu, hlength, w, hw, htick⟩ := view_tick levels s ch
  change w.view ch = (advance (tickJump levels s) ch u).view ch at hw
  obtain ⟨hfifo, hplay⟩ := presentPrefetch_keeps ch w
  have prefetch : look w.prefetch ch = _ := congrArg ChannelView.prefetch hw
  refine ⟨u, _, look (presentPrefetch ch w).prefetch ch, hu, hlength, rfl, ?_, ?_, ?_, fun hrest => ?_⟩
  · rw [htick, view_presentPrefetch, hw]
  · rw [hfifo, prefetch]
  · rw [hplay, prefetch]
  · have record : look w.channels ch = _ := congrArg ChannelView.record hw
    rw [presentPrefetch_rest (by rw [record]; exact hrest), prefetch]

/-- What the end of a tick makes of a channel's view `h`, the segments' lengths given, by what the channel was in the
tick: not RUNNING, at a pass end, or within the pass. -/
def Advanced (len : SegId → Nat) (h t : ChannelView) : Prop :=
  (h.record.mode ≠ .running ∧ ∃ q : Prefetch, t = { h with prefetch := q } ∧ q.fifo = h.prefetch.fifo ∧
    q.play = h.prefetch.play ∧ (h.record.mode = .idle ∨ h.record.mode = .halted → q = h.prefetch)) ∨
  (h.record.mode = .running ∧ h.whole len ≤ h.reached ∧ Outcome (h.passed (h.reached - h.whole len)) t) ∨
  (h.record.mode = .running ∧ h.reached < h.whole len ∧ Outcome h.stepped t)

theorem advanced_tick (levels : BitVec 8) (s : State) (ch : ChanId) :
    Advanced (segmentLength s) (handedView levels s ch) ((tick levels s).view ch) := by
  obtain ⟨u, v, q, hu, hlength, rfl, htick, hfifo, hplay, hrest⟩ := view_tick_advance levels s ch
  rw [← hu, ← hlength, htick]
  by_cases hmode : (u.view ch).record.mode = .running
  · by_cases hwhole : (u.view ch).whole (segmentLength u) ≤ (u.view ch).reached
    · exact .inr (.inl ⟨hmode, hwhole, (outcome_advance_pass hmode hwhole).prefetch q⟩)
    · have hwhole := Nat.lt_of_not_le hwhole
      exact .inr (.inr ⟨hmode, hwhole, (outcome_advance_step hmode hwhole).prefetch q⟩)
  · rw [view_advance_rest hmode] at hfifo hplay hrest ⊢
    exact .inl ⟨hmode, q, rfl, hfifo, hplay, hrest⟩

/-! ### What every tick keeps of a channel -/

/-- The record at a pass end (R53, R73, R80, R88). -/
theorem passEndRecord_eq (e : Option Entry) (p : Nat) (c : Channel) : passEndRecord e p c = { c with
    scale := c.pendingScale.getD c.scale
    pendingScale := none
    defaultStep := c.pendingRate.getD c.defaultStep
    pendingRate := none
    currentStep := (c.pendingRate.map (stepFor e)).getD c.currentStep
    phase := p
    passes := min (c.passes + 1) 65535
    clipEpisode := c.clipEpisode && c.passClipped
    passClipped := false } := by
  have scale : applyScale c = { c with scale := c.pendingScale.getD c.scale, pendingScale := none } := by
    unfold applyScale
    split
    · cases c
      simp_all
    · next x h => rw [h]; rfl
  have rate : ∀ d : Channel, applyRate e d = { d with
      defaultStep := d.pendingRate.getD d.defaultStep
      pendingRate := none
      currentStep := (d.pendingRate.map (stepFor e)).getD d.currentStep } := fun d => by
    unfold applyRate
    split
    · cases d
      simp_all
    · next x h => rw [h]; rfl
  rw [passEndRecord, scale, rate]

theorem stepped_eq (v : ChannelView) : v.stepped = { v with
    record := { v.record with phase := v.reached }
    prefetch := if phaseLine v.record.phase = phaseLine v.reached then v.prefetch else v.moved.prefetch } := by
  unfold ChannelView.stepped
  dsimp only
  split <;> rfl

theorem stepped_tables (v : ChannelView) : v.stepped.tables = v.tables := by rw [stepped_eq]

namespace Advanced

variable {len : SegId → Nat} {h t : ChannelView}

/-- The channel's code and counters are those of the code handed over. -/
theorem sound (ht : Advanced len h t) : t.record.last = h.record.last ∧ t.record.presented = h.record.presented ∧
    t.record.path = h.record.path ∧ t.record.clips = h.record.clips ∧ t.record.underruns = h.record.underruns ∧
    t.record.substitutions = h.record.substitutions := by
  obtain ⟨-, q, rfl, -⟩ | ⟨-, -, ho⟩ | ⟨-, -, ho⟩ := ht
  · exact ⟨rfl, rfl, rfl, rfl, rfl, rfl⟩
  · obtain ⟨last, presented, path, clips, underruns, substitutions, -⟩ := ho.sound
    simp only [ChannelView.passed, passEndRecord_eq] at last presented path clips underruns substitutions
    exact ⟨last, presented, path, clips, underruns, substitutions⟩
  · obtain ⟨last, presented, path, clips, underruns, substitutions, -⟩ := ho.sound
    rw [stepped_eq] at last presented path clips underruns substitutions
    exact ⟨last, presented, path, clips, underruns, substitutions⟩

theorem tables (ht : Advanced len h t) :
    t.tables = h.tables ∨ h.record.mode = .running ∧ t.tables = swapped h.tables := by
  obtain ⟨-, q, rfl, -⟩ | ⟨hmode, -, ho⟩ | ⟨hmode, -, ho⟩ := ht
  · exact .inl rfl
  · exact ho.tables.imp id fun e => ⟨hmode, e⟩
  · have banks := ho.tables
    rw [stepped_tables] at banks
    exact banks.imp id fun e => ⟨hmode, e⟩

/-- The toggle states of a channel's pins invert at its pass end (R116). -/
theorem toggles (ht : Advanced len h t) (hpulse : h.pulse = false) (i : PinId) :
    t.toggles i = (h.toggles i).map fun x => (x.1, x.2 ^^ t.pulse) := by
  obtain ⟨-, q, rfl, -⟩ | ⟨-, -, ho⟩ | ⟨-, -, ho⟩ := ht
  · simp [hpulse]
  · rw [ho.toggles, ho.pulse]
    simp [ChannelView.passed]
  · rw [ho.toggles, ho.pulse, stepped_eq]
    simp [hpulse]

/-- A channel that plays nothing is left as it was. -/
theorem rest (ht : Advanced len h t) (hmode : h.record.mode = .idle ∨ h.record.mode = .halted) : t = h := by
  obtain ⟨-, q, rfl, -, -, hq⟩ | ⟨hrun, -⟩ | ⟨hrun, -⟩ := ht
  · rw [hq hmode]
  · rw [hrun] at hmode
    simp at hmode
  · rw [hrun] at hmode
    simp at hmode

end Advanced

/-- The banks are as they were or swapped, at most once (R37). -/
theorem tables_tick (levels : BitVec 8) (s : State) (ch : ChanId) :
    ((tick levels s).view ch).tables = (s.view ch).tables ∨
      ((tick levels s).view ch).tables = swapped (s.view ch).tables := by
  have handed := handed_of_view levels s ch
  have advanced := (advanced_tick levels s ch).tables
  rw [handed.tables, handed.mode] at advanced
  obtain ⟨hr, -⟩ | ⟨hr, -⟩ | ⟨phase, armed, hr⟩ := ready_cases (s.view ch) (firesAt s levels)
  · rw [hr] at advanced
    exact advanced.imp id And.right
  · rw [hr] at advanced
    obtain h | ⟨h, -⟩ := advanced
    · rw [h]
      unfold ChannelView.idled
      dsimp only
      split
      · exact .inr rfl
      · exact .inl rfl
    · simp [ChannelView.idled, idleRecord] at h
  · rw [hr] at advanced
    exact advanced.imp id And.right

theorem toggles_tick (levels : BitVec 8) (s : State) (ch : ChanId) (i : PinId) :
    ((tick levels s).view ch).toggles i =
      ((s.view ch).toggles i).map fun t => (t.1, t.2 ^^ ((tick levels s).view ch).pulse) := by
  have handed := handed_of_view levels s ch
  obtain ⟨toggles, pulse⟩ := ready_toggles (s.view ch) (firesAt s levels)
  rw [(advanced_tick levels s ch).toggles (handed.pulse.trans pulse) i, handed.toggles, toggles]

/-- An IDLE or HALTED channel hands over its park code (R47, R82), and nothing else of it changes but its pulse. -/
theorem rest_tick (levels : BitVec 8) (s : State) (ch : ChanId)
    (h : (s.view ch).record.mode = .idle ∨ (s.view ch).record.mode = .halted) :
    (tick levels s).view ch =
      { s.view ch with pulse := false, record := handCode (s.view ch).record.park (s.view ch).record } := by
  have rest : handedView levels s ch =
      { s.view ch with pulse := false, record := handCode (s.view ch).record.park (s.view ch).record } := by
    unfold handedView
    obtain h | h := h
    · rw [ready_of_idle h]
      simp [ChannelView.handed, ChannelView.shown, handCode, h]
    · rw [ready_of_halted h]
      simp [ChannelView.handed, ChannelView.shown, handCode, h]
  rw [(advanced_tick levels s ch).rest (by rw [rest]; exact h), rest]

/-- The channel's path has moved one place, its code in front (R47). -/
theorem path_tick (levels : BitVec 8) (s : State) (ch : ChanId) :
    ((tick levels s).view ch).record.presented = (s.view ch).record.path.getLastD 0#16 ∧
      ((tick levels s).view ch).record.path =
        ((tick levels s).view ch).record.last :: (s.view ch).record.path.dropLast := by
  have handed := handed_of_view levels s ch
  obtain ⟨last, presented, path, -⟩ := (advanced_tick levels s ch).sound
  have before : ((s.view ch).ready (firesAt s levels)).record.path = (s.view ch).record.path := by
    obtain ⟨hr, -⟩ | ⟨hr, -⟩ | ⟨phase, armed, hr⟩ := ready_cases (s.view ch) (firesAt s levels) <;> rw [hr]
    rw [ChannelView.idled, idleRecord_eq]
  rw [presented, path, last, handed.presented, handed.path, before]
  exact ⟨rfl, rfl⟩

theorem record_view (s : State) (ch : ChanId) : (s.view ch).record = look s.channels ch := rfl

theorem handCode_of {c d : Channel} {x : Code} (h : d = handCode x c) :
    d = { c with last := x, presented := d.presented, path := d.path } := by
  rw [h]
  rfl

/-- Only the pulse, the record and the prefetcher of a view have changed, in the state's terms. -/
theorem parts_of_view {b : Bool} {c : Channel} {q : Prefetch}
    (h : t.view ch = { s.view ch with pulse := b, record := c, prefetch := q }) :
    look t.channels ch = c ∧ look t.tables ch = look s.tables ch ∧ look t.prefetch ch = q ∧
      look t.patterns ch = look s.patterns ch ∧ FlagsKept ch s t :=
  ⟨congrArg ChannelView.record h, congrArg ChannelView.tables h, congrArg ChannelView.prefetch h,
    congrArg ChannelView.pattern h, fun n k => congrFun (congrFun (congrArg ChannelView.flags h) n) k⟩

/-- Settles O40: the frame of the tick, and each channel and pin by its own part. -/
theorem outputTickMovesEveryPath : Obligations.OutputTickMovesEveryPath := by
  unfold Obligations.OutputTickMovesEveryPath
  intro levels s
  have frame := tickFrame_tick levels s
  refine ⟨tick levels s, rfl, frame.state, frame.addr, delay_tick levels s, seen_tick levels s, fun ch => ?_,
    fun i => ?_, fun n => ⟨frame.links n, frame.grow n⟩⟩
  · obtain ⟨presented, path⟩ := path_tick levels s ch
    simp only [record_view] at presented path
    refine ⟨presented, path, tables_tick levels s ch, fun hrest => ?_⟩
    obtain ⟨record, kept⟩ := parts_of_view (rest_tick levels s ch hrest)
    exact ⟨handCode_of record, kept⟩
  · obtain ⟨source, -, path, presented, computed⟩ := fields_of_bare (bare_pin_tick levels s i)
    rw [source, path, presented, computed]
    exact ⟨rfl, rfl, rfl⟩

end Sys2Proof.Machine
end

-- ==== The levels of the markers ====
section
/-! SUPPORT. What a channel shows its marker pins at a tick (R114 to R117), by what it is in the tick: at rest, stopped
IMMEDIATE, waiting on, or playing. -/

namespace Sys2Proof.Machine

open Sys2Proof

variable {s t u : State} {ch d : ChanId} {levels : BitVec 8} {v w : ChannelView} {fires : CondId → Bool} {k : CondId}

/-! ### What the channel is in the tick -/

/-- The channel is RUNNING in the tick: it was so, with no stop IMMEDIATE to carry out (R52), or its gate opens
(R60). -/
def ChannelView.plays (fires : CondId → Bool) (v : ChannelView) : Prop :=
  (v.record.mode = .running ∧ v.record.stop ≠ some .immediate) ∨ (v.record.mode = .waiting ∧ v.opens fires = true)

theorem ready_plays (h : v.plays fires) : ∃ phase armed, v.ready fires = v.playing phase armed := by
  obtain ⟨hmode, hstop⟩ | ⟨hmode, hgate⟩ := h
  · exact ⟨_, _, ready_playing hmode hstop⟩
  · exact ⟨0, v.record.armed, ready_released hmode hgate⟩

theorem opens_iff : (s.view ch).opens fires = true ↔
    ∃ k, (currentEntry s ch).bind Entry.gate = some k ∧ fires k = true := by
  rw [ChannelView.opens, Option.any_eq_true]
  rfl

/-- Mode and played pattern of a channel that plays nothing in the tick. -/
theorem handed_rests (h : (s.view ch).ready (firesAt s levels) = { s.view ch with pulse := false })
    (hmode : (s.view ch).record.mode ≠ .running) :
    (handedView levels s ch).record.mode = (s.view ch).record.mode ∧
      (handedView levels s ch).pattern = (s.view ch).pattern := by
  have mode : (handedView levels s ch).record.mode = (s.view ch).record.mode := by
    rw [(handed_of_view levels s ch).mode, h]
  exact ⟨mode, by rw [handedView_pattern, mode, if_neg hmode, h]⟩

theorem handed_stopped (hmode : (s.view ch).record.mode = .running)
    (hstop : (s.view ch).record.stop = some .immediate) :
    (handedView levels s ch).record.mode = .idle ∧ (handedView levels s ch).pattern = 0#4 := by
  have mode : (handedView levels s ch).record.mode = .idle := by
    rw [(handed_of_view levels s ch).mode, ready_stopped hmode hstop, ChannelView.idled, idleRecord_eq]
  exact ⟨mode, by rw [handedView_pattern, mode, if_neg (by decide), ready_stopped hmode hstop]; rfl⟩

theorem handed_plays (h : (s.view ch).plays (firesAt s levels)) :
    (handedView levels s ch).record.mode = .running ∧
      ∀ e, (s.view ch).current = some e → (handedView levels s ch).pattern = e.markers := by
  have handed := handed_of_view levels s ch
  obtain ⟨phase, armed, hready⟩ := ready_plays h
  have mode : (handedView levels s ch).record.mode = .running := by rw [handed.mode, hready]
  refine ⟨mode, fun e he => ?_⟩
  have current : (handedView levels s ch).current = some e := by
    rw [handed.current, hready]
    exact he
  rw [handedView_pattern, if_pos mode, current]
  rfl

/-- The pattern that remains at the end of the tick (R115): an entry into IDLE lowers it. -/
theorem Advanced.pattern {len : SegId → Nat} {h t : ChannelView} (ht : Advanced len h t) :
    (h.record.mode ≠ .running → t.record.mode = h.record.mode ∧ t.pattern = h.pattern) ∧
      (h.record.mode = .running → t.pattern = if t.record.mode = .idle then 0#4 else h.pattern) := by
  obtain ⟨hmode, q, rfl, -⟩ | ⟨hmode, -, ho⟩ | ⟨hmode, -, ho⟩ := ht
  · exact ⟨fun _ => ⟨rfl, rfl⟩, fun h => absurd h hmode⟩
  · exact ⟨fun h => absurd hmode h, fun _ => ho.pattern⟩
  · refine ⟨fun h => absurd hmode h, fun _ => ?_⟩
    rw [ho.pattern, stepped_eq]

/-! ### What a pin computes -/

theorem computed_tick (levels : BitVec 8) (s : State) (i : PinId) : (look (tick levels s).pins i).computed =
    markerLevel (tickShown levels s) (firedSet (tickOpening levels s)) (look s.pins i) := by
  obtain ⟨-, -, -, -, computed⟩ := fields_of_bare (bare_pin_tick levels s i)
  exact computed

theorem pulse_tick (levels : BitVec 8) (s : State) {i : PinId}
    (h : ∀ k width, (look s.pins i).source ≠ .firePulse k width) :
    (look (tick levels s).pins i).pulse = (look s.pins i).pulse := by
  obtain ⟨-, pulse, -⟩ := fields_of_bare (bare_pin_tick levels s i)
  rw [pulse, markerRecord]
  dsimp only
  split
  · next k width hsource => exact absurd hsource (h k width)
  · rfl

/-- A pin shows the channel's toggle state from before the tick's pass end, which then turns it (R116). -/
theorem passToggle_tick (levels : BitVec 8) (s : State) {i : PinId} {initial : Bool}
    (h : (look s.pins i).source = .passToggle ch initial) :
    (look (tick levels s).pins i).toggle =
      ((look s.pins i).toggle ^^ (tick levels s).trigger.pulses.getLsbD ch.val) := by
  obtain ⟨source, -⟩ := fields_of_bare (bare_pin_tick levels s i)
  have source : (look (tick levels s).pins i).source = .passToggle ch initial := source.trans h
  have toggles := toggles_tick levels s ch i
  simp only [State.view, togglesFor, h, source, if_true, Option.map_some, Option.some.injEq, Prod.mk.injEq, true_and]
    at toggles
  exact toggles

theorem toggle_tick (levels : BitVec 8) (s : State) {i : PinId}
    (h : ∀ c initial, (look s.pins i).source ≠ .passToggle c initial) :
    (look (tick levels s).pins i).toggle = (look s.pins i).toggle := by
  rw [pin_of_bare (bare_pin_tick levels s i) h]
  rfl

theorem mode_and_pattern_of_view (h : t.view ch = v) :
    (look t.channels ch).mode = v.record.mode ∧ look t.patterns ch = v.pattern := by
  rw [← h]
  exact ⟨rfl, rfl⟩

/-- A channel's state and played pattern at the tick, as the pins that show the channel see them (R115, R117). -/
theorem shown_tick (levels : BitVec 8) (s : State) {i : PinId} :
    ((look s.pins i).source = .running ch →
      (look (tick levels s).pins i).computed = decide ((handedView levels s ch).record.mode = .running)) ∧
    ∀ bit, (look s.pins i).source = .entryBit ch bit →
      (look (tick levels s).pins i).computed =
        (decide ((handedView levels s ch).record.mode = .running ∨ (handedView levels s ch).record.mode = .waiting) &&
          (handedView levels s ch).pattern.getLsbD bit.val) := by
  obtain ⟨mode, pattern⟩ := mode_and_pattern_of_view (view_tickShown levels s ch)
  rw [computed_tick]
  refine ⟨fun h => ?_, fun bit h => ?_⟩
  · simp only [markerLevel, h, mode]
  · simp only [markerLevel, h, mode, pattern]
    cases (handedView levels s ch).record.mode <;> simp

/-! ### The statement's four parts -/

/-- The pins that show the channel show it RUNNING or not, and these bits. -/
def Shows (levels : BitVec 8) (s : State) (ch : ChanId) (i : PinId) (running : Bool) (bits : BitVec 4) : Prop :=
  ((look s.pins i).source = .running ch → (look (tick levels s).pins i).computed = running) ∧
    ∀ bit, (look s.pins i).source = .entryBit ch bit →
      (look (tick levels s).pins i).computed = bits.getLsbD bit.val

theorem shows_nothing {i : PinId}
    (h : (handedView levels s ch).record.mode = .idle ∨ (handedView levels s ch).record.mode = .halted) :
    Shows levels s ch i false 0#4 := by
  obtain ⟨running, entry⟩ := shown_tick (ch := ch) levels s (i := i)
  refine ⟨fun hs => (running hs).trans ?_, fun bit hs => (entry bit hs).trans ?_⟩
  · obtain h | h := h <;> simp [h]
  · obtain h | h := h <;> simp [h]

theorem shows_waiting {i : PinId} (h : (handedView levels s ch).record.mode = .waiting) :
    Shows levels s ch i false (handedView levels s ch).pattern := by
  obtain ⟨running, entry⟩ := shown_tick (ch := ch) levels s (i := i)
  refine ⟨fun hs => (running hs).trans ?_, fun bit hs => (entry bit hs).trans ?_⟩ <;> simp [h]

theorem shows_running {i : PinId} (h : (handedView levels s ch).record.mode = .running) :
    Shows levels s ch i true (handedView levels s ch).pattern := by
  obtain ⟨running, entry⟩ := shown_tick (ch := ch) levels s (i := i)
  refine ⟨fun hs => (running hs).trans ?_, fun bit hs => (entry bit hs).trans ?_⟩ <;> simp [h]

/-- A channel's state and played pattern after the tick, from those it hands over with. -/
theorem after_tick (levels : BitVec 8) (s : State) (ch : ChanId) :
    ((handedView levels s ch).record.mode ≠ .running →
      look (tick levels s).patterns ch = (handedView levels s ch).pattern) ∧
    ((handedView levels s ch).record.mode = .running → look (tick levels s).patterns ch =
      if (look (tick levels s).channels ch).mode = .idle then 0#4 else (handedView levels s ch).pattern) := by
  obtain ⟨rests, plays⟩ := (advanced_tick levels s ch).pattern
  exact ⟨fun h => (rests h).2, plays⟩

/-- Settles O49: each source by the level its pin computes, a channel's by what the channel is in the tick. -/
theorem markersComputeTheirLevels : Obligations.MarkersComputeTheirLevels := by
  unfold Obligations.MarkersComputeTheirLevels
  rintro levels i s t ht
  obtain rfl : tick levels s = t := Host.Outcome.next.inj ht
  dsimp only
  have level := computed_tick levels s i
  refine ⟨fun b h => ?_, fun ch initial h => ⟨?_, passToggle_tick levels s h⟩, toggle_tick levels s,
    fun k width h => firePulse_tick levels s h, pulse_tick levels s, fun ch => ?_⟩
  · rw [level]
    simp only [markerLevel, h]
  · rw [level]
    simp only [markerLevel, h]
  obtain ⟨rests, plays⟩ := after_tick levels s ch
  have opens := opens_iff (s := s) (ch := ch) (fires := firesAt s levels)
  rw [← opens]
  refine ⟨fun hmode => ?_, fun hmode hstop => ?_, fun hmode hstop hsource => ?_, fun hmode hopen => ?_,
    fun e he hplays => ?_⟩
  · have ready : (s.view ch).ready (firesAt s levels) = { s.view ch with pulse := false } :=
      hmode.elim (ready_of_idle (v := s.view ch)) (ready_of_halted (v := s.view ch))
    have off : (s.view ch).record.mode ≠ .running := by
      obtain h | h := hmode <;> simp [record_view, h]
    obtain ⟨mode, pattern⟩ := handed_rests ready off
    rw [← mode] at off
    exact ⟨shows_nothing (by rw [mode]; exact hmode), (rests off).trans pattern⟩
  · obtain ⟨mode, pattern⟩ := handed_stopped (levels := levels) (ch := ch) (s := s) hmode hstop
    exact ⟨shows_nothing (.inl mode), (rests (by rw [mode]; decide)).trans pattern⟩
  · exact (shows_running (handed_plays (.inl ⟨hmode, hstop⟩)).1).1 hsource
  · have ready := ready_closed (v := s.view ch) (fires := firesAt s levels) hmode (by simpa using hopen)
    have off : (s.view ch).record.mode ≠ .running := by simp [record_view, hmode]
    obtain ⟨mode, pattern⟩ := handed_rests ready off
    have shows := shows_waiting (i := i) (mode.trans hmode)
    rw [← mode] at off
    rw [pattern] at shows
    exact ⟨shows, (rests off).trans pattern⟩
  · obtain ⟨mode, pattern⟩ := handed_plays (s := s) (ch := ch) (levels := levels) hplays
    have shows := shows_running (i := i) mode
    have after := plays mode
    rw [pattern e he] at shows after
    exact ⟨shows, after⟩

end Sys2Proof.Machine
end

-- ==== The code a channel hands over ====
section
/-! SUPPORT. The value of a tick by its cases (R75 to R77, R83, R85), what a RUNNING tick does with it (R78 to R80, R83 to
R85), and what the end of the tick leaves of that. -/

namespace Sys2Proof.Machine

open Sys2Proof

variable {s t u : State} {ch d : ChanId} {levels : BitVec 8} {v w : ChannelView} {fires : CondId → Bool} {e : Entry}
  {l l' : FifoLine}

/-! ### The value of a tick -/

theorem passFollows_iff {passes : Nat} :
    passFollows e passes = true ↔ e.repeats = 0 ∨ passes + 1 < e.repeats := by simp [passFollows]

/-- The partner sample is the first of the line at the next place (R75). -/
def PartnerElsewhere (i len : Nat) (e : Entry) (passes : Nat) : Prop :=
  (i + 1 < len ∧ (i + 1) % 4 = 0) ∨ (len ≤ i + 1 ∧ (e.repeats = 0 ∨ passes + 1 < e.repeats))

theorem partnerOf_elsewhere {i len passes : Nat} (h : PartnerElsewhere i len e passes) :
    partnerOf i len (passFollows e passes) = .nextPlace := by
  obtain ⟨hin, hline⟩ | ⟨hend, hfollows⟩ := h
  · rw [partnerOf, if_pos hin, if_pos hline]
  · rw [partnerOf, if_neg (Nat.not_lt.mpr hend), if_pos (passFollows_iff.mpr hfollows)]

theorem partnerOf_here {i len passes : Nat} (h : ¬ PartnerElsewhere i len e passes) :
    partnerOf i len (passFollows e passes) = .here (if i + 1 < len then (i + 1) % 4 else i % 4) := by
  by_cases hin : i + 1 < len
  · have hline : ¬ (i + 1) % 4 = 0 := fun hline => h (.inl ⟨hin, hline⟩)
    rw [partnerOf, if_pos hin, if_neg hline, if_pos hin]
  · have hlast : ¬ passFollows e passes = true :=
      fun hf => h (.inr ⟨Nat.le_of_not_lt hin, passFollows_iff.mp hf⟩)
    rw [partnerOf, if_neg hin, if_neg hlast, if_neg hin]

section
variable (hmode : (look s.channels ch).mode = .running) (he : currentEntry s ch = some e)
include hmode he

/-- The value of a tick whose first line is not held (R83). -/
theorem tickValue_missing (h : heldAt (look s.prefetch ch) (look s.prefetch ch).play = none) :
    tickValue s ch = .underrun := by
  unfold tickValue
  simp only [hmode, he, h]

theorem tickValue_nearest (h : heldAt (look s.prefetch ch) (look s.prefetch ch).play = some l)
    (hi : (look s.channels ch).interpolation = .nearest) :
    tickValue s ch = if l.poisoned then .poison
      else .computed (ownValue (nearestValue (sampleOf l.data ((look s.channels ch).phase / 16777216 % 4)))
        (look s.channels ch).scale) := by
  unfold tickValue
  simp only [hmode, he, h, hi, phaseIndex, Config.oneSample]

theorem tickValue_here (h : heldAt (look s.prefetch ch) (look s.prefetch ch).play = some l)
    (hi : (look s.channels ch).interpolation = .linear)
    (hp : ¬ PartnerElsewhere ((look s.channels ch).phase / 16777216) (segmentLength s e.segment) e
      (look s.channels ch).passes) :
    tickValue s ch = if l.poisoned then .poison
      else .computed (ownValue (interpolate (sampleOf l.data ((look s.channels ch).phase / 16777216 % 4))
        (if (look s.channels ch).phase / 16777216 + 1 < segmentLength s e.segment
          then sampleOf l.data (((look s.channels ch).phase / 16777216 + 1) % 4)
          else sampleOf l.data ((look s.channels ch).phase / 16777216 % 4))
        ((look s.channels ch).phase % 16777216)) (look s.channels ch).scale) := by
  rw [← apply_ite (sampleOf l.data)]
  unfold tickValue
  simp only [hmode, he, h, hi, phaseIndex, phaseFraction, Config.oneSample, partnerOf_here hp]

theorem tickValue_next_missing (h : heldAt (look s.prefetch ch) (look s.prefetch ch).play = some l)
    (hi : (look s.channels ch).interpolation = .linear)
    (hp : PartnerElsewhere ((look s.channels ch).phase / 16777216) (segmentLength s e.segment) e
      (look s.channels ch).passes)
    (hnext : heldAt (look s.prefetch ch) ((look s.prefetch ch).play + 1) = none) : tickValue s ch = .underrun := by
  unfold tickValue
  simp only [hmode, he, h, hi, phaseIndex, Config.oneSample, partnerOf_elsewhere hp, hnext]

theorem tickValue_next (h : heldAt (look s.prefetch ch) (look s.prefetch ch).play = some l)
    (hi : (look s.channels ch).interpolation = .linear)
    (hp : PartnerElsewhere ((look s.channels ch).phase / 16777216) (segmentLength s e.segment) e
      (look s.channels ch).passes)
    (hnext : heldAt (look s.prefetch ch) ((look s.prefetch ch).play + 1) = some l') :
    tickValue s ch = if l.poisoned || l'.poisoned then .poison
      else .computed (ownValue (interpolate (sampleOf l.data ((look s.channels ch).phase / 16777216 % 4))
        (sampleOf l'.data 0) ((look s.channels ch).phase % 16777216)) (look s.channels ch).scale) := by
  unfold tickValue
  simp only [hmode, he, h, hi, phaseIndex, phaseFraction, Config.oneSample, partnerOf_elsewhere hp, hnext]

/-- A RUNNING channel with an entry computes a value or holds. -/
theorem tickValue_ne_silent : tickValue s ch ≠ .silent := by
  cases h : heldAt (look s.prefetch ch) (look s.prefetch ch).play with
  | none => rw [tickValue_missing hmode he h]; decide
  | some l =>
    cases hi : (look s.channels ch).interpolation with
    | nearest =>
      rw [tickValue_nearest hmode he h hi]
      split <;> simp
    | linear =>
      by_cases hp : PartnerElsewhere ((look s.channels ch).phase / 16777216) (segmentLength s e.segment) e
          (look s.channels ch).passes
      · cases hnext : heldAt (look s.prefetch ch) ((look s.prefetch ch).play + 1) with
        | none => rw [tickValue_next_missing hmode he h hi hp hnext]; decide
        | some l' =>
          rw [tickValue_next hmode he h hi hp hnext]
          split <;> simp
      · rw [tickValue_here hmode he h hi hp]
        split <;> simp

end

theorem played_running (hmode : (s.view ch).record.mode = .running)
    (hstop : (s.view ch).record.stop ≠ some .immediate) :
    played s levels ch = tickValue s ch := if_pos ⟨hmode, hstop⟩

theorem played_silent (hrun : (look s.channels ch).mode ≠ .running) (hwait : (look s.channels ch).mode ≠ .waiting) :
    played s levels ch = .silent := by
  unfold played
  dsimp only
  rw [if_neg fun h => hrun h.1, if_neg fun h => hwait h.1]

theorem played_ne_silent (he : currentEntry s ch = some e) (h : (s.view ch).plays (firesAt s levels)) :
    played s levels ch ≠ .silent := by
  obtain ⟨hmode, hstop⟩ | ⟨hmode, hgate⟩ := h
  · rw [played_running hmode hstop]
    exact tickValue_ne_silent hmode he
  · have opens : ((currentEntry s ch).bind Entry.gate).any (firesAt s levels) = true := hgate
    have waiting : (look s.channels ch).mode = .waiting := hmode
    have view := view_modChannel ch (fun c => { c with mode := .running, phase := 0 }) s
    unfold played
    dsimp only
    rw [if_neg (fun h => by rw [waiting] at h; exact absurd h.1 (by decide)), if_pos ⟨waiting, opens⟩]
    refine tickValue_ne_silent ?_ ?_ (e := e)
    · exact congrArg (fun v : ChannelView => v.record.mode) view
    · exact (congrArg ChannelView.current view).trans he

/-! ### What is done with the value -/

theorem clips_eq (z : Int) : clips z = decide (roundValue z < -32768 ∨ 32767 < roundValue z) := by
  unfold clips clampCode
  rw [decide_eq_decide]
  omega

/-- The tick's value lies outside the code range (R79). -/
def TickValue.clipped (sum : Int → Int) : TickValue → Bool
  | .computed own => decide (roundValue (sum own) < -32768 ∨ 32767 < roundValue (sum own))
  | _ => false

/-- The code of a RUNNING tick, with the last code given (R79, R81). -/
def TickValue.code (sum : Int → Int) (last : Code) : TickValue → Code
  | .computed own => BitVec.ofInt 16 (clampCode (roundValue (sum own)))
  | _ => last

/-- The underrun episode after a RUNNING tick (R83, R84). -/
def TickValue.episode (before : Bool) : TickValue → Bool
  | .underrun => true
  | .poison => before
  | _ => false

/-- What a RUNNING tick makes of the code, the counters and the episodes (R79, R80, R83 to R85): from `c` to `d` with
the tick's value and the sum it enters. -/
structure Sounded (value : TickValue) (sum : Int → Int) (c d : Channel) : Prop where
  last : d.last = value.code sum c.last
  clips : d.clips = if value.clipped sum then min (c.clips + 1) 65535 else c.clips
  underruns : d.underruns = if value = .underrun then min (c.underruns + 1) 4294967295 else c.underruns
  substitutions : d.substitutions =
    if value = .poison then min (c.substitutions + 1) 4294967295 else c.substitutions
  underrunEpisode : d.underrunEpisode = value.episode c.underrunEpisode
  passClipped : d.passClipped = (c.passClipped || value.clipped sum)
  clipEpisode : d.clipEpisode = (c.clipEpisode || value.clipped sum)

theorem handed_sounded {value : TickValue} {sum : Int → Int} (hmode : v.record.mode = .running)
    (hvalue : value ≠ .silent) :
    Sounded value sum v.record (v.handed value sum).record := by
  unfold ChannelView.handed
  rw [hmode]
  cases value with
  | silent => exact absurd rfl hvalue
  | computed own =>
    have clipped : (TickValue.computed own).clipped sum = Machine.clips (sum own) := (clips_eq _).symm
    exact ⟨rfl, by rw [clipped]; rfl, rfl, rfl, rfl, by rw [clipped]; rfl, by rw [clipped]; rfl⟩
  | underrun => exact ⟨rfl, rfl, rfl, rfl, rfl, (Bool.or_false _).symm, (Bool.or_false _).symm⟩
  | poison => exact ⟨rfl, rfl, rfl, rfl, rfl, (Bool.or_false _).symm, (Bool.or_false _).symm⟩

/-- The two flags of a RUNNING tick's episodes (R80, R84). -/
theorem handed_flags {value : TickValue} {sum : Int → Int} (hmode : v.record.mode = .running) (n : LinkId) :
    (v.handed value sum).flags n 4 = (v.flags n 4 || (decide (value = .underrun) && !v.record.underrunEpisode)) ∧
      (v.handed value sum).flags n 5 = (v.flags n 5 || (value.clipped sum && !v.record.clipEpisode)) := by
  unfold ChannelView.handed
  rw [hmode]
  cases value <;> simp [ChannelView.computed, TickValue.clipped, clips_eq]

theorem handed_rest_code {value : TickValue} {sum : Int → Int} (h : v.record.mode = .idle ∨ v.record.mode = .halted) :
    (v.handed value sum).record.last = v.record.park := by
  unfold ChannelView.handed
  obtain h | h := h <;> rw [h] <;> rfl

theorem handed_wait_code {value : TickValue} {sum : Int → Int} (h : v.record.mode = .waiting) :
    (v.handed value sum).record.last = v.waitCode := by
  unfold ChannelView.handed
  rw [h]
  rfl

theorem tickSum_eq (values : ChanId → TickValue) (own : Int) (source : Option ChanId) :
    tickSum values own source = own + (match source with
      | none => 0
      | some m => contribution (values m)) := by
  cases source with
  | none => exact (Int.add_zero own).symm
  | some m => rfl

/-! ### What the end of the tick leaves of it -/

namespace Advanced

variable {len : SegId → Nat} {h t : ChannelView}

/-- A RUNNING channel's underrun episode ends with its RUNNING (R84), and its flags follow the outcome (R180). -/
theorem running (ht : Advanced len h t) (hmode : h.record.mode = .running) :
    t.record.underrunEpisode = (h.record.underrunEpisode && decide (t.record.mode = .running)) ∧
    ∀ n k, t.flags n k = (h.flags n k || decide (k = 1) && decide (t.record.mode = .idle) ||
      decide (k = 2) && decide (t.record.mode = .waiting) || decide (k = 3) && decide (t.tables ≠ h.tables)) := by
  obtain ⟨off, -⟩ | ⟨-, -, ho⟩ | ⟨-, -, ho⟩ := ht
  · exact absurd hmode off
  · have underrun := ho.underrun
    simp only [ChannelView.passed, passEndRecord_eq] at underrun
    exact ⟨underrun, ho.flags⟩
  · have underrun := ho.underrun
    have flags := ho.flags
    rw [stepped_eq] at underrun flags
    exact ⟨underrun, flags⟩

/-- The pulse of a tick is its pass end (R94), which ends a clip episode that no tick of the pass has clipped (R80). -/
theorem passEnd (ht : Advanced len h t) (hmode : h.record.mode = .running) (hpulse : h.pulse = false) :
    (t.pulse = true ↔ h.whole len ≤ h.reached) ∧
    (h.whole len ≤ h.reached → t.record.passClipped = false ∧
      t.record.clipEpisode = (h.record.clipEpisode && h.record.passClipped)) := by
  obtain ⟨off, -⟩ | ⟨-, hwhole, ho⟩ | ⟨-, hwhole, ho⟩ := ht
  · exact absurd hmode off
  · obtain ⟨-, -, -, -, -, -, clipEpisode⟩ := ho.sound
    have passClipped := ho.passClipped
    simp only [ChannelView.passed, passEndRecord_eq] at passClipped clipEpisode
    exact ⟨iff_of_true ho.pulse hwhole, fun _ => ⟨passClipped trivial, clipEpisode⟩⟩
  · have off : ¬ h.whole len ≤ h.reached := Nat.not_le.mpr hwhole
    have pulse := ho.pulse
    rw [stepped_eq] at pulse
    exact ⟨iff_of_false (by rw [pulse, hpulse]; decide) off, fun h => absurd h off⟩

end Advanced

/-- A step within the pass, at which no IMMEDIATE jump fires (R63, R74). -/
theorem step_tick (hmode : (handedView levels s ch).record.mode = .running)
    (hwhole : (handedView levels s ch).reached < (handedView levels s ch).whole (segmentLength s))
    (hjump : tickJump levels s ch = none) :
    ∃ q : Prefetch, (tick levels s).view ch = { (handedView levels s ch).stepped with prefetch := q } ∧
      q.fifo = (handedView levels s ch).stepped.prefetch.fifo ∧
      q.play = (handedView levels s ch).stepped.prefetch.play := by
  obtain ⟨u, v, q, hu, hlength, rfl, htick, hfifo, hplay, -⟩ := view_tick_advance levels s ch
  rw [← hu] at hmode hwhole ⊢
  rw [← hlength] at hwhole
  obtain ⟨w, hw, hnone, -⟩ := advance_step (jumps := tickJump levels s) hmode hwhole
  rw [hnone hjump, hw] at htick hfifo hplay
  exact ⟨q, htick, hfifo, hplay⟩

/-- No jump IMMEDIATE is found at a tick at which none fires (R62). -/
theorem tickJump_none (he : (s.view ch).current = some e) (hplays : (s.view ch).plays (firesAt s levels))
    (h : (s.view ch).record.mode = .running →
      ∀ j ∈ e.jump, j.timing = .immediate → firesAt s levels j.cond = false) :
    tickJump levels s ch = none := by
  obtain ⟨hmode, hstop⟩ | ⟨hmode, -⟩ := hplays
  · rw [tickJump_running hmode hstop]
    cases hj : (s.view ch).firedJump (firesAt s levels) with
    | none => exact jumpTo_of_none hj
    | some j =>
      rw [jumpTo_of_fired hj]
      refine if_neg fun ht => ?_
      rw [ChannelView.firedJump, he, Option.filter_eq_some_iff] at hj
      rw [h hmode j hj.1 ht] at hj
      exact absurd hj.2 Bool.false_ne_true
  · exact tickJump_waiting hmode

/-! ### A playing channel's tick -/

/-- The sum a channel's own value enters (R78). -/
def sumAt (levels : BitVec 8) (s : State) (ch : ChanId) (own : Int) : Int :=
  tickSum (played s levels) own (s.view ch).record.sumSource

theorem sounded_handedView (he : currentEntry s ch = some e) (hplays : (s.view ch).plays (firesAt s levels)) :
    Sounded (played s levels ch) (sumAt levels s ch) (s.view ch).record (handedView levels s ch).record := by
  obtain ⟨phase, armed, hready⟩ := ready_plays hplays
  have silent := played_ne_silent he hplays
  have sounded := handed_sounded (v := (s.view ch).ready (firesAt s levels)) (sum := sumAt levels s ch)
    (by rw [hready]) silent
  have view : (handedView levels s ch).record =
      (((s.view ch).ready (firesAt s levels)).handed (played s levels ch) (sumAt levels s ch)).record := by
    unfold handedView
    rw [hready]
    rfl
  rw [view]
  rw [hready] at sounded ⊢
  exact { sounded with }

theorem flags_handedView (hplays : (s.view ch).plays (firesAt s levels)) (n : LinkId) :
    (handedView levels s ch).flags n 4 = ((s.view ch).flags n 4 ||
      (decide (played s levels ch = .underrun) && !(s.view ch).record.underrunEpisode)) ∧
    (handedView levels s ch).flags n 5 = ((s.view ch).flags n 5 ||
      ((played s levels ch).clipped (sumAt levels s ch) && !(s.view ch).record.clipEpisode)) := by
  obtain ⟨phase, armed, hready⟩ := ready_plays hplays
  have flags := handed_flags (v := (s.view ch).ready (firesAt s levels)) (value := played s levels ch)
    (sum := sumAt levels s ch) (by rw [hready]) n
  have view : (handedView levels s ch).flags =
      (((s.view ch).ready (firesAt s levels)).handed (played s levels ch) (sumAt levels s ch)).flags := by
    unfold handedView
    rw [hready]
    rfl
  rw [view]
  rw [hready] at flags ⊢
  exact flags

end Sys2Proof.Machine
end

-- ==== The codes of a tick ====
section
/-! SUPPORT. What the tick as a whole leaves of a channel's code, counters and episodes (R47, R79 to R85). -/

namespace Sys2Proof.Machine

open Sys2Proof

variable {s t u : State} {ch d : ChanId} {levels : BitVec 8} {v w : ChannelView} {fires : CondId → Bool} {e : Entry}
  {l l' : FifoLine} {own : Int}

/-! ### A channel that plays nothing -/

theorem last_tick (levels : BitVec 8) (s : State) (ch : ChanId) :
    (look (tick levels s).channels ch).last = (handedView levels s ch).record.last := by
  obtain ⟨last, -⟩ := (advanced_tick levels s ch).sound
  exact last

/-- The park code of a channel that is IDLE or HALTED in the tick (R47, R52, R82). -/
theorem last_tick_rest (h : ((s.view ch).ready (firesAt s levels)).record.mode = .idle ∨
      ((s.view ch).ready (firesAt s levels)).record.mode = .halted)
    (hpark : ((s.view ch).ready (firesAt s levels)).record.park = (s.view ch).record.park) :
    (look (tick levels s).channels ch).last = (look s.channels ch).park := by
  rw [last_tick]
  exact (handed_rest_code h).trans hpark

theorem last_tick_waiting (hmode : (s.view ch).record.mode = .waiting)
    (hgate : (s.view ch).opens (firesAt s levels) = false) :
    (look (tick levels s).channels ch).last = (s.view ch).waitCode := by
  rw [last_tick]
  have ready := ready_closed hmode hgate
  refine (handed_wait_code ?_).trans ?_
  · rw [ready]
    exact hmode
  · rw [ready]
    rfl

theorem opens_false (he : (s.view ch).current = some e) (h : ∀ k, e.gate = some k → fires k = false) :
    (s.view ch).opens fires = false := by
  unfold ChannelView.opens
  rw [he, Option.bind_some]
  cases hgate : e.gate with
  | none => rfl
  | some k => exact h k hgate

theorem opens_true (he : (s.view ch).current = some e) (h : ∃ k, e.gate = some k ∧ fires k = true) :
    (s.view ch).opens fires = true := by
  obtain ⟨k, hgate, hk⟩ := h
  unfold ChannelView.opens
  rw [he, Option.bind_some, hgate, Option.any_some, hk]

/-! ### A channel that plays -/

section
variable (he : currentEntry s ch = some e) (hplays : (s.view ch).plays (firesAt s levels))
include he hplays

/-- Code and counters after the tick (R79, R83, R85). -/
theorem sounded_tick :
    (look (tick levels s).channels ch).last =
      (played s levels ch).code (sumAt levels s ch) (look s.channels ch).last ∧
    (look (tick levels s).channels ch).clips = (if (played s levels ch).clipped (sumAt levels s ch)
      then min ((look s.channels ch).clips + 1) 65535 else (look s.channels ch).clips) ∧
    (look (tick levels s).channels ch).underruns = (if played s levels ch = .underrun
      then min ((look s.channels ch).underruns + 1) 4294967295 else (look s.channels ch).underruns) ∧
    (look (tick levels s).channels ch).substitutions = (if played s levels ch = .poison
      then min ((look s.channels ch).substitutions + 1) 4294967295 else (look s.channels ch).substitutions) := by
  have sounded := sounded_handedView he hplays
  obtain ⟨last, -, -, clips, underruns, substitutions⟩ := (advanced_tick levels s ch).sound
  exact ⟨last.trans sounded.last, clips.trans sounded.clips, underruns.trans sounded.underruns,
    substitutions.trans sounded.substitutions⟩

theorem underrun_tick (h : played s levels ch = .underrun) :
    (look (tick levels s).channels ch).last = (look s.channels ch).last ∧
      (look (tick levels s).channels ch).underruns = min ((look s.channels ch).underruns + 1) 4294967295 := by
  obtain ⟨last, -, underruns, -⟩ := sounded_tick he hplays
  rw [h] at last underruns
  exact ⟨last, underruns⟩

theorem poison_tick (h : played s levels ch = .poison) :
    (look (tick levels s).channels ch).last = (look s.channels ch).last ∧
      (look (tick levels s).channels ch).substitutions = min ((look s.channels ch).substitutions + 1) 4294967295 := by
  obtain ⟨last, -, -, substitutions⟩ := sounded_tick he hplays
  rw [h] at last substitutions
  exact ⟨last, substitutions⟩

theorem computed_code_tick (h : played s levels ch = .computed own) :
    (look (tick levels s).channels ch).last = BitVec.ofInt 16 (clampCode (roundValue (sumAt levels s ch own))) := by
  obtain ⟨last, -⟩ := sounded_tick he hplays
  rw [h] at last
  exact last

/-- The underrun episode and the clip episode after the tick (R80, R84). -/
theorem episodes_tick :
    (look (tick levels s).channels ch).underrunEpisode =
      ((played s levels ch).episode (look s.channels ch).underrunEpisode &&
        decide ((look (tick levels s).channels ch).mode = .running)) ∧
    ((tick levels s).trigger.pulses.getLsbD ch.val = true →
      (look (tick levels s).channels ch).passClipped = false ∧
      (look (tick levels s).channels ch).clipEpisode =
        (((look s.channels ch).clipEpisode || (played s levels ch).clipped (sumAt levels s ch)) &&
          ((look s.channels ch).passClipped || (played s levels ch).clipped (sumAt levels s ch)))) ∧
    ((tick levels s).trigger.pulses.getLsbD ch.val = false →
      ((look s.channels ch).mode = .running → ∀ j ∈ e.jump, j.timing = .immediate → firesAt s levels j.cond = false) →
      (look (tick levels s).channels ch).passClipped =
        ((look s.channels ch).passClipped || (played s levels ch).clipped (sumAt levels s ch)) ∧
      (look (tick levels s).channels ch).clipEpisode =
        ((look s.channels ch).clipEpisode || (played s levels ch).clipped (sumAt levels s ch))) := by
  have sounded := sounded_handedView he hplays
  have advanced := advanced_tick levels s ch
  obtain ⟨mode, -⟩ := handed_plays hplays
  have pulse := (handed_of_view levels s ch).pulse.trans (ready_toggles _ _).2
  obtain ⟨underrun, -⟩ := advanced.running mode
  obtain ⟨ends, passed⟩ := advanced.passEnd mode pulse
  refine ⟨?_, fun h => ?_, fun h hjumps => ?_⟩
  · rw [sounded.underrunEpisode] at underrun
    exact underrun
  · obtain ⟨passClipped, clipEpisode⟩ := passed (ends.mp h)
    rw [sounded.clipEpisode, sounded.passClipped] at clipEpisode
    exact ⟨passClipped, clipEpisode⟩
  · have within := Nat.lt_of_not_le fun hw => absurd (ends.mpr hw) (by
      rw [show ((tick levels s).view ch).pulse = false from h]
      decide)
    obtain ⟨q, view, -⟩ := step_tick mode within (tickJump_none he hplays hjumps)
    rw [stepped_eq] at view
    have passClipped := congrArg (fun v : ChannelView => v.record.passClipped) view
    have clipEpisode := congrArg (fun v : ChannelView => v.record.clipEpisode) view
    exact ⟨passClipped.trans sounded.passClipped, clipEpisode.trans sounded.clipEpisode⟩

end

/-- CLIP_BEGAN and UNDERRUN_BEGAN are no outcome's flags. -/
theorem episode_flags_tick (hplays : (s.view ch).plays (firesAt s levels)) (n : LinkId) :
    ((tick levels s).view ch).flags n 4 = ((s.view ch).flags n 4 ||
      (decide (played s levels ch = .underrun) && !(s.view ch).record.underrunEpisode)) ∧
    ((tick levels s).view ch).flags n 5 = ((s.view ch).flags n 5 ||
      ((played s levels ch).clipped (sumAt levels s ch) && !(s.view ch).record.clipEpisode)) := by
  obtain ⟨mode, -⟩ := handed_plays hplays
  obtain ⟨-, flags⟩ := (advanced_tick levels s ch).running mode
  obtain ⟨underrun, clip⟩ := flags_handedView hplays n
  rw [flags, flags, underrun, clip]
  simp

/-- With a sum source that is neither RUNNING nor WAITING the own value stands alone (R78). -/
theorem sumAt_alone (h : ∀ m, (look s.channels ch).sumSource = some m →
      (look s.channels m).mode ≠ .running ∧ (look s.channels m).mode ≠ .waiting) (own : Int) :
    sumAt levels s ch own = own := by
  have source : (s.view ch).record.sumSource = (look s.channels ch).sumSource := rfl
  rw [sumAt, tickSum_eq, source]
  cases hm : (look s.channels ch).sumSource with
  | none => exact Int.add_zero own
  | some m =>
    obtain ⟨hrun, hwait⟩ := h m hm
    dsimp only
    rw [played_silent hrun hwait]
    exact Int.add_zero own

/-! ### The statement's parts -/

/-- The clause of a RUNNING channel, its lines at hand or not. -/
theorem code_running (hmode : (look s.channels ch).mode = .running)
    (hstop : (look s.channels ch).stop ≠ some .immediate)
    (he : currentEntry s ch = some e)
    (halone : ∀ m, (look s.channels ch).sumSource = some m →
      (look s.channels m).mode ≠ .running ∧ (look s.channels m).mode ≠ .waiting) :
    (tickValue s ch = .underrun → (look (tick levels s).channels ch).last = (look s.channels ch).last ∧
      (look (tick levels s).channels ch).underruns = min ((look s.channels ch).underruns + 1) 4294967295) ∧
    (tickValue s ch = .poison → (look (tick levels s).channels ch).last = (look s.channels ch).last ∧
      (look (tick levels s).channels ch).substitutions = min ((look s.channels ch).substitutions + 1) 4294967295) ∧
    ∀ x, tickValue s ch = .computed (ownValue x (look s.channels ch).scale) →
      (look (tick levels s).channels ch).last = BitVec.ofInt 16 (clampCode (roundValue
        (x * (look s.channels ch).scale.gain.toInt + (look s.channels ch).scale.offset.toInt * 1073741824))) := by
  have hplays : (s.view ch).plays (firesAt s levels) := .inl ⟨hmode, hstop⟩
  have value : played s levels ch = tickValue s ch := played_running hmode hstop
  rw [← value]
  refine ⟨underrun_tick he hplays, poison_tick he hplays, fun x h => ?_⟩
  rw [computed_code_tick he hplays h, sumAt_alone halone, ownValue]

/-- Settles O41: a resting, a waiting and a playing channel, the latter by its value. -/
theorem tickHandsOverByState : Obligations.TickHandsOverByState := by
  unfold Obligations.TickHandsOverByState
  rintro levels ch s t ht
  obtain rfl : tick levels s = t := Host.Outcome.next.inj ht
  dsimp only
  refine ⟨fun h => ?_, fun e hmode he hgate => ?_, fun e hmode hstop he halone => ?_, fun e he hplays => ?_⟩
  · obtain hmode | hmode | ⟨hmode, hstop⟩ := h
    · have ready := ready_of_idle (v := s.view ch) (fires := firesAt s levels) hmode
      exact last_tick_rest (by rw [ready]; exact .inl hmode) (by rw [ready])
    · have ready := ready_of_halted (v := s.view ch) (fires := firesAt s levels) hmode
      exact last_tick_rest (by rw [ready]; exact .inr hmode) (by rw [ready])
    · have ready := ready_stopped (v := s.view ch) (fires := firesAt s levels) hmode hstop
      rw [ChannelView.idled, idleRecord_eq] at ready
      exact last_tick_rest (by rw [ready]; exact .inl rfl) (by rw [ready])
  · rw [last_tick_waiting hmode (opens_false he hgate), ChannelView.waitCode, current_view, he]
    simp only [Option.map_some, Option.some.injEq]
    rfl
  · obtain ⟨underrun, poison, computed⟩ := code_running (levels := levels) hmode hstop he halone
    refine ⟨fun hl => underrun (tickValue_missing hmode he hl), fun l hl => ⟨fun hi => ?_, fun hi here => ?_,
      fun hi elsewhere => ⟨fun hl' => ?_, fun l' hl' => ?_⟩⟩⟩
    · have value := tickValue_nearest hmode he hl hi
      exact ⟨fun hp => poison (by rw [value, if_pos hp]),
        fun hp => computed _ (value.trans (if_neg (by rw [hp]; decide)))⟩
    · have value := tickValue_here hmode he hl hi here
      exact ⟨fun hp => poison (by rw [value, if_pos hp]),
        fun hp => computed _ (value.trans (if_neg (by rw [hp]; decide)))⟩
    · exact underrun (tickValue_next_missing hmode he hl hi elsewhere hl')
    · have value := tickValue_next hmode he hl hi elsewhere hl'
      exact ⟨fun hp => poison (by rw [value, if_pos (by simpa using hp)]),
        fun hp hp' => computed _ (value.trans (if_neg (by rw [hp, hp']; decide)))⟩
  · have hplays : (s.view ch).plays (firesAt s levels) :=
      hplays.imp id fun ⟨hmode, hgate⟩ => ⟨hmode, opens_true he hgate⟩
    obtain ⟨last, clips, underruns, substitutions⟩ := sounded_tick he hplays
    obtain ⟨underrun, ends, within⟩ := episodes_tick he hplays
    have flags := episode_flags_tick hplays
    refine ⟨played_ne_silent he hplays, ?_⟩
    have sum : sumAt levels s ch = fun own => own + (match (look s.channels ch).sumSource with
      | none => 0
      | some m => contribution (played s levels m)) := funext fun own => tickSum_eq _ own _
    rw [sum] at last clips ends within flags
    refine ⟨last, clips, underruns, substitutions, ?_, ends,
      fun hend hjumps => within hend fun hmode j hj htiming => ?_, flags⟩
    · rw [underrun]
      cases played s levels ch <;> simp [TickValue.episode]
    · exact Bool.eq_false_iff.mpr fun hfires => hjumps ⟨hmode, j, hj, htiming, hfires⟩

end Sys2Proof.Machine
end

-- ==== The outcomes of an advance ====
section
/-! SUPPORT. What an advance can come to for a channel (R48, R53 to R58, R62), each outcome by what the tick leaves of the
channel's view: entry into IDLE, an entry begun, and an entry begun under a pending stop. -/

namespace Sys2Proof.Machine

open Sys2Proof

variable {s u : State} {ch : ChanId} {levels : BitVec 8} {v w t : ChannelView} {fires : CondId → Bool} {e : Entry}
  {x : SlotIx} {p : Nat} {jump : Option SlotIx}

/-! ### Up to the prefetcher's request -/

/-- The view `t` is `w` but for the request its prefetcher may have made (R131). -/
structure Follows (w t : ChannelView) : Prop where
  record : t.record = w.record
  tables : t.tables = w.tables
  pattern : t.pattern = w.pattern
  fifo : t.prefetch.fifo = w.prefetch.fifo
  play : t.prefetch.play = w.prefetch.play

/-- The FIFO is flushed (R134). -/
def ChannelView.Flushed (t : ChannelView) : Prop := t.prefetch.play = 0 ∧ t.prefetch.fifo = []

/-- The play position has moved one place from that of `f` (R133). -/
def ChannelView.OnPath (f : Prefetch) (t : ChannelView) : Prop :=
  t.prefetch.play = f.play + 1 ∧ t.prefetch.fifo = f.fifo.filter fun l => f.play + 1 ≤ l.place

theorem Follows.flushed (h : Follows w.flushed t) : t.Flushed := ⟨h.play, h.fifo⟩

theorem follows_tick (levels : BitVec 8) (s : State) (ch : ChanId) :
    ∃ u, u.view ch = handedView levels s ch ∧ segmentLength u = segmentLength s ∧
      Follows ((advance (tickJump levels s) ch u).view ch) ((tick levels s).view ch) := by
  obtain ⟨u, v, q, hu, hlength, rfl, htick, hfifo, hplay, -⟩ := view_tick_advance levels s ch
  exact ⟨u, hu, hlength, by rw [htick], by rw [htick], by rw [htick], by rw [htick, hfifo], by rw [htick, hplay]⟩

/-- A tick that ends a pass (R53). -/
theorem pass_tick (hmode : (handedView levels s ch).record.mode = .running)
    (hwhole : (handedView levels s ch).whole (segmentLength s) ≤ (handedView levels s ch).reached) :
    ∃ u, u.view ch = (handedView levels s ch).passed
        ((handedView levels s ch).reached - (handedView levels s ch).whole (segmentLength s)) ∧
      Follows ((passEndDecision ch ((handedView levels s ch).reached - (handedView levels s ch).whole (segmentLength s))
        (tickJump levels s ch) u).view ch) ((tick levels s).view ch) := by
  obtain ⟨u, hu, hlength, follows⟩ := follows_tick levels s ch
  rw [← hu] at hmode hwhole ⊢
  rw [← hlength] at hwhole ⊢
  rw [advance_pass hmode hwhole] at follows
  exact ⟨_, view_passCounted .., follows⟩

/-- A tick within the pass, at which an IMMEDIATE jump fires (R62). -/
theorem jump_tick (hmode : (handedView levels s ch).record.mode = .running)
    (hwhole : (handedView levels s ch).reached < (handedView levels s ch).whole (segmentLength s))
    (hjump : tickJump levels s ch = some x) :
    ∃ u, u.view ch = (handedView levels s ch).stepped ∧
      Follows ((entryEnd ch (handedView levels s ch).reached (some x) u).view ch) ((tick levels s).view ch) := by
  obtain ⟨u, hu, hlength, follows⟩ := follows_tick levels s ch
  rw [← hu] at hmode hwhole ⊢
  rw [← hlength] at hwhole
  obtain ⟨w, hw, -, hsome⟩ := advance_step (jumps := tickJump levels s) hmode hwhole
  rw [hsome x hjump] at follows
  exact ⟨w, hw, follows⟩

/-! ### Entry into IDLE -/

/-- From `v` to `t` the channel has entered IDLE (R58, R88, R115, R134). -/
structure Idles (v t : ChannelView) : Prop where
  mode : t.record.mode = .idle
  stop : t.record.stop = none
  armed : t.record.armed = none
  commit : t.record.commit = none
  entry : t.record.entry = v.record.entry
  passes : t.record.passes = v.record.passes
  phase : t.record.phase = v.record.phase
  currentStep : t.record.currentStep = v.record.currentStep
  updates : UpdatesApplied v.record t.record
  tables : t.tables = if v.record.commit.isSome then swapped v.tables else v.tables
  pattern : t.pattern = 0#4
  flushed : t.Flushed

theorem idles_of_record (hrecord : t.record = { idleRecord v.record with commit := none })
    (htables : t.tables = v.idled.tables) (hpattern : t.pattern = 0#4) (hflushed : t.Flushed) : Idles v t := by
  rw [idleRecord_eq] at hrecord
  refine ⟨?_, ?_, ?_, ?_, ?_, ?_, ?_, ?_, ?_, htables, hpattern, hflushed⟩ <;> rw [hrecord]
  exact ⟨rfl, rfl, rfl, rfl⟩

theorem Follows.idles (h : Follows v.idled t) : Idles v t :=
  idles_of_record h.record h.tables h.pattern ⟨h.play, h.fifo⟩

/-! ### An entry begun -/

/-- From `v` to `t` entry `x` has been begun at phase `p` with no stop pending (R48). -/
structure Begins (x : SlotIx) (p : Nat) (v t : ChannelView) : Prop where
  begun : Begun t.record (v.entryAt x) x p
  stop : t.record.stop = none
  updates : UpdatesKept v.record t.record
  commit : t.record.commit = v.record.commit
  tables : t.tables = v.tables

/-- The beginning of an entry with no stop pending is a matter of the record alone (R48). -/
theorem begun_parts (hstop : v.record.stop = none) :
    Begun (v.begun x p).record (v.entryAt x) x p ∧ (v.begun x p).record.stop = none ∧
      UpdatesKept v.record (v.begun x p).record ∧ (v.begun x p).record.commit = v.record.commit ∧
      (v.begun x p).tables = v.tables ∧ (v.begun x p).prefetch = v.prefetch := by
  cases hgate : (v.entryAt x).bind Entry.gate with
  | none =>
    rw [begun_ungated hgate]
    refine ⟨⟨rfl, rfl, rfl, rfl, rfl, ?_⟩, hstop, ⟨rfl, rfl, rfl, rfl⟩, rfl, rfl, rfl⟩
    rw [hgate]
    exact ⟨rfl, rfl⟩
  | some k =>
    rw [begun_waiting (by rw [hgate]; rfl) hstop]
    refine ⟨⟨rfl, rfl, rfl, rfl, rfl, ?_⟩, hstop, ⟨rfl, rfl, rfl, rfl⟩, rfl, rfl, rfl⟩
    rw [hgate]
    exact ⟨rfl, rfl⟩

theorem begins_of_record (hstop : v.record.stop = none) (hrecord : t.record = (v.begun x p).record)
    (htables : t.tables = (v.begun x p).tables) : Begins x p v t := by
  obtain ⟨begun, stop, updates, commit, tables, -⟩ := begun_parts (x := x) (p := p) hstop
  rw [← hrecord] at begun stop updates commit
  exact ⟨begun, stop, updates, commit, htables.trans tables⟩

/-- An entry begun off the path (R134). -/
theorem Follows.turned (hstop : v.record.stop = none) (h : Follows ((v.begun x p).flushed) t) :
    Begins x p v t ∧ t.Flushed := ⟨begins_of_record hstop h.record h.tables, h.flushed⟩

/-- An entry begun on the path (R133). -/
theorem Follows.advanced (hstop : v.record.stop = none) (h : Follows (v.moved.begun x p) t) :
    Begins x p v t ∧ t.OnPath v.prefetch := by
  obtain ⟨-, -, -, -, -, prefetch⟩ := begun_parts (v := v.moved) (x := x) (p := p) hstop
  have fifo := h.fifo
  have play := h.play
  rw [prefetch] at fifo play
  have begins : Begins x p v.moved t := begins_of_record hstop h.record h.tables
  exact ⟨{ begins with }, play, fifo⟩

/-- From `v` to `t` entry `x` has been begun at phase 0.0 under a pending stop (R48, R62): it stays pending in an entry
without a gate and sends the channel to IDLE in one with a gate (log entry 23). -/
structure BeginsStopped (x : SlotIx) (v t : ChannelView) : Prop where
  entry : t.record.entry = x
  armed : t.record.armed = none
  phase : t.record.phase = 0
  ungated : (v.entryAt x).bind Entry.gate = none → t.record.mode = .running ∧ t.record.stop = v.record.stop ∧
    UpdatesKept v.record t.record ∧ t.record.commit = v.record.commit ∧ t.tables = v.tables
  gated : ((v.entryAt x).bind Entry.gate).isSome → t.record.mode = .idle ∧ t.record.stop = none ∧
    UpdatesApplied v.record t.record ∧ t.record.commit = none ∧
    t.tables = if v.record.commit.isSome then swapped v.tables else v.tables
  flushed : t.Flushed

theorem Follows.turned_stopped (hstop : v.record.stop.isSome) (h : Follows ((v.begun x 0).flushed) t) :
    BeginsStopped x v t := by
  have flushed := h.flushed
  have record : t.record = (v.begun x 0).record := h.record
  have tables : t.tables = (v.begun x 0).tables := h.tables
  cases hgate : (v.entryAt x).bind Entry.gate with
  | none =>
    rw [begun_ungated hgate] at record tables
    have off : ¬ ((v.entryAt x).bind Entry.gate).isSome = true := by simp [hgate]
    refine ⟨congrArg Channel.entry record, congrArg Channel.armed record, congrArg Channel.phase record,
      fun _ => ?_, fun h => absurd h off, flushed⟩
    rw [record]
    exact ⟨rfl, rfl, ⟨rfl, rfl, rfl, rfl⟩, rfl, tables⟩
  | some k =>
    have gated : ((v.entryAt x).bind Entry.gate).isSome = true := by rw [hgate]; rfl
    have off : ¬ (v.entryAt x).bind Entry.gate = none := by simp [hgate]
    rw [begun_stopped gated hstop] at record tables
    rw [ChannelView.idled, idleRecord_eq] at record
    refine ⟨congrArg Channel.entry record, congrArg Channel.armed record, congrArg Channel.phase record,
      fun h => absurd h off, fun _ => ?_, flushed⟩
    rw [record]
    exact ⟨rfl, rfl, ⟨rfl, rfl, rfl, rfl⟩, rfl, tables⟩

/-! ### The entry end and the table end (R56, R57) -/

section
variable (hu : u.view ch = v)
include hu

theorem entryEnd_idles (hstop : v.record.stop = some .atEntryEnd) (h : Follows ((entryEnd ch p jump u).view ch) t) :
    Idles v t := by
  rw [← hu] at hstop ⊢
  rw [view_entryEnd_stopped hstop] at h
  exact h.idles

theorem entryEnd_commits (hstop : v.record.stop ≠ some .atEntryEnd) (hcommit : v.record.commit = some ⟨.atEntryEnd, x⟩)
    (h : Follows ((entryEnd ch p jump u).view ch) t) : Follows ((v.swappedBanks.begun x 0).flushed) t := by
  rw [← hu] at hstop hcommit ⊢
  rwa [view_entryEnd_commit hstop hcommit] at h

theorem entryEnd_jumps (hstop : v.record.stop ≠ some .atEntryEnd)
    (hcommit : ∀ k ∈ v.record.commit, k.point = .atTableEnd)
    (h : Follows ((entryEnd ch p (some x) u).view ch) t) : Follows ((v.begun x 0).flushed) t := by
  rw [← hu] at hstop hcommit ⊢
  rwa [view_entryEnd_jump hstop hcommit] at h

section
variable (hstop : v.record.stop = none) (h : Follows ((entryEnd ch p none u).view ch) t)
include hstop h

theorem entryEnd_advances (hcommit : ∀ k ∈ v.record.commit, k.point = .atTableEnd)
    (hx : x.val = v.record.entry.val + 1) (hlt : x.val < v.tables.active.count) :
    Follows (v.moved.begun x p) t := by
  rw [← hu] at hstop hcommit hx hlt ⊢
  rwa [view_entryEnd_next (by rw [hstop]; decide) hcommit hx hlt] at h

variable (hlast : v.tables.active.count ≤ v.record.entry.val + 1)
include hlast

theorem tableEnd_commits (hcommit : v.record.commit = some ⟨.atTableEnd, x⟩) :
    Follows ((v.swappedBanks.begun x 0).flushed) t := by
  rw [← hu] at hstop hcommit hlast ⊢
  have later : ∀ k ∈ (u.view ch).record.commit, k.point = .atTableEnd := fun k hk => by
    rw [hcommit] at hk
    rw [← Option.some.inj hk]
  rwa [entryEnd_table (by rw [hstop]; decide) later hlast, view_tableEnd_commit hcommit] at h

theorem tableEnd_loops (hcommit : v.record.commit = none) (hend : v.tables.active.endAction = .loop x) :
    Follows (v.moved.begun x p) t := by
  rw [← hu] at hstop hcommit hlast hend ⊢
  rwa [entryEnd_table (by rw [hstop]; decide) (by simp [hcommit]) hlast, view_tableEnd_loop hcommit hend] at h

theorem tableEnd_idles (hcommit : v.record.commit = none) (hend : v.tables.active.endAction = .stop) : Idles v t := by
  rw [← hu] at hstop hcommit hlast hend ⊢
  rw [entryEnd_table (by rw [hstop]; decide) (by simp [hcommit]) hlast, view_tableEnd_stop hcommit hend] at h
  exact h.idles

end
end

/-! ### The record the outcome begins from -/

/-- A channel RUNNING in the tick, `d`, and what it was before it, `c`: where it stands, and what is pending. -/
structure Seated (phase passes step : Nat) (armed : Option SlotIx) (c d : Channel) : Prop where
  mode : d.mode = .running
  phase : d.phase = phase
  passes : d.passes = passes
  currentStep : d.currentStep = step
  armed : d.armed = armed
  entry : d.entry = c.entry
  stop : d.stop = c.stop
  commit : d.commit = c.commit

/-- What a RUNNING channel is when its code has been handed over. -/
theorem seated_handed {phase : Nat} {armed : Option SlotIx} 
    (hready : (s.view ch).ready (firesAt s levels) = (s.view ch).playing phase armed) :
    Seated phase (look s.channels ch).passes (look s.channels ch).currentStep armed (look s.channels ch)
        (handedView levels s ch).record ∧
      UpdatesKept (look s.channels ch) (handedView levels s ch).record ∧
      (handedView levels s ch).tables = look s.tables ch ∧ (handedView levels s ch).prefetch = look s.prefetch ch ∧
      (handedView levels s ch).current = currentEntry s ch ∧ (handedView levels s ch).pulse = false := by
  have handed := handed_of_view levels s ch
  rw [hready] at handed
  have current := handed.current
  obtain ⟨record, -, -, tables, prefetch, -, pulse, -⟩ := handed
  generalize handedView levels s ch = h at *
  refine ⟨?_, ?_, tables, prefetch, current, pulse⟩
  · constructor <;> rw [record] <;> rfl
  · refine ⟨?_, ?_, ?_, ?_⟩ <;> rw [record] <;> rfl

theorem seated_stepped {passes step : Nat} {armed : Option SlotIx} {c : Channel}
    (h : Seated p passes step armed c v.record) :
    Seated (p + step) passes step armed c v.stepped.record := by
  rw [stepped_eq]
  exact { h with phase := by rw [← h.phase, ← h.currentStep]; rfl }

/-- The current step chosen again at a pass end (R73). -/
def stepThere (e : Entry) (c : Channel) : Nat :=
  match c.pendingRate with
  | none => c.currentStep
  | some r => e.step.getD r

theorem seated_passed {phase carried : Nat} {armed : Option SlotIx} {c : Channel}
    (h : Seated phase c.passes c.currentStep armed c v.record) (hupdates : UpdatesKept c v.record)
    (hcurrent : v.current = some e) :
    Seated carried (min (c.passes + 1) 65535) (stepThere e c) armed c (v.passed carried).record ∧
      UpdatesApplied c (v.passed carried).record := by
  obtain ⟨scale, pendingScale, defaultStep, pendingRate⟩ := hupdates
  rw [ChannelView.passed, passEndRecord_eq]
  refine ⟨{ h with phase := rfl, passes := by rw [← h.passes], currentStep := ?_ }, ?_⟩
  · dsimp only
    rw [pendingRate, h.currentStep, hcurrent, stepThere]
    cases c.pendingRate <;> rfl
  · exact ⟨by rw [← scale, ← pendingScale], rfl, by rw [← defaultStep, ← pendingRate], rfl⟩

/-! ### The flags (R180) -/

/-- The flags of an outcome by the views before and after it. -/
theorem outcomeFlags_of_views (h : ∀ n k, k ≠ 4 → k ≠ 5 → (u.view ch).flags n k = ((s.view ch).flags n k ||
      decide (k = 1) && decide ((u.view ch).record.mode = .idle) ||
      decide (k = 2) && decide ((u.view ch).record.mode = .waiting) ||
      decide (k = 3) && decide ((u.view ch).tables ≠ (s.view ch).tables))) : OutcomeFlags ch s u := by
  intro n
  refine ⟨?_, ?_, ?_⟩
  · simpa [State.view] using h n 1 (by decide) (by decide)
  · simpa [State.view] using h n 2 (by decide) (by decide)
  · simpa [State.view] using h n 3 (by decide) (by decide)

theorem outcomeFlags_plays (hplays : (s.view ch).plays (firesAt s levels)) : OutcomeFlags ch s (tick levels s) := by
  have handed := handed_of_view levels s ch
  obtain ⟨mode, -⟩ := handed_plays hplays
  obtain ⟨phase, armed, hready⟩ := ready_plays hplays
  obtain ⟨-, flags⟩ := (advanced_tick levels s ch).running mode
  rw [hready] at handed
  rw [handed.tables] at flags
  exact outcomeFlags_of_views fun n k h4 h5 => by rw [flags, handed.flags n k h4 h5]

end Sys2Proof.Machine
end

-- ==== Pass ends ====
section
/-! SUPPORT. The decision at a pass end (R53 to R57, R62, R63): the jump it sees, whether the entry ends, and what follows
then. -/

namespace Sys2Proof.Machine

open Sys2Proof

variable {s u : State} {ch : ChanId} {levels : BitVec 8} {v w t : ChannelView} {fires : CondId → Bool} {e : Entry}
  {x : SlotIx} {p : Nat} {jump armed : Option SlotIx} {c : Channel}

/-! ### The jump at a pass end -/

/-- The jump armed when the decision is made: one that fires at the tick, or else the one armed before (R62, R63). -/
def armedAt (fires : CondId → Bool) (e : Entry) (before : Option SlotIx) : Option SlotIx :=
  match e.jump with
  | none => before
  | some j => if fires j.cond then some j.target else before

theorem view_firedJump_of_no_jump (he : v.current = some e) (h : e.jump = none) : v.firedJump fires = none := by
  rw [ChannelView.firedJump, he, Option.bind_some, h]
  rfl

theorem view_firedJump_of_jump {j : Jump} (he : v.current = some e) (h : e.jump = some j) :
    v.firedJump fires = if fires j.cond then some j else none := by
  rw [ChannelView.firedJump, he, Option.bind_some, h, Option.filter_some]

/-- An IMMEDIATE jump's firing stands in for the armed jump; an AT_PASS_END one's arms it. -/
theorem armedAt_cases (he : v.current = some e) :
    (∃ x, v.jumpTo .immediate fires = some x ∧ armedAt fires e v.record.armed = some x) ∨
    (v.jumpTo .immediate fires = none ∧
      armedAt fires e v.record.armed = (v.jumpTo .atPassEnd fires).or v.record.armed) := by
  unfold armedAt
  cases hj : e.jump with
  | none =>
    have none := view_firedJump_of_no_jump (fires := fires) he hj
    exact .inr ⟨jumpTo_of_none none, by rw [jumpTo_of_none none]; rfl⟩
  | some j =>
    have fired := view_firedJump_of_jump (fires := fires) he hj
    dsimp only
    cases hf : fires j.cond with
    | false =>
      rw [hf, if_neg Bool.false_ne_true] at fired
      exact .inr ⟨jumpTo_of_none fired, by rw [jumpTo_of_none fired]; rfl⟩
    | true =>
      rw [hf, if_pos rfl] at fired
      rw [jumpTo_of_fired fired, jumpTo_of_fired fired]
      cases j.timing
      · exact .inl ⟨j.target, rfl, rfl⟩
      · exact .inr ⟨rfl, rfl⟩

/-! ### Does the entry end? -/

theorem commitAt_isSome {c : Channel} {point : CommitPoint} :
    (commitAt c point).isSome = true ↔ ∃ target, c.commit = some ⟨point, target⟩ := by
  constructor
  · intro h
    unfold commitAt at h
    split at h
    · exact absurd h (by decide)
    · next k hk =>
      split at h
      · next hp => exact ⟨k.target, by rw [hk, ← hp]⟩
      · exact absurd h (by decide)
  · rintro ⟨target, h⟩
    rw [commitAt_hit h]
    rfl

/-- What ends an entry at a pass end, with so many passes done, `armed` the jump, and the pending stop and commit of `c`
(R54 step 2). -/
def EndsHere (e : Entry) (passes : Nat) (armed : Option SlotIx) (c : Channel) : Prop :=
  (e.repeats ≠ 0 ∧ passes = e.repeats) ∨ armed.isSome ∨
    (e.repeats = 0 ∧ (c.stop = some .atEntryEnd ∨ ∃ target, c.commit = some ⟨.atEntryEnd, target⟩))

theorem entryEndsHere_iff (c : Channel) :
    entryEndsHere (some e) c = true ↔ EndsHere e c.passes c.armed c := by
  simp [entryEndsHere, EndsHere, ← commitAt_isSome, or_assoc]

section
variable (hjump : (∃ x, jump = some x ∧ armed = some x) ∨ (jump = none ∧ armed = (u.view ch).record.armed))
  (hcurrent : (u.view ch).current = some e) (hstop : (u.view ch).record.stop ≠ some .atPassEnd)
include hjump hcurrent hstop

theorem decision_of_ends (h : EndsHere e (u.view ch).record.passes armed (u.view ch).record) :
    passEndDecision ch p jump u = entryEnd ch p armed u := by
  obtain ⟨x, rfl, rfl⟩ | ⟨rfl, rfl⟩ := hjump
  · exact decision_jump hstop
  · exact decision_ends hstop (by rw [hcurrent]; exact (entryEndsHere_iff _).mpr h)

theorem view_decision_of_not_ends (h : ¬ EndsHere e (u.view ch).record.passes armed (u.view ch).record) :
    (u.view ch).record.armed = none ∧ (passEndDecision ch p jump u).view ch = (u.view ch).moved := by
  obtain ⟨x, rfl, rfl⟩ | ⟨rfl, rfl⟩ := hjump
  · exact absurd (.inr (.inl rfl)) h
  · refine ⟨Option.not_isSome_iff_eq_none.mp fun ha => h (.inr (.inl ha)), view_decision_goes_on hstop ?_⟩
    rw [hcurrent]
    exact Bool.eq_false_iff.mpr fun ends => h ((entryEndsHere_iff _).mp ends)

end

/-! ### The pass end of a RUNNING channel -/

theorem passed_current (v : ChannelView) : (v.passed p).current = v.current := by
  rw [ChannelView.passed, passEndRecord_eq]
  rfl

section
variable (hmode : (s.view ch).record.mode = .running) (hstop : (s.view ch).record.stop ≠ some .immediate)
  (he : (s.view ch).current = some e)
include hmode hstop

/-- A RUNNING channel in the tick (R63). -/
theorem seated_running :
    Seated (look s.channels ch).phase (look s.channels ch).passes (look s.channels ch).currentStep
        (((s.view ch).jumpTo .atPassEnd (firesAt s levels)).or (look s.channels ch).armed) (look s.channels ch)
        (handedView levels s ch).record ∧
      UpdatesKept (look s.channels ch) (handedView levels s ch).record ∧
      (handedView levels s ch).tables = look s.tables ch ∧ (handedView levels s ch).prefetch = look s.prefetch ch ∧
      (handedView levels s ch).current = currentEntry s ch ∧ (handedView levels s ch).pulse = false :=
  seated_handed (ready_playing hmode hstop)

include he

theorem whole_running :
    (handedView levels s ch).whole (segmentLength s) = segmentLength s e.segment * 16777216 ∧
      (handedView levels s ch).reached = (look s.channels ch).phase + (look s.channels ch).currentStep := by
  obtain ⟨seated, -, -, -, current, -⟩ := seated_running (levels := levels) hmode hstop
  have entry : (handedView levels s ch).current = some e := current.trans he
  refine ⟨?_, ?_⟩
  · rw [ChannelView.whole, entry]
    rfl
  · rw [ChannelView.reached, seated.phase, seated.currentStep]

/-- The tick that ends the pass, from the pass counted (R53). -/
theorem passEnd_tick (hwhole : segmentLength s e.segment * 16777216 ≤
      (look s.channels ch).phase + (look s.channels ch).currentStep) :
    ∃ (u : State) (carried : Nat),
      carried = (look s.channels ch).phase + (look s.channels ch).currentStep - segmentLength s e.segment * 16777216 ∧
      Seated carried (min ((look s.channels ch).passes + 1) 65535) (stepThere e (look s.channels ch))
        (((s.view ch).jumpTo .atPassEnd (firesAt s levels)).or (look s.channels ch).armed) (look s.channels ch)
        (u.view ch).record ∧
      UpdatesApplied (look s.channels ch) (u.view ch).record ∧
      (u.view ch).tables = look s.tables ch ∧ (u.view ch).prefetch = look s.prefetch ch ∧
      (u.view ch).current = some e ∧
      Follows ((passEndDecision ch carried ((s.view ch).jumpTo .immediate (firesAt s levels)) u).view ch)
        ((tick levels s).view ch) := by
  obtain ⟨seated, updates, tables, prefetch, current, -⟩ := seated_running (levels := levels) hmode hstop
  obtain ⟨whole, reached⟩ := whole_running (levels := levels) hmode hstop he
  have entry : (handedView levels s ch).current = some e := current.trans he
  obtain ⟨u, hu, follows⟩ := pass_tick seated.mode (by rw [whole, reached]; exact hwhole)
  obtain ⟨seated, updates⟩ := seated_passed (carried := (handedView levels s ch).reached -
    (handedView levels s ch).whole (segmentLength s)) seated updates entry
  rw [← hu] at seated updates
  refine ⟨u, _, by rw [whole, reached], seated, updates, ?_, ?_, ?_, ?_⟩
  · rw [hu, ← tables]
    rfl
  · rw [hu, ← prefetch]
    rfl
  · rw [hu, passed_current, entry]
  · rw [← tickJump_running hmode hstop]
    exact follows

/-- The pulse and the pending updates of the tick that ends the pass (R53, R88, R94). -/
theorem passEnd_common (hwhole : segmentLength s e.segment * 16777216 ≤
      (look s.channels ch).phase + (look s.channels ch).currentStep) :
    (tick levels s).trigger.pulses.getLsbD ch.val = true ∧
      UpdatesApplied (look s.channels ch) ((tick levels s).view ch).record := by
  obtain ⟨seated, updates, -, -, current, pulse⟩ := seated_running (levels := levels) hmode hstop
  obtain ⟨whole, reached⟩ := whole_running (levels := levels) hmode hstop he
  rw [← whole, ← reached] at hwhole
  have advanced := advanced_tick levels s ch
  refine ⟨(advanced.passEnd seated.mode pulse).1.mpr hwhole, ?_⟩
  obtain ⟨off, -⟩ | ⟨-, -, outcome⟩ | ⟨-, off, -⟩ := advanced
  · exact absurd seated.mode off
  · obtain ⟨-, scale, pendingScale, defaultStep, pendingRate⟩ := seated_passed seated updates (current.trans he)
    obtain ⟨scale', pendingScale', defaultStep', pendingRate'⟩ := outcome.updates pendingScale pendingRate
    exact ⟨scale'.trans scale, pendingScale', defaultStep'.trans defaultStep, pendingRate'⟩
  · exact absurd hwhole (Nat.not_le.mpr off)

end

/-! ### The statement's clauses -/

/-- The banks and the commit of `t` after an entry into IDLE with the pending commit of `c` (R58). -/
def IdleBanks (c : Channel) (banks : Tables) (t : ChannelView) : Prop :=
  if c.commit.isSome then t.tables = swapped banks ∧ t.record.commit = none
  else t.tables = banks ∧ t.record.commit = c.commit

theorem idleBanks_of {banks : Tables} (hcommit : v.record.commit = c.commit) (htables : v.tables = banks)
    (hnone : t.record.commit = none)
    (h : t.tables = if v.record.commit.isSome then swapped v.tables else v.tables) : IdleBanks c banks t := by
  rw [hcommit, htables] at h
  unfold IdleBanks
  split
  · next hc => exact ⟨by rw [h, if_pos hc], hnone⟩
  · next hc => exact ⟨by rw [h, if_neg hc], by rw [hnone, Option.not_isSome_iff_eq_none.mp hc]⟩

/-- Entry into IDLE from a channel seated in the tick. -/
theorem Idles.stated {banks : Tables} {phase passes step : Nat} (h : Idles v t)
    (seated : Seated phase passes step armed c v.record) (htables : v.tables = banks) :
    t.record.mode = .idle ∧ t.record.stop = none ∧ t.record.armed = none ∧ t.record.currentStep = step ∧
      t.record.phase = phase ∧ t.record.entry = c.entry ∧ t.record.passes = passes ∧ t.Flushed ∧
      IdleBanks c banks t :=
  ⟨h.mode, h.stop, h.armed, h.currentStep.trans seated.currentStep, h.phase.trans seated.phase,
    h.entry.trans seated.entry, h.passes.trans seated.passes, h.flushed,
    idleBanks_of seated.commit htables h.commit h.tables⟩

section
variable {banks : Tables} {f : Prefetch} {phase passes step : Nat}
  (seated : Seated phase passes step armed c v.record) (hstop : v.record.stop = none) (htables : v.tables = banks)
include hstop htables

/-- A commit taken: an entry of the STAGED bank begun (R37, R56, R57). -/
theorem Follows.commits (h : Follows ((v.swappedBanks.begun x 0).flushed) t) :
    Begun t.record (look banks.staged.slots x) x 0 ∧ (t.tables = swapped banks ∧ t.record.commit = none) ∧
      t.Flushed := by
  have unstopped : v.swappedBanks.record.stop = none := hstop
  obtain ⟨begins, flushed⟩ := h.turned unstopped
  rw [← htables]
  exact ⟨begins.begun, ⟨begins.tables, begins.commit⟩, flushed⟩

include seated

/-- A jump taken (R56, R62). -/
theorem Follows.jumps (h : Follows ((v.begun x 0).flushed) t) :
    Begun t.record (look banks.active.slots x) x 0 ∧ (t.tables = banks ∧ t.record.commit = c.commit) ∧ t.Flushed := by
  obtain ⟨begins, flushed⟩ := h.turned hstop
  rw [← htables, ← seated.commit]
  exact ⟨begins.begun, ⟨begins.tables, begins.commit⟩, flushed⟩

/-- The next entry or the loop index begun at the carried phase (R56, R57, R133). -/
theorem Follows.advances (hprefetch : v.prefetch = f) (h : Follows (v.moved.begun x p) t) :
    Begun t.record (look banks.active.slots x) x p ∧ (t.tables = banks ∧ t.record.commit = c.commit) ∧ t.OnPath f := by
  obtain ⟨begins, path⟩ := h.advanced hstop
  rw [← htables, ← seated.commit, ← hprefetch]
  exact ⟨begins.begun, ⟨begins.tables, begins.commit⟩, path⟩

end

/-- The entry goes on (R55). -/
theorem Follows.goes_on {banks : Tables} {f : Prefetch} {phase passes step : Nat} (h : Follows v.moved t)
    (seated : Seated phase passes step armed c v.record) (harmed : v.record.armed = none) (htables : v.tables = banks)
    (hprefetch : v.prefetch = f) :
    t.record.mode = .running ∧ t.record.phase = phase ∧ t.record.passes = passes ∧ t.record.entry = c.entry ∧
      t.record.stop = c.stop ∧ t.record.armed = none ∧ t.record.currentStep = step ∧
      (t.tables = banks ∧ t.record.commit = c.commit) ∧ t.OnPath f := by
  have record : t.record = v.record := h.record
  rw [record, h.tables, ← hprefetch]
  exact ⟨seated.mode, seated.phase, seated.passes, seated.entry, seated.stop, harmed, seated.currentStep,
    ⟨htables, seated.commit⟩, h.play, h.fifo⟩

/-- With no stop pending an entry end leaves none. -/
theorem stop_entryEnd (h : (u.view ch).record.stop = none) :
    ((entryEnd ch p jump u).view ch).record.stop = none := by
  have begun : ∀ (x : SlotIx) (q : Nat) (v : ChannelView), v.record.stop = none → (v.begun x q).record.stop = none :=
    fun x q v hv => (begun_parts hv).2.1
  have idled : ∀ v : ChannelView, v.idled.record.stop = none := fun v => by rw [ChannelView.idled, idleRecord_eq]
  have tables : ((tableEnd ch p u).view ch).record.stop = none := by
    unfold tableEnd
    split
    · rw [view_takeCommit]
      exact begun _ _ _ h
    · split
      · rw [view_advanceTo]
        exact begun _ _ _ h
      · rw [view_enterIdle]
        exact idled _
  unfold entryEnd
  dsimp only
  split
  · rw [view_enterIdle]
    exact idled _
  · split
    · rw [view_takeCommit]
      exact begun _ _ _ h
    · split
      · rw [view_turnTo]
        exact begun _ _ _ h
      · split
        · rw [view_advanceTo]
          exact begun _ _ _ h
        · exact tables

/-- Settles O44: the decision by the pending stop, by what ends the entry, and by the first of R56's steps. -/
theorem passEndsDecideWhatFollows : Obligations.PassEndsDecideWhatFollows := by
  unfold Obligations.PassEndsDecideWhatFollows
  rintro levels ch e s t ht he
  obtain rfl : tick levels s = t := Host.Outcome.next.inj ht
  dsimp only
  intro hmode hstop hwhole
  obtain ⟨pulse, updates⟩ := passEnd_common (levels := levels) hmode hstop he hwhole
  obtain ⟨u, carried, hcarried, seated, -, tables, prefetch, current, follows⟩ :=
    passEnd_tick (levels := levels) hmode hstop he hwhole
  have flags := outcomeFlags_plays (s := s) (ch := ch) (levels := levels) (.inl ⟨hmode, hstop⟩)
  rw [← hcarried]
  clear ht
  generalize tick levels s = t at *
  refine ⟨pulse, updates, flags, fun hend => ?_, fun hpass => ?_⟩
  · rw [view_decision_stopped (seated.stop.trans hend)] at follows
    exact follows.idles.stated seated tables
  have jump := armedAt_cases (v := s.view ch) (fires := firesAt s levels) he
  have same : (s.view ch).record.armed = (look s.channels ch).armed := rfl
  rw [same, ← seated.armed] at jump
  have pending : (u.view ch).record.stop ≠ some .atPassEnd := by rwa [seated.stop]
  have decided := decision_of_ends (p := carried) jump current pending
  have endsHere : EndsHere e (u.view ch).record.passes (armedAt (firesAt s levels) e (look s.channels ch).armed)
      (u.view ch).record = EndsHere e (min ((look s.channels ch).passes + 1) 65535)
        (armedAt (firesAt s levels) e (look s.channels ch).armed) (look s.channels ch) := by
    rw [EndsHere, EndsHere, seated.passes, seated.stop, seated.commit]
  rw [endsHere] at decided
  refine ⟨fun hgoes => ?_, fun hends hend => ?_, fun hends hnone => ?_⟩
  · obtain ⟨none, view⟩ := view_decision_of_not_ends (p := carried) jump current pending (by rw [endsHere]; exact hgoes)
    rw [view] at follows
    exact follows.goes_on seated none tables prefetch
  · rw [decided hends] at follows
    exact (entryEnd_idles rfl (seated.stop.trans hend) follows).stated seated tables
  rw [decided hends] at follows
  have stop : (u.view ch).record.stop = none := seated.stop.trans hnone
  have notEnd : (u.view ch).record.stop ≠ some .atEntryEnd := by rw [stop]; decide
  refine ⟨?_, fun target hcommit => ?_, fun hlater => ⟨fun target harmed => ?_, fun harmed => ⟨fun next hnext hlt => ?_,
    fun hlast => ⟨fun target hcommit => ?_, fun hcommit => ⟨fun x hloop => ?_, fun hstays => ?_⟩⟩⟩⟩⟩
  · exact (congrArg Channel.stop follows.record).trans (stop_entryEnd stop)
  · exact (entryEnd_commits rfl notEnd (seated.commit.trans hcommit) follows).commits stop tables
  all_goals have later : ∀ k ∈ (u.view ch).record.commit, k.point = .atTableEnd := by rwa [seated.commit]
  · rw [show armedAt (firesAt s levels) e (look s.channels ch).armed = some target from harmed] at follows
    exact (entryEnd_jumps rfl notEnd later follows).jumps seated stop tables
  all_goals rw [show armedAt (firesAt s levels) e (look s.channels ch).armed = none from harmed] at follows
  · exact (entryEnd_advances rfl stop follows later (by rw [hnext, seated.entry]) (by rwa [tables])).advances seated
      stop tables prefetch
  all_goals
    have last : (u.view ch).tables.active.count ≤ (u.view ch).record.entry.val + 1 := by rwa [tables, seated.entry]
  · exact (tableEnd_commits rfl stop follows last (seated.commit.trans hcommit)).commits stop tables
  · exact (tableEnd_loops rfl stop follows last (seated.commit.trans hcommit) (by rwa [tables])).advances seated stop
      tables prefetch
  · exact (tableEnd_idles rfl stop follows last (seated.commit.trans hcommit) (by rwa [tables])).stated seated tables

end Sys2Proof.Machine
end

-- ==== Ticks within a pass ====
section
/-! SUPPORT. A tick that ends no pass: the step (R74, R133), a gate's release (R60), a wait, an IMMEDIATE jump (R62) and a
stop IMMEDIATE (R52). -/

namespace Sys2Proof.Machine

open Sys2Proof

variable {s u : State} {ch : ChanId} {levels : BitVec 8} {v w t : ChannelView} {fires : CondId → Bool} {e : Entry}
  {x : SlotIx} {p phase passes step : Nat} {armed : Option SlotIx} {b c d : Channel}

/-! ### A step within the pass -/

/-- From `f` to `g` the play position has followed the phase: it moves where the phase enters the next line (R133). -/
def Moves (before after : Nat) (f g : Prefetch) : Prop :=
  if before / 67108864 = after / 67108864 then g.play = f.play ∧ g.fifo = f.fifo
  else g.play = f.play + 1 ∧ g.fifo = f.fifo.filter fun l => f.play + 1 ≤ l.place

theorem phaseLine_eq (p : Nat) : phaseLine p = p / 67108864 := Nat.div_div_eq_div_mul ..

theorem moves_stepped {q : Prefetch} (hfifo : q.fifo = v.stepped.prefetch.fifo)
    (hplay : q.play = v.stepped.prefetch.play) :
    Moves v.record.phase v.reached v.prefetch q := by
  rw [stepped_eq] at hfifo hplay
  unfold Moves
  rw [← phaseLine_eq, ← phaseLine_eq]
  by_cases hline : phaseLine v.record.phase = phaseLine v.reached
  · rw [if_pos hline] at hfifo hplay ⊢
    exact ⟨hplay, hfifo⟩
  · rw [if_neg hline] at hfifo hplay ⊢
    exact ⟨hplay, hfifo⟩

theorem updatesKept_trans (h : UpdatesKept b c) (g : UpdatesKept c d) : UpdatesKept b d := by
  obtain ⟨scale, pendingScale, defaultStep, pendingRate⟩ := h
  obtain ⟨scale', pendingScale', defaultStep', pendingRate'⟩ := g
  exact ⟨scale'.trans scale, pendingScale'.trans pendingScale, defaultStep'.trans defaultStep,
    pendingRate'.trans pendingRate⟩

theorem updatesApplied_of_kept (h : UpdatesKept b c) (g : UpdatesApplied c d) : UpdatesApplied b d := by
  obtain ⟨scale, pendingScale, defaultStep, pendingRate⟩ := h
  obtain ⟨scale', pendingScale', defaultStep', pendingRate'⟩ := g
  rw [scale, pendingScale] at scale'
  rw [defaultStep, pendingRate] at defaultStep'
  exact ⟨scale', pendingScale', defaultStep', pendingRate'⟩

theorem updatesKept_stepped (v : ChannelView) : UpdatesKept v.record v.stepped.record := by
  rw [stepped_eq]
  exact ⟨rfl, rfl, rfl, rfl⟩

/-- The tick of a channel that stays within its pass and in its entry. -/
theorem within_tick (hready : (s.view ch).ready (firesAt s levels) = (s.view ch).playing phase armed)
    (he : currentEntry s ch = some e)
    (hwhole : phase + (look s.channels ch).currentStep < segmentLength s e.segment * 16777216)
    (hjump : tickJump levels s ch = none) :
    Seated (phase + (look s.channels ch).currentStep) (look s.channels ch).passes (look s.channels ch).currentStep armed
        (look s.channels ch) ((tick levels s).view ch).record ∧
      UpdatesKept (look s.channels ch) ((tick levels s).view ch).record ∧
      ((tick levels s).view ch).tables = look s.tables ch ∧
      Moves phase (phase + (look s.channels ch).currentStep) (look s.prefetch ch)
        ((tick levels s).view ch).prefetch := by
  obtain ⟨seated, updates, tables, prefetch, current, -⟩ := seated_handed hready
  have reached : (handedView levels s ch).reached = phase + (look s.channels ch).currentStep := by
    rw [ChannelView.reached, seated.phase, seated.currentStep]
  have whole : (handedView levels s ch).whole (segmentLength s) = segmentLength s e.segment * 16777216 := by
    rw [ChannelView.whole, current, he]
    rfl
  obtain ⟨q, view, hfifo, hplay⟩ := step_tick seated.mode (by rw [whole, reached]; exact hwhole) hjump
  have moves := moves_stepped hfifo hplay
  rw [seated.phase, reached, prefetch] at moves
  rw [view]
  exact ⟨seated_stepped seated, updatesKept_trans updates (updatesKept_stepped _), (stepped_tables _).trans tables,
    moves⟩

/-! ### A wait -/

theorem handed_waiting {value : TickValue} {sum : Int → Int} (h : v.record.mode = .waiting) :
    v.handed value sum = { v with record := handCode v.waitCode v.record } := by
  unfold ChannelView.handed
  rw [h]

/-- A WAITING channel whose gate does not fire hands over its code and stays as it was (R60, R81). -/
theorem waiting_tick (hmode : (s.view ch).record.mode = .waiting)
    (hgate : (s.view ch).opens (firesAt s levels) = false) :
    ∃ q : Prefetch, (tick levels s).view ch = { s.view ch with
        pulse := false, record := handCode (s.view ch).waitCode (s.view ch).record, prefetch := q } ∧
      q.fifo = (look s.prefetch ch).fifo ∧ q.play = (look s.prefetch ch).play := by
  have handed : handedView levels s ch = { s.view ch with
      pulse := false, record := handCode (s.view ch).waitCode (s.view ch).record } := by
    unfold handedView
    rw [ready_closed hmode hgate, handed_waiting (v := { s.view ch with pulse := false }) hmode, ChannelView.shown]
    have waits : (handCode (s.view ch).waitCode (s.view ch).record).mode ≠ .running := by
      rw [show (handCode (s.view ch).waitCode (s.view ch).record).mode = .waiting from hmode]
      decide
    exact congrArg (fun b => ({ s.view ch with
      pulse := false
      record := handCode (s.view ch).waitCode (s.view ch).record
      pattern := b } : ChannelView)) (if_neg waits)
  have advanced := advanced_tick levels s ch
  rw [handed] at advanced
  obtain ⟨-, q, view, hfifo, hplay, -⟩ | ⟨hrun, -⟩ | ⟨hrun, -⟩ := advanced
  · exact ⟨q, view, hfifo, hplay⟩
  · exact absurd (hmode.symm.trans hrun) (by decide)
  · exact absurd (hmode.symm.trans hrun) (by decide)

/-! ### A stop IMMEDIATE -/

/-- A stop IMMEDIATE is the channel's entry into IDLE (R52, R58). -/
theorem stopped_tick (hmode : (s.view ch).record.mode = .running) (hstop : (s.view ch).record.stop = some .immediate) :
    Idles (s.view ch) ((tick levels s).view ch) ∧ OutcomeFlags ch s (tick levels s) := by
  have handed := handed_of_view levels s ch
  obtain ⟨mode, pattern⟩ := handed_stopped (levels := levels) hmode hstop
  rw [ready_stopped hmode hstop] at handed
  have rest := (advanced_tick levels s ch).rest (.inl mode)
  have outcome := Outcome.idled { s.view ch with pulse := false }
  refine ⟨?_, outcomeFlags_of_views fun n k h4 h5 => ?_⟩
  · rw [rest]
    have prefetch := handed.prefetch
    have record := handed.record
    rw [ChannelView.idled, idleRecord_eq] at record
    generalize handedView levels s ch = h at *
    constructor
    case mode => exact mode
    case tables => exact handed.tables
    case pattern => exact pattern
    case flushed => exact ⟨congrArg Prefetch.play prefetch, congrArg Prefetch.fifo prefetch⟩
    case updates => refine ⟨?_, ?_, ?_, ?_⟩ <;> rw [record]
    all_goals rw [record]
  · rw [rest, handed.flags n k h4 h5, outcome.flags, handed.mode, handed.tables]

end Sys2Proof.Machine
end

-- ==== Jumps within a pass ====
section
/-! SUPPORT. An IMMEDIATE jump that ends the entry within a pass (R62), by the pending stop and the pending commit (R56; log
entry 23), and with it the ticks that end no pass. -/

namespace Sys2Proof.Machine

open Sys2Proof

variable {s u : State} {ch : ChanId} {levels : BitVec 8} {v w t : ChannelView} {fires : CondId → Bool} {e : Entry}
  {j : Jump} {x target : SlotIx} {p phase passes step : Nat} {armed : Option SlotIx} {c d : Channel} {banks : Tables}

/-- The beginning of an entry begins with its first pass, whatever follows. -/
theorem begun_passes (x : SlotIx) (p : Nat) (v : ChannelView) : (v.begun x p).record.passes = 0 := by
  unfold ChannelView.begun
  dsimp only
  split
  · rfl
  · split
    · rw [ChannelView.idled, idleRecord_eq]
      rfl
    · rfl

/-- From `v` to `t` the channel has turned to a commit's target, or else to the jump's target (R56). -/
def Turns (target : SlotIx) (v t : ChannelView) : Prop :=
  (∃ x, v.record.commit = some ⟨.atEntryEnd, x⟩ ∧ Follows ((v.swappedBanks.begun x 0).flushed) t) ∨
    ((∀ k ∈ v.record.commit, k.point = .atTableEnd) ∧ Follows ((v.begun target 0).flushed) t)

/-- Where an entry end with a jump leads while no stop AT_ENTRY_END is pending (R56). -/
theorem entryEnd_turns (hu : u.view ch = v) (hstop : v.record.stop ≠ some .atEntryEnd)
    (h : Follows ((entryEnd ch p (some target) u).view ch) t) : Turns target v t := by
  by_cases hcommit : ∃ x, v.record.commit = some ⟨.atEntryEnd, x⟩
  · obtain ⟨x, hx⟩ := hcommit
    exact .inl ⟨x, hx, entryEnd_commits hu hstop hx h⟩
  · have later : ∀ k ∈ v.record.commit, k.point = .atTableEnd := fun k hk => by
      obtain ⟨point, x⟩ := k
      cases point with
      | atEntryEnd => exact absurd ⟨x, hk⟩ hcommit
      | atTableEnd => rfl
    exact .inr ⟨later, entryEnd_jumps hu hstop later h⟩

/-! ### Under a pending stop AT_PASS_END -/

/-- Where an entry end turns to under a stop AT_PASS_END with jump target `target`: the entry's index, the entry, and
the banks and the commit it leaves in an entry without a gate. -/
def turnIndex (commit : Option Commit) (target : SlotIx) : SlotIx :=
  match commit with
  | some ⟨.atEntryEnd, x⟩ => x
  | _ => target

def turnEntry (commit : Option Commit) (banks : Tables) (target : SlotIx) : Option Entry :=
  match commit with
  | some ⟨.atEntryEnd, x⟩ => look banks.staged.slots x
  | _ => look banks.active.slots target

def TurnBanks (commit : Option Commit) (swaps kept : Prop) : Prop :=
  match commit with
  | some ⟨.atEntryEnd, _⟩ => swaps
  | _ => kept

theorem turn_later {commit : Option Commit} {swaps kept : Prop} (h : ∀ k ∈ commit, k.point = .atTableEnd) :
    turnIndex commit target = target ∧ turnEntry commit banks target = look banks.active.slots target ∧
      TurnBanks commit swaps kept = kept := by
  cases commit with
  | none => exact ⟨rfl, rfl, rfl⟩
  | some k =>
    obtain ⟨point, x⟩ := k
    obtain rfl : point = .atTableEnd := h _ rfl
    exact ⟨rfl, rfl, rfl⟩

theorem BeginsStopped.stated (turned : BeginsStopped x v t) (hstop : v.record.stop = some .atPassEnd)
    (hupdates : UpdatesKept c v.record) (hbanks : t.record.commit = none →
      t.tables = (if v.record.commit.isSome then swapped v.tables else v.tables) → IdleBanks c banks t) :
    t.record.entry = x ∧ t.record.armed = none ∧ t.record.phase = 0 ∧
      ((v.entryAt x).bind Entry.gate = none → t.record.mode = .running ∧ t.record.stop = some .atPassEnd ∧
        UpdatesKept c t.record ∧ t.tables = v.tables ∧ t.record.commit = v.record.commit) ∧
      (((v.entryAt x).bind Entry.gate).isSome → t.record.mode = .idle ∧ t.record.stop = none ∧
        t.record.armed = none ∧ t.Flushed ∧ UpdatesApplied c t.record ∧ IdleBanks c banks t) := by
  refine ⟨turned.entry, turned.armed, turned.phase, fun hgate => ?_, fun hgate => ?_⟩
  · obtain ⟨mode, stop, updates, commit, tables⟩ := turned.ungated hgate
    exact ⟨mode, stop.trans hstop, updatesKept_trans hupdates updates, tables, commit⟩
  · obtain ⟨mode, stop, updates, commit, tables⟩ := turned.gated hgate
    exact ⟨mode, stop, turned.armed, turned.flushed, updatesApplied_of_kept hupdates updates, hbanks commit tables⟩

theorem turned_stopped_stated (seated : Seated phase passes step armed c v.record) (hstop : c.stop = some .atPassEnd)
    (htables : v.tables = banks) (hupdates : UpdatesKept c v.record)
    (h : Turns target v t) :
    t.record.entry = turnIndex c.commit target ∧ t.record.armed = none ∧ t.record.phase = 0 ∧
      ((turnEntry c.commit banks target).bind Entry.gate = none → t.record.mode = .running ∧
        t.record.stop = some .atPassEnd ∧ UpdatesKept c t.record ∧
        TurnBanks c.commit (t.tables = swapped banks ∧ t.record.commit = none)
          (t.tables = banks ∧ t.record.commit = c.commit)) ∧
      (((turnEntry c.commit banks target).bind Entry.gate).isSome → t.record.mode = .idle ∧ t.record.stop = none ∧
        t.record.armed = none ∧ t.Flushed ∧ UpdatesApplied c t.record ∧ IdleBanks c banks t) := by
  have stop : v.record.stop = some .atPassEnd := seated.stop.trans hstop
  rw [Turns, seated.commit] at h
  obtain ⟨x, hx, follows⟩ | ⟨hlater, follows⟩ := h
  · have pending : v.swappedBanks.record.stop = some .atPassEnd := stop
    have turned := follows.turned_stopped (by rw [pending]; rfl)
    have stated := turned.stated (c := c) (banks := banks) pending hupdates fun none tables => by
      rw [IdleBanks, hx, ← htables]
      exact ⟨tables, none⟩
    rw [hx, ← htables]
    rw [← htables] at stated
    exact stated
  · obtain ⟨index, entry, kept⟩ := turn_later (target := target) (banks := banks)
      (swaps := t.tables = swapped banks ∧ t.record.commit = none)
      (kept := t.tables = banks ∧ t.record.commit = c.commit) hlater
    have stated := (follows.turned_stopped (by rw [stop]; rfl)).stated stop hupdates
      (idleBanks_of seated.commit htables)
    rw [seated.commit, ChannelView.entryAt, htables] at stated
    rw [index, entry, kept]
    exact stated

/-! ### The tick of an IMMEDIATE jump -/

theorem jumpTo_immediate (he : v.current = some e) (hj : e.jump = some j) (htiming : j.timing = .immediate)
    (hfires : fires j.cond = true) : v.jumpTo .immediate fires = some j.target := by
  have fired := view_firedJump_of_jump (fires := fires) he hj
  rw [hfires, if_pos rfl] at fired
  rw [jumpTo_of_fired fired, if_pos htiming]

/-- From the step done to the outcome of the jump. -/
theorem jumped_tick (hmode : (s.view ch).record.mode = .running) (hstop : (s.view ch).record.stop ≠ some .immediate)
    (he : (s.view ch).current = some e)
    (hwhole : (look s.channels ch).phase + (look s.channels ch).currentStep < segmentLength s e.segment * 16777216)
    (hjump : (s.view ch).jumpTo .immediate (firesAt s levels) = some target) :
    ∃ (u : State) (p : Nat) (armed : Option SlotIx),
      Seated p (look s.channels ch).passes (look s.channels ch).currentStep armed (look s.channels ch)
        (u.view ch).record ∧
      UpdatesKept (look s.channels ch) (u.view ch).record ∧ (u.view ch).tables = look s.tables ch ∧
      Follows ((entryEnd ch p (some target) u).view ch) ((tick levels s).view ch) := by
  obtain ⟨seated, updates, tables, -, -, -⟩ := seated_running (levels := levels) hmode hstop
  obtain ⟨whole, reached⟩ := whole_running (levels := levels) hmode hstop he
  obtain ⟨u, hu, follows⟩ := jump_tick seated.mode (by rw [whole, reached]; exact hwhole)
    ((tickJump_running hmode hstop).trans hjump)
  rw [reached] at follows
  have stepped := seated_stepped seated
  rw [← hu] at stepped
  refine ⟨u, _, _, stepped, ?_, ?_, follows⟩
  · rw [hu]
    exact updatesKept_trans updates (updatesKept_stepped _)
  · rw [hu, stepped_tables, tables]

theorem handCode_keeps {y : Code} (h : d = handCode y c) :
    d = { c with last := d.last, presented := d.presented, path := d.path } ∧ d.commit = c.commit := by
  subst h
  exact ⟨rfl, rfl⟩

/-- Off the path, the FIFO is flushed and no pass of the entry done (R134). -/
theorem turned_flushed (h : Turns target v t) : t.Flushed ∧ t.record.passes = 0 := by
  obtain ⟨x, -, follows⟩ | ⟨-, follows⟩ := h
  · exact ⟨follows.flushed, (congrArg Channel.passes follows.record).trans (begun_passes ..)⟩
  · exact ⟨follows.flushed, (congrArg Channel.passes follows.record).trans (begun_passes ..)⟩

/-- Settles O43: a gate's release, a wait, a step or a jump within the pass, and a stop IMMEDIATE. -/
theorem ticksAdvanceReleaseAndJump : Obligations.TicksAdvanceReleaseAndJump := by
  unfold Obligations.TicksAdvanceReleaseAndJump
  rintro levels ch e s t ht he
  obtain rfl : tick levels s = t := Host.Outcome.next.inj ht
  clear ht
  dsimp only
  have running : (look s.channels ch).mode = .running → (look s.channels ch).stop ≠ some .immediate →
      OutcomeFlags ch s (tick levels s) := fun hmode hstop => outcomeFlags_plays (.inl ⟨hmode, hstop⟩)
  refine ⟨fun hmode hgate hwhole => ?_, fun hmode hgate => ?_, fun hmode hstop hwhole => ⟨running hmode hstop,
    fun hjump => ?_, fun j hj htiming hfires => ?_⟩, fun hmode hstop => ?_⟩
  · have hopens := opens_true he hgate
    have flags := outcomeFlags_plays (s := s) (ch := ch) (levels := levels) (.inr ⟨hmode, hopens⟩)
    obtain ⟨seated, updates, tables, moves⟩ := within_tick (armed := (look s.channels ch).armed)
      (ready_released hmode hopens) he (by rwa [Nat.zero_add]) (tickJump_waiting hmode)
    rw [Nat.zero_add] at seated moves
    generalize tick levels s = t at *
    exact ⟨seated.mode, seated.phase, seated.entry, seated.passes, seated.armed, seated.currentStep, seated.stop,
      updates, ⟨tables, seated.commit⟩, flags, moves⟩
  · obtain ⟨q, view, hfifo, hplay⟩ := waiting_tick (levels := levels) hmode (opens_false he hgate)
    generalize tick levels s = t at *
    obtain ⟨record, tables, prefetch, -, flags⟩ := parts_of_view view
    rw [prefetch]
    obtain ⟨keeps, commit⟩ := handCode_keeps record
    exact ⟨keeps, ⟨tables, commit⟩, flags, hplay, hfifo⟩
  · have none : (s.view ch).jumpTo .immediate (firesAt s levels) = none := by
      rw [← tickJump_running hmode hstop]
      refine tickJump_none he (.inl ⟨hmode, hstop⟩) fun _ j hj htiming => (hjump j hj).resolve_left ?_
      rw [htiming]
      decide
    obtain ⟨x, hx, -⟩ | ⟨-, harmed⟩ := armedAt_cases (v := s.view ch) (fires := firesAt s levels) he
    · exact absurd (hx.symm.trans none) (by simp)
    obtain ⟨seated, updates, tables, moves⟩ := within_tick
      (armed := armedAt (firesAt s levels) e (look s.channels ch).armed)
      (by rw [ready_playing hmode hstop, ← harmed]; rfl) he hwhole
      ((tickJump_running hmode hstop).trans none)
    generalize tick levels s = t at *
    exact ⟨seated.mode, seated.phase, seated.entry, seated.passes, seated.stop, seated.currentStep, updates,
      ⟨tables, seated.commit⟩, moves, seated.armed⟩
  · obtain ⟨u, p, armed, seated, updates, tables, follows⟩ := jumped_tick (levels := levels) hmode hstop he hwhole
      (jumpTo_immediate he hj htiming hfires)
    generalize tick levels s = t at *
    by_cases hend : (look s.channels ch).stop = some .atEntryEnd
    · have idles := entryEnd_idles rfl (seated.stop.trans hend) follows
      have passes := idles.passes.trans seated.passes
      refine ⟨idles.flushed, by rw [if_pos hend]; exact passes, fun _ => ⟨⟨idles.mode, idles.stop, idles.armed,
        idles.flushed, updatesApplied_of_kept updates idles.updates,
        idleBanks_of seated.commit tables idles.commit idles.tables⟩, idles.currentStep.trans seated.currentStep⟩,
        fun h => ?_, fun h => ?_, fun _ h => ?_⟩
      all_goals rw [h] at hend; exact absurd hend (by decide)
    · have notEnd : (u.view ch).record.stop ≠ some .atEntryEnd := by rwa [seated.stop]
      have turns := entryEnd_turns rfl notEnd follows
      obtain ⟨flushed, passes⟩ := turned_flushed turns
      refine ⟨flushed, by rw [if_neg hend]; exact passes, fun h => absurd h hend,
        fun h => turned_stopped_stated seated h tables updates turns, fun h hlater => ?_, fun x h hcommit => ?_⟩
      · obtain ⟨begins, -⟩ := (entryEnd_jumps rfl notEnd (by rwa [seated.commit]) follows).turned (seated.stop.trans h)
        have begun := begins.begun
        rw [ChannelView.entryAt, tables] at begun
        exact ⟨begun, begins.stop, updatesKept_trans updates begins.updates, begins.tables.trans tables,
          begins.commit.trans seated.commit⟩
      · have stop : (u.view ch).swappedBanks.record.stop = none := seated.stop.trans h
        obtain ⟨begins, -⟩ := (entryEnd_commits rfl notEnd (seated.commit.trans hcommit) follows).turned stop
        rw [← tables]
        exact ⟨begins.begun, begins.stop, updatesKept_trans updates begins.updates, begins.tables, begins.commit⟩
  · obtain ⟨idles, flags⟩ := stopped_tick (levels := levels) hmode hstop
    generalize tick levels s = t at *
    exact ⟨⟨idles.mode, idles.stop, idles.armed, idles.flushed, idles.updates,
      idleBanks_of rfl rfl idles.commit idles.tables⟩, idles.pattern, idles.entry, idles.passes, idles.phase,
      idles.currentStep, flags⟩

end Sys2Proof.Machine
end

-- ==== The channel updates judged ====
section
/-! SUPPORT. SET_SCALE, SET_RATE and SET_CHANNEL_CONFIG (R86, R87, R90): the fields of their payloads read back (R178),
and each command's checks in their order, as an equation per outcome. -/

namespace Sys2Proof.Machine

open Sys2Proof

variable {s u : State} {n : LinkId} {tag : Byte} {p a : List Byte} {ch : ChanId} {i : Nat} {held nearest halt : Bool}
  {source : Option ChanId}

/-! ### Fields behind other bytes -/

theorem byteAt_behind (h : a.length = i) (b : Byte) (p : List Byte) : byteAt (a ++ b :: p) i = b.toNat := by
  have := byteAt_append_right a (b :: p) 0
  rwa [Nat.add_zero, h, byteAt_cons_zero] at this

theorem flagAt_behind (h : a.length = i) (b : Bool) (p : List Byte) : flagAt (a ++ boolByte b :: p) i = some b := by
  unfold flagAt
  rw [byteAt_behind h]
  cases b <;> rfl

theorem codeAt_behind (h : a.length = i) (x : Code) (p : List Byte) :
    codeAt (a ++ (leBytes 2 x.toNat ++ p)) i = x := by
  rw [codeAt, fieldAt_written (k := 2) h x.isLt, BitVec.ofNat_toNat, BitVec.setWidth_eq]

theorem sumSourceAt_none (h : 5 ≤ byteAt p i) : sumSourceAt p i = none :=
  Option.eq_none_iff_forall_ne_some.mpr fun _ hg => by have := gateAt_lt hg; omega

/-- SET_SCALE's payload: channel, gain, offset, timing (spec 10 section 10.7.2). -/
def scalePayload (ch : ChanId) (x : Scale) (held : Bool) : List Byte :=
  oneByte ch.val :: (leBytes 2 x.gain.toNat ++ leBytes 2 x.offset.toNat ++ [boolByte held])

theorem fields_scalePayload (ch : ChanId) (x : Scale) (held : Bool) :
    finAt 4 (scalePayload ch x held) 0 = some ch ∧ codeAt (scalePayload ch x held) 1 = x.gain ∧
      codeAt (scalePayload ch x held) 3 = x.offset ∧ flagAt (scalePayload ch x held) 5 = some held := by
  unfold scalePayload
  refine ⟨finAt_oneByte (by decide) ch _, ?_, ?_, flagAt_behind (a := _ :: (_ ++ _)) (by simp) held []⟩
  · rw [List.append_assoc]
    exact codeAt_behind (a := [_]) rfl x.gain _
  · rw [List.append_assoc]
    exact codeAt_behind (a := _ :: leBytes 2 _) (by simp) x.offset _

/-- SET_RATE's payload: channel, step, timing. -/
def ratePayload (ch : ChanId) (field : Nat) (held : Bool) : List Byte :=
  oneByte ch.val :: (leBytes 4 field ++ [boolByte held])

theorem fields_ratePayload (ch : ChanId) {field : Nat} (h : field < 4294967296) (held : Bool) :
    finAt 4 (ratePayload ch field held) 0 = some ch ∧ fieldAt (ratePayload ch field held) 1 4 = field ∧
      flagAt (ratePayload ch field held) 5 = some held :=
  ⟨finAt_oneByte (by decide) ch _, fieldAt_written (a := [_]) (k := 4) rfl h,
    flagAt_behind (a := _ :: leBytes 4 _) (by simp) held []⟩

/-- SET_CHANNEL_CONFIG's payload: channel, interpolation, sum source, park code, halt on loss. -/
def configPayload (ch : ChanId) (nearest : Bool) (source : Option ChanId) (park : Code) (halt : Bool) : List Byte :=
  [oneByte ch.val, boolByte nearest, unitByte source] ++ leBytes 2 park.toNat ++ [boolByte halt]

theorem fields_configPayload (ch : ChanId) (nearest : Bool) (source : Option ChanId) (park : Code) (halt : Bool) :
    finAt 4 (configPayload ch nearest source park halt) 0 = some ch ∧
      flagAt (configPayload ch nearest source park halt) 1 = some nearest ∧
      sumSourceAt (configPayload ch nearest source park halt) 2 = some source ∧
      codeAt (configPayload ch nearest source park halt) 3 = park ∧
      flagAt (configPayload ch nearest source park halt) 5 = some halt := by
  unfold configPayload
  refine ⟨finAt_oneByte (by decide) ch _, flagAt_second _ nearest _, ?_, ?_,
    flagAt_behind (a := _ ++ leBytes 2 _) (by simp) halt []⟩
  · exact (gateAt_cons_succ _ _ 1).trans ((gateAt_cons_succ _ _ 0).trans (gateAt_unitByte source _))
  · rw [List.append_assoc]
    exact codeAt_behind (a := [_, _, _]) rfl park _

/-! ### The records set or held -/

/-- An update waits for the next pass end on a HALTED channel, and on any but an IDLE one when the timing says so. -/
theorem updateWaits_iff {mode : ChannelMode} :
    updateWaits mode held = true ↔ mode = .halted ∨ (held = true ∧ mode ≠ .idle) := by
  cases mode <;> simp [updateWaits]

theorem scaleRecord_eq (x : Scale) (held : Bool) (c : Channel) :
    scaleRecord x held c = if c.mode = .halted ∨ (held = true ∧ c.mode ≠ .idle)
      then { c with pendingScale := some x }
      else { c with scale := x, pendingScale := none } :=
  if_congr updateWaits_iff rfl rfl

theorem rateRecord_eq (e : Option Entry) (step : Nat) (held : Bool) (c : Channel) :
    rateRecord e step held c = if c.mode = .halted ∨ (held = true ∧ c.mode ≠ .idle)
      then { c with pendingRate := some step }
      else if c.mode = .idle then { c with defaultStep := step, pendingRate := none }
      else { c with defaultStep := step, currentStep := (e.bind Entry.step).getD step, pendingRate := none } :=
  if_congr updateWaits_iff rfl rfl

/-- SET_CHANNEL_CONFIG reaches the channel record (R90). -/
def configRecord (nearest : Bool) (source : Option ChanId) (park : Code) (halt : Bool) (c : Channel) : Channel :=
  { c with
    interpolation := if nearest then .nearest else .linear
    sumSource := source
    park := park
    haltOnLoss := halt }

/-! ### SET_SCALE and SET_RATE (R86, R87) -/

theorem setScale_outOfRange (h : finAt 4 p 0 = none ∨ flagAt p 5 = none) :
    setScale n tag p u = respond n tag .outOfRange [] u := by
  unfold setScale
  split
  · simp_all
  · rfl

theorem setScale_accepted (hch : finAt 4 p 0 = some ch) (hheld : flagAt p 5 = some held) :
    setScale n tag p u =
      respond n tag .ok [] (u.modChannel ch (scaleRecord ⟨codeAt p 1, codeAt p 3⟩ held)) := by
  simp only [setScale, hch, hheld]

theorem setRate_outOfRange (h : finAt 4 p 0 = none ∨ flagAt p 5 = none) :
    setRate n tag p u = respond n tag .outOfRange [] u := by
  unfold setRate
  split
  · simp_all
  · rfl

theorem setRate_accepted (hch : finAt 4 p 0 = some ch) (hheld : flagAt p 5 = some held) :
    setRate n tag p u = respond n tag .ok (leBytes 4 (clampStep (fieldAt p 1 4)))
      (u.modChannel ch (rateRecord (currentEntry u ch) (clampStep (fieldAt p 1 4)) held)) := by
  simp only [setRate, hch, hheld]

/-! ### SET_CHANNEL_CONFIG (R90) -/

theorem setChannelConfig_outOfRange
    (h : finAt 4 p 0 = none ∨ flagAt p 1 = none ∨ sumSourceAt p 2 = none ∨ flagAt p 5 = none) :
    setChannelConfig n tag p u = respond n tag .outOfRange [] u := by
  unfold setChannelConfig
  split
  · simp_all
  · rfl

section
variable (hch : finAt 4 p 0 = some ch) (hnearest : flagAt p 1 = some nearest) (hsource : sumSourceAt p 2 = some source)
  (hhalt : flagAt p 5 = some halt)
include hch hnearest hsource hhalt

theorem setChannelConfig_ownSum (hown : source = some ch) :
    setChannelConfig n tag p u = respond n tag .outOfRange [] u := by
  simp only [setChannelConfig, hch, hnearest, hsource, hhalt, if_pos hown]
  rfl

theorem setChannelConfig_running (hother : source ≠ some ch) (hmode : (look u.channels ch).mode ≠ .idle) :
    setChannelConfig n tag p u = respond n tag .channelRunning [] u := by
  simp only [setChannelConfig, hch, hnearest, hsource, hhalt, if_neg hother, if_pos hmode]
  rfl

theorem setChannelConfig_accepted (hother : source ≠ some ch) (hmode : (look u.channels ch).mode = .idle) :
    setChannelConfig n tag p u =
      respond n tag .ok [] (u.modChannel ch (configRecord nearest source (codeAt p 3) halt)) := by
  simp only [setChannelConfig, hch, hnearest, hsource, hhalt, if_neg hother, if_neg (not_not_intro hmode)]
  rfl

end

/-! ### The statement -/

/-- A taken frame that changes one channel's record and responds at once. -/
theorem exec_sets_channel {c : Instr} {code : Byte} {payload p : List Byte} {judge : State → State}
    {f : Channel → Channel}
    (hexec : exec c s = .next (takeFrame n tag code payload judge s)) (h : Takes s n) {len : Nat}
    (hlen : payload.length = len) (hfit : len ≤ 2056) (hlayout : layoutAllows code len ≠ some false)
    (hjudge : judge (heard n len s) = respond n tag .ok p ((heard n len s).modChannel ch f)) :
    exec c s = .next { s with
      channels := put s.channels ch (f (look s.channels ch)), links := answered n len tag .ok p s.links } := by
  rw [exec_taken hexec h hlen hfit hlayout, hjudge, respond_heard tag .ok p (links := s.links) rfl]
  rfl

/-- Settles O39: each command's refusals, and its record set or held, by the judgement lemmas. -/
theorem scaleRateAndConfigurationUpdates : Obligations.ScaleRateAndConfigurationUpdates := by
  unfold Obligations.ScaleRateAndConfigurationUpdates
  intro n tag ch s h c waits refused
  refine ⟨fun a w value hvalue hbad => ?_, fun a interpolation source low high halt hbad => ?_,
    fun gain offset held => ?_, fun field held hfield => ?_, fun nearest halt source park => ?_⟩
  · have outside : finAt 4 (a :: (value ++ [w])) 0 = none ∨ flagAt (a :: (value ++ [w])) 5 = none := by
      refine hbad.imp (fun ha => finAt_none (by simpa using ha)) fun hw => flagAt_none ?_
      have hbyte : byteAt (a :: (value ++ [w])) 5 = w.toNat := byteAt_behind (a := a :: value) (by simp [hvalue]) w []
      rwa [hbyte]
    have hlen : (a :: (value ++ [w])).length = 6 := by simp [hvalue]
    exact ⟨exec_responds (code := 0x33#8) rfl h hlen (by decide) (by decide) (setScale_outOfRange outside),
      exec_responds (code := 0x34#8) rfl h hlen (by decide) (by decide) (setRate_outOfRange outside)⟩
  · refine exec_responds (code := 0x35#8) rfl h rfl (by decide) (by decide) (setChannelConfig_outOfRange ?_)
    exact Or.imp finAt_none (Or.imp flagAt_none (Or.imp sumSourceAt_none flagAt_none)) (by simpa using hbad)
  · obtain ⟨hch, hgain, hoffset, hheld⟩ := fields_scalePayload ch ⟨gain, offset⟩ held
    have accepted := setScale_accepted (n := n) (tag := tag) (u := heard n 6 s) hch hheld
    rw [hgain, hoffset] at accepted
    refine (exec_sets_channel (code := 0x33#8) rfl h (by simp) (by decide) (by decide) accepted).trans ?_
    rw [scaleRecord_eq]
  · obtain ⟨hch, hstep, hheld⟩ := fields_ratePayload ch hfield held
    have accepted := setRate_accepted (n := n) (tag := tag) (u := heard n 6 s) hch hheld
    rw [hstep] at accepted
    refine (exec_sets_channel (code := 0x34#8) rfl h (by simp) (by decide) (by decide) accepted).trans ?_
    rw [rateRecord_eq]
    rfl
  · obtain ⟨hch, hnearest, hsource, hpark, hhalt⟩ := fields_configPayload ch nearest source park halt
    have hlen : (configPayload ch nearest source park halt).length = 6 := by simp [configPayload]
    refine ⟨fun hown => ?_, fun hother hmode => ?_, fun hother hmode => ?_⟩
    · exact exec_responds (code := 0x35#8) rfl h hlen (by decide) (by decide)
        (setChannelConfig_ownSum hch hnearest hsource hhalt hown)
    · exact exec_responds (code := 0x35#8) rfl h hlen (by decide) (by decide)
        (setChannelConfig_running hch hnearest hsource hhalt hother hmode)
    · have accepted := setChannelConfig_accepted (n := n) (tag := tag) (u := heard n 6 s) hch hnearest hsource hhalt
        hother hmode
      rw [hpark] at accepted
      exact exec_sets_channel (code := 0x35#8) rfl h hlen (by decide) (by decide) accepted

end Sys2Proof.Machine
end

-- ==== The arithmetic of a tick ====
section
/-! SUPPORT. Interpolation between two codes (R76), the rounding with halves away from zero, the clamp (R79), and the
sum (R78). -/

namespace Sys2Proof.Machine

open Sys2Proof

variable {a b : Code} {fraction : Nat} {z m : Int}

/-! ### Interpolation (R76) -/

/-- LINEAR is the mean of the two codes, weighted by the fraction's upper sixteen bits. -/
theorem interpolate_eq_weighted (a b : Code) (fraction : Nat) :
    interpolate a b fraction =
      a.toInt * (65536 - (fraction / 256 : Nat)) + b.toInt * (fraction / 256 : Nat) := by
  unfold interpolate
  ring

theorem weight_lt (h : fraction < 16777216) : fraction / 256 < 65536 := Nat.div_lt_of_lt_mul h

/-- A weighted mean is no greater than a bound of both values; with the negated values, no smaller. -/
theorem weighted_le {x y w : Int} (hx : x ≤ m) (hy : y ≤ m) (h0 : 0 ≤ w) (h1 : w ≤ 65536) :
    x * (65536 - w) + y * w ≤ m * 65536 :=
  calc x * (65536 - w) + y * w ≤ m * (65536 - w) + m * w :=
        add_le_add (mul_le_mul_of_nonneg_right hx (by omega)) (mul_le_mul_of_nonneg_right hy h0)
    _ = m * 65536 := by ring

theorem interpolate_le_max (h : fraction < 16777216) :
    interpolate a b fraction ≤ max a.toInt b.toInt * 65536 := by
  have hw := weight_lt h
  rw [interpolate_eq_weighted]
  exact weighted_le (le_max_left ..) (le_max_right ..) (by omega) (by omega)

theorem min_le_interpolate (h : fraction < 16777216) :
    min a.toInt b.toInt * 65536 ≤ interpolate a b fraction := by
  have hw := weight_lt h
  have mean := weighted_le (neg_le_neg (min_le_left a.toInt b.toInt)) (neg_le_neg (min_le_right a.toInt b.toInt))
    (w := (fraction / 256 : Nat)) (by omega) (by omega)
  rw [interpolate_eq_weighted]
  linarith only [mean]

/-- The weight stays below 1, so that the second code is reached from itself alone. -/
theorem eq_of_interpolate_eq (h : fraction < 16777216) (heq : interpolate a b fraction = b.toInt * 65536) : a = b := by
  have hw := weight_lt h
  have product : (a.toInt - b.toInt) * (65536 - (fraction / 256 : Nat)) = 0 := by
    rw [interpolate_eq_weighted] at heq
    linarith only [heq]
  obtain hdiff | hweight := mul_eq_zero.mp product
  · exact BitVec.eq_of_toInt_eq (sub_eq_zero.mp hdiff)
  · omega

/-! ### Rounding, clamp and sum (R78, R79) -/

theorem roundValue_nearest (z : Int) : 2 * (z - roundValue z * 1073741824).natAbs ≤ 1073741824 := by
  unfold roundValue
  split <;> omega

theorem roundValue_half_away (h : 2 * (z - roundValue z * 1073741824).natAbs = 1073741824) :
    z.natAbs < (roundValue z * 1073741824).natAbs := by
  unfold roundValue at h ⊢
  split at h
  · next hz => rw [if_pos hz]; omega
  · next hz => rw [if_neg hz]; omega

theorem clampCode_range (m : Int) : -32768 ≤ clampCode m ∧ clampCode m ≤ 32767 := by
  unfold clampCode
  omega

theorem clampCode_inside (hlow : -32768 ≤ m) (hhigh : m ≤ 32767) : clampCode m = m := by
  unfold clampCode
  omega

theorem clampCode_above (h : 32767 < m) : clampCode m = 32767 := by
  unfold clampCode
  omega

theorem clampCode_below (h : m < -32768) : clampCode m = -32768 := by
  unfold clampCode
  omega

theorem contribution_eq_zero {v : TickValue} (h : ∀ y, v ≠ .computed y) : contribution v = 0 := by
  cases v with
  | computed y => exact absurd rfl (h y)
  | _ => rfl

/-- Settles O42: the arithmetic by its lemmas, a RUNNING channel's value by the lines it needs. -/
theorem interpolationRoundingAndClamp : Obligations.InterpolationRoundingAndClamp := by
  unfold Obligations.InterpolationRoundingAndClamp
  refine ⟨fun a b fraction h => ⟨rfl, min_le_interpolate h, interpolate_le_max h, eq_of_interpolate_eq h, rfl⟩,
    fun z => ⟨roundValue_nearest z, roundValue_half_away⟩,
    fun m => ⟨(clampCode_range m).1, (clampCode_range m).2, clampCode_inside, clampCode_above, clampCode_below⟩,
    fun values own m => ⟨rfl, fun y hy => ?_, fun hsilent => ?_⟩, fun s ch e hmode he => ?_⟩
  · simp only [tickSum, hy, contribution]
  · simp only [tickSum, contribution_eq_zero hsilent, add_zero]
  · refine ⟨tickValue_missing hmode he, fun l hl => ⟨tickValue_nearest hmode he hl, fun hi here => ?_,
      fun hi elsewhere => ⟨tickValue_next_missing hmode he hl hi elsewhere, fun l' hl' =>
        tickValue_next hmode he hl hi elsewhere hl'⟩⟩⟩
    have value := tickValue_here hmode he hl hi here
    rw [← apply_ite (sampleOf l.data)] at value
    exact value

end Sys2Proof.Machine
end

-- ==== The conditions at a tick ====
section
/-! SUPPORT. The evaluation of a condition at a tick (R96 to R100, R106, R108) as propositions: its match source by
source, the transition counted, the firing; and FIREDk of both sets after the tick. -/

namespace Sys2Proof.Machine

open Sys2Proof

variable {s : State} {k : CondId} {levels : BitVec 8} {c : Condition} {seen : BitVec 12}

/-! ### One condition -/

/-- A condition matches when every source its mask selects has its reference's level (R96). -/
theorem matchesSeen_iff : matchesSeen c seen = true ↔
    ∀ i : Fin 12, c.mask.getLsbD i.val = true → seen.getLsbD i.val = c.reference.getLsbD i.val := by
  have bitwise : matchesSeen c seen = true ↔
      ∀ i < 12, ((seen ^^^ c.reference) &&& c.mask).getLsbD i = (0#12).getLsbD i := by
    rw [matchesSeen, beq_iff_eq, BitVec.eq_of_getLsbD_eq_iff]
  rw [bitwise, Fin.forall_iff]
  refine forall₂_congr fun i _ => ?_
  rw [BitVec.getLsbD_and, BitVec.getLsbD_xor, BitVec.getLsbD_zero]
  cases c.mask.getLsbD i <;> simp

/-- The match, for a truth value that says whether the sources agree. -/
theorem matchesSeen_eq {now : Bool} (h : now = true ↔
    ∀ i : Fin 12, c.mask.getLsbD i.val = true → seen.getLsbD i.val = c.reference.getLsbD i.val) :
    matchesSeen c seen = now :=
  Bool.eq_iff_iff.mpr (matchesSeen_iff.trans h.symm)

/-- The qualifying transition of each mode (R97). -/
theorem isTransition_iff {mode : CondMode} {previous now : Bool} : isTransition mode previous now = true ↔
    (mode = .arrive ∧ previous = false ∧ now = true) ∨ (mode = .depart ∧ previous = true ∧ now = false) := by
  cases mode <;> simp [isTransition]

/-- A transition is counted only with no holdoff left (R98). -/
theorem countsNow_iff (he : c.enabled = true) : countsNow c seen = true ↔
    c.holdoffLeft = 0 ∧ isTransition c.mode c.previous (matchesSeen c seen) = true := by
  simp [countsNow, he]

/-- The N-th transition counted fires (R99). -/
theorem naturalFiring_iff : naturalFiring c seen = true ↔ countsNow c seen = true ∧ c.prescaler ≤ c.count + 1 := by
  simp [naturalFiring]

/-- An enabled condition fires by its prescaler or by a software request (R100, R108). -/
theorem firesNow_iff (he : c.enabled = true) :
    firesNow c seen = true ↔ naturalFiring c seen = true ∨ c.request = true := by
  simp [firesNow, softwareFiring, he]

theorem firesNow_disabled (he : c.enabled = false) : firesNow c seen = false := by
  simp [firesNow, naturalFiring, countsNow, softwareFiring, he]

/-- Of a disabled condition only the holdoff runs down (R98, R106). -/
theorem evaluated_disabled (he : c.enabled = false) :
    evaluated c seen = { c with holdoffLeft := c.holdoffLeft - 1 } := if_neg (by simp [he])

/-- An enabled condition's record, its counting, its natural firing and its firing given as propositions (R97 to R100,
R108). -/
theorem evaluated_enabled {counted natural fires : Prop} [Decidable counted] [Decidable natural] [Decidable fires]
    (he : c.enabled = true) (hcounted : countsNow c seen = true ↔ counted)
    (hnatural : naturalFiring c seen = true ↔ natural) (hfires : firesNow c seen = true ↔ fires) :
    evaluated c seen = { c with
      previous := matchesSeen c seen
      count := if natural then 0 else if counted then c.count + 1 else c.count
      holdoffLeft := if fires then c.holdoff else c.holdoffLeft - 1
      request := false
      firings := if fires then c.firings + 1#32 else c.firings } := by
  simp only [evaluated, he, hcounted, hnatural, hfires, if_true]

/-! ### The flags -/

/-- FIREDk (position 28 + k) of both sets after the evaluation of all four conditions (R100, R109). -/
theorem fired_eachCond (s : State) (k : CondId) (n : LinkId) :
    (look (eachCond evaluate s).links n).flags.getLsbD (28 + k.val) =
      ((look s.links n).flags.getLsbD (28 + k.val) || firesNow (look s.trigger.conds k) s.trigger.seen) := by
  simp only [eachCond, fired_evaluate, look_conds_evaluate, seen_evaluate]
  fin_cases k <;> simp

/-- FIREDk after a tick: as it was, and set where the condition fires. -/
theorem fired_tick_eq (levels : BitVec 8) (s : State) (k : CondId) (n : LinkId) :
    (look (tick levels s).links n).flags.getLsbD (28 + k.val) =
      ((look s.links n).flags.getLsbD (28 + k.val) || firesAt s levels k) := by
  have high : 28 ≤ 28 + k.val := Nat.le_add_right ..
  have later := (look_links_of_bare (bare_tick levels s) n).2 _ high
  have handed : (tickHanded levels s).links = (tickShown levels s).links := by rw [tickHanded_eq, markerTick_eq]
  have shown := (look_links_of_bare (channelsWork_tickShown levels s).bare n).2 _ high
  have opening := (look_links_of_bare (channelsWork_tickOpening levels s).bare n).2 _ high
  rw [later, handed, shown, fired_eachCond, opening, ← getLsbD_firedSet, getLsbD_firedSet_tickOpening]
  rfl

/-- Settles O46: the tick's condition record is evaluated over the sources seen at it, its parts as propositions. -/
theorem conditionsAreEvaluatedAtTheTick : Obligations.ConditionsAreEvaluatedAtTheTick := by
  unfold Obligations.ConditionsAreEvaluatedAtTheTick
  intro levels k s t ht c d
  obtain rfl : tick levels s = t := by injection ht
  have record : d = evaluated c (tick levels s).trigger.seen := by
    rw [seen_tick]
    exact look_conds_tick levels s k
  have flag : ∀ n, (look (tick levels s).links n).flags.getLsbD (28 + k.val) =
      ((look s.links n).flags.getLsbD (28 + k.val) || firesNow c (tick levels s).trigger.seen) := by
    rw [seen_tick]
    exact fired_tick_eq levels s k
  refine ⟨fun he => ⟨record.trans (evaluated_disabled he), fun n => ?_⟩, fun he now hnow => ?_⟩
  · rw [flag, firesNow_disabled he, Bool.or_false]
  · intro counted natural fires
    have matching : matchesSeen c (tick levels s).trigger.seen = now := matchesSeen_eq hnow
    have hcounted : countsNow c (tick levels s).trigger.seen = true ↔ counted := by
      rw [countsNow_iff he, matching, isTransition_iff]
    have hnatural : naturalFiring c (tick levels s).trigger.seen = true ↔ natural :=
      naturalFiring_iff.trans (and_congr_left' hcounted)
    have hfires : firesNow c (tick levels s).trigger.seen = true ↔ fires :=
      (firesNow_iff he).trans (or_congr_left hnatural)
    refine ⟨?_, fun n => ?_⟩
    · rw [record, evaluated_enabled he hcounted hnatural hfires, matching]
    · rw [flag, Bool.eq_iff_iff.mpr (hfires.trans decide_eq_true_iff.symm)]

end Sys2Proof.Machine
end

-- ==== The condition commands ====
section
/-! SUPPORT. SET_CONDITION, SET_CONDITION_ENABLE, FIRE_CONDITION and CONDITION_STATUS (R103, R105 to R107, R110): the
fields of SET_CONDITION's payload read back (R178), and each command's checks in their order, as an equation per outcome. -/

namespace Sys2Proof.Machine

open Sys2Proof

variable {s u : State} {n : LinkId} {tag : Byte} {p : List Byte} {k : CondId} {c : Condition} {arrive enable clear : Bool}

/-! ### SET_CONDITION (R103) -/

/-- SET_CONDITION's payload: condition, mask, reference, mode, prescaler, holdoff (spec 10 section 10.7.2). -/
def conditionPayload (k : CondId) (mask reference : Nat) (arrive : Bool) (prescaler holdoff : Nat) : List Byte :=
  oneByte k.val :: (leBytes 2 mask ++ leBytes 2 reference ++ [boolByte arrive] ++ leBytes 2 prescaler ++
    leBytes 2 holdoff)

theorem length_conditionPayload (k : CondId) (mask reference : Nat) (arrive : Bool) (prescaler holdoff : Nat) :
    (conditionPayload k mask reference arrive prescaler holdoff).length = 10 := by
  simp [conditionPayload]

theorem fields_conditionPayload (k : CondId) {mask reference prescaler holdoff : Nat} (arrive : Bool)
    (hmask : mask < 65536) (hreference : reference < 65536) (hprescaler : prescaler < 65536)
    (hholdoff : holdoff < 65536) :
    let p := conditionPayload k mask reference arrive prescaler holdoff
    finAt 4 p 0 = some k ∧ fieldAt p 1 2 = mask ∧ fieldAt p 3 2 = reference ∧ flagAt p 5 = some arrive ∧
      fieldAt p 6 2 = prescaler ∧ fieldAt p 8 2 = holdoff := by
  exact ⟨finAt_oneByte (by decide) k _,
    fieldAt_written (a := [oneByte k.val]) (k := 2) rfl hmask,
    fieldAt_written (a := oneByte k.val :: leBytes 2 mask) (k := 2) rfl hreference,
    flagAt_behind (a := oneByte k.val :: (leBytes 2 mask ++ leBytes 2 reference)) rfl arrive _,
    fieldAt_written (a := oneByte k.val :: (leBytes 2 mask ++ leBytes 2 reference ++ [boolByte arrive])) (k := 2) rfl
      hprescaler,
    fieldAt_written (a := oneByte k.val :: (leBytes 2 mask ++ leBytes 2 reference ++ [boolByte arrive] ++
      leBytes 2 prescaler)) (p := []) (k := 2) rfl hholdoff⟩

/-- The settings are written and the prescale count begins anew (R103). -/
def settingsRecord (mask reference : Nat) (arrive : Bool) (prescaler holdoff : Nat) (c : Condition) : Condition :=
  { c with
    mask := BitVec.ofNat 12 mask
    reference := BitVec.ofNat 12 reference
    mode := if arrive then .arrive else .depart
    prescaler := if prescaler = 0 then 1 else prescaler
    holdoff := holdoff
    count := 0 }

/-- A prescaler of 0 is stored as 1 (R103). -/
theorem max_one_eq (prescaler : Nat) : max 1 prescaler = if prescaler = 0 then 1 else prescaler := by
  split <;> omega

theorem setCondition_unreadable (h : finAt 4 p 0 = none ∨ flagAt p 5 = none) :
    setCondition n tag p u = respond n tag .outOfRange [] u := by
  unfold setCondition
  split
  · simp_all
  · rfl

theorem setCondition_outOfRange (hk : finAt 4 p 0 = some k) (harrive : flagAt p 5 = some arrive)
    (h : 4095 < fieldAt p 1 2 ∨ 4095 < fieldAt p 3 2 ∨ 256 < fieldAt p 6 2) :
    setCondition n tag p u = respond n tag .outOfRange [] u := by
  simp only [setCondition, hk, harrive]
  exact if_pos (by simpa [or_assoc] using h)

theorem setCondition_accepted (hk : finAt 4 p 0 = some k) (harrive : flagAt p 5 = some arrive)
    (hmask : fieldAt p 1 2 ≤ 4095) (hreference : fieldAt p 3 2 ≤ 4095) (hprescaler : fieldAt p 6 2 ≤ 256) :
    setCondition n tag p u = respond n tag .ok [] (u.modCond k
      (settingsRecord (fieldAt p 1 2) (fieldAt p 3 2) arrive (fieldAt p 6 2) (fieldAt p 8 2))) := by
  simp only [setCondition, hk, harrive, max_one_eq]
  exact if_neg (by simp [hmask, hreference, hprescaler])

/-! ### SET_CONDITION_ENABLE (R105, R106) -/

theorem setConditionEnable_outOfRange (h : finAt 4 p 0 = none ∨ flagAt p 1 = none) :
    setConditionEnable n tag p u = respond n tag .outOfRange [] u := by
  unfold setConditionEnable
  split
  · simp_all
  · rfl

theorem setConditionEnable_accepted (hk : finAt 4 p 0 = some k) (henable : flagAt p 1 = some enable) :
    setConditionEnable n tag p u = respond n tag .ok [] (u.modCond k (enableRecord enable u.trigger.seen)) := by
  simp only [setConditionEnable, hk, henable]

/-- A condition that is so already stays as it is. -/
theorem enableRecord_same (seen : BitVec 12) : enableRecord c.enabled seen c = c := by
  unfold enableRecord
  cases c.enabled <;> rfl

/-- A condition that becomes enabled remembers its match of now (R105). -/
theorem enableRecord_on (seen : BitVec 12) (h : c.enabled = false) :
    enableRecord true seen c = { c with enabled := true, previous := matchesSeen c seen } := by
  simp only [enableRecord, h]

/-- A condition that becomes disabled loses its count and its request (R106). -/
theorem enableRecord_off (seen : BitVec 12) (h : c.enabled = true) :
    enableRecord false seen c = { c with enabled := false, count := 0, request := false } := by
  simp only [enableRecord, h]

/-! ### FIRE_CONDITION (R107) -/

theorem fireCondition_outOfRange (h : finAt 4 p 0 = none) :
    fireCondition n tag p u = respond n tag .outOfRange [] u := by
  simp only [fireCondition, h]
  rfl

theorem fireCondition_accepted (hk : finAt 4 p 0 = some k) (he : (look u.trigger.conds k).enabled = true) :
    fireCondition n tag p u = respond n tag .ok [] (u.modCond k fun c => { c with request := true }) := by
  simp only [fireCondition, hk, he, if_true]

theorem fireCondition_wrongState (hk : finAt 4 p 0 = some k) (he : (look u.trigger.conds k).enabled = false) :
    fireCondition n tag p u = respond n tag .wrongState [] u := by
  simp only [fireCondition, hk, he, Bool.false_eq_true, if_false]
  rfl

/-! ### CONDITION_STATUS (R110) -/

theorem conditionStatus_outOfRange (h : finAt 4 p 0 = none ∨ flagAt p 1 = none) :
    conditionStatus n tag p u = respond n tag .outOfRange [] u := by
  unfold conditionStatus
  split
  · simp_all
  · rfl

theorem conditionStatus_accepted (hk : finAt 4 p 0 = some k) (hclear : flagAt p 1 = some clear) :
    conditionStatus n tag p u = respond n tag .ok (conditionReport (look u.trigger.conds k) u.trigger.seen)
      (if clear then u.modCond k fun c => { c with firings := 0#32 } else u) := by
  simp only [conditionStatus, hk, hclear]

/-! ### The statement -/

/-- A taken frame that changes one condition's record and responds at once. -/
theorem exec_sets_condition {i : Instr} {code : Byte} {payload p : List Byte} {judge : State → State}
    {f : Condition → Condition}
    (hexec : exec i s = .next (takeFrame n tag code payload judge s)) (h : Takes s n) {len : Nat}
    (hlen : payload.length = len) (hfit : len ≤ 2056) (hlayout : layoutAllows code len ≠ some false)
    (hjudge : judge (heard n len s) = respond n tag .ok p ((heard n len s).modCond k f)) :
    exec i s = .next { s with
      trigger := { s.trigger with conds := put s.trigger.conds k (f (look s.trigger.conds k)) }
      links := answered n len tag .ok p s.links } := by
  rw [exec_taken hexec h hlen hfit hlayout, hjudge, respond_heard tag .ok p (links := s.links) rfl]
  rfl

/-- Settles O47: each command's refusals, and its record set, by the judgement lemmas. -/
theorem conditionCommands : Obligations.ConditionCommands := by
  unfold Obligations.ConditionCommands
  intro n tag s h answer
  refine ⟨fun k mask reference prescaler holdoff arrive hmask hreference hprescaler hholdoff => ?_, fun k => ?_,
    fun a b rest hrest => ?_⟩
  · obtain ⟨hk, fmask, freference, harrive, fprescaler, fholdoff⟩ :=
      fields_conditionPayload k arrive hmask hreference hprescaler hholdoff
    have hlen := length_conditionPayload k mask reference arrive prescaler holdoff
    refine ⟨fun hbad => ?_, fun hm hr hp => ?_⟩
    · refine exec_responds (code := 0x40#8) rfl h hlen (by decide) (by decide) (setCondition_outOfRange hk harrive ?_)
      rwa [fmask, freference, fprescaler]
    · have accepted := setCondition_accepted (n := n) (tag := tag) (u := heard n 10 s) hk harrive (fmask.trans_le hm)
        (freference.trans_le hr) (fprescaler.trans_le hp)
      rw [fmask, freference, fprescaler, fholdoff] at accepted
      exact exec_sets_condition (code := 0x40#8) rfl h hlen (by decide) (by decide) accepted
  · intro c
    have hk := fun p => finAt_oneByte (n := 4) (by decide) k p
    have sets : ∀ enable : Bool, exec (.setConditionEnable n tag [oneByte k.val, boolByte enable]) s = .next { s with
        trigger := { s.trigger with conds := put s.trigger.conds k (enableRecord enable s.trigger.seen c) }
        links := answered n 2 tag .ok [] s.links } := fun enable =>
      exec_sets_condition (code := 0x41#8) rfl h rfl (by decide) (by decide)
        (setConditionEnable_accepted (hk _) (flagAt_second _ enable []))
    refine ⟨fun enable henable => ?_, fun he now hnow => ?_, fun he => ?_, fun he => ?_, fun he => ?_⟩
    · subst henable
      refine (sets _).trans ?_
      rw [enableRecord_same, put_look]
    · refine (sets true).trans ?_
      rw [enableRecord_on _ he, matchesSeen_eq hnow]
    · refine (sets false).trans ?_
      rw [enableRecord_off _ he]
    · exact exec_sets_condition (code := 0x42#8) rfl h (len := 1) rfl (by decide) (by decide)
        (fireCondition_accepted (hk _) he)
    · exact exec_responds (code := 0x42#8) rfl h rfl (by decide) (by decide) (fireCondition_wrongState (hk _) he)
  · refine ⟨fun hbad => ?_, fun ha => ?_, fun hbad => ?_⟩
    · refine exec_responds (code := 0x40#8) rfl h (by simp [hrest]) (by decide) (by decide) (setCondition_unreadable ?_)
      refine hbad.imp (fun ha => finAt_none (by simpa using ha)) fun hmode => flagAt_none ?_
      rwa [byteAt_cons_succ]
    · exact exec_responds (code := 0x42#8) rfl h rfl (by decide) (by decide)
        (fireCondition_outOfRange (finAt_none (by simpa using ha)))
    · have outside : finAt 4 [a, b] 0 = none ∨ flagAt [a, b] 1 = none :=
        Or.imp finAt_none flagAt_none (by simpa using hbad)
      exact ⟨exec_responds (code := 0x41#8) rfl h rfl (by decide) (by decide) (setConditionEnable_outOfRange outside),
        exec_responds (code := 0x43#8) rfl h rfl (by decide) (by decide) (conditionStatus_outOfRange outside)⟩

end Sys2Proof.Machine
end

-- ==== The reports of the units ====
section
/-! SUPPORT. CONDITION_STATUS, MARKER_STATUS, ERROR_LOG_READ and CLOCK_STATUS answered (R110, R120, R154, R163), and each
report as its layout says. -/

namespace Sys2Proof.Machine

open Sys2Proof

variable {s : State} {n : LinkId} {tag : Byte}

/-- A record's bytes, its bit position 255 when it has none (spec 10 section 10.7.5; log 16). -/
theorem errorBytes_some (r : ErrorRecord) : errorBytes (some r) =
    [1#8, oneByte (classNumber r.cls), oneByte (sourceNumber r.source)] ++ leBytes 3 r.addr ++
      [oneByte r.segment.val, oneByte ((r.bit.map Fin.val).getD 255)] := by
  obtain ⟨cls, source, addr, segment, bit⟩ := r
  cases bit <;> rfl

/-- A command without payload that is answered by a report and changes nothing. -/
theorem exec_reports {i : Instr} {code : Byte} {report : State → List Byte} {p : List Byte}
    (hexec : exec i s = .next (takeFrame n tag code [] (fun u => respond n tag .ok (report u) u) s)) (h : Takes s n)
    (hlayout : layoutAllows code 0 ≠ some false) (hreport : report (heard n 0 s) = p) :
    exec i s = .next { s with links := answered n 0 tag .ok p s.links } :=
  exec_responds hexec h rfl (Nat.zero_le _) hlayout (by rw [hreport])

/-- Settles O50: each report as its layout writes it. -/
theorem unitReports : Obligations.UnitReports := by
  unfold Obligations.UnitReports
  intro n tag s h told
  refine ⟨fun k => ?_, ?_, ?_, ?_⟩
  · have hk := fun p => finAt_oneByte (n := 4) (by decide) k p
    intro c report
    have layout : conditionReport c s.trigger.seen = report := rfl
    rw [← layout]
    have cleared := conditionStatus_accepted (n := n) (tag := tag) (u := heard n 2 s) (clear := true) (hk [1#8]) rfl
    rw [if_pos rfl] at cleared
    constructor
    · exact exec_responds (code := 0x43#8) rfl h rfl (by decide) (by decide)
        (conditionStatus_accepted (clear := false) (hk _) rfl)
    · exact exec_sets_condition (code := 0x43#8) rfl h (len := 2) rfl (by decide) (by decide) cleared
  · refine exec_reports (code := 0x49#8) (report := fun u => markerReport u.pins u.patterns) rfl h (by decide) ?_
    refine congrArg (· ++ _) (List.flatMap_congr fun i _ => ?_)
    change pinReport (look s.pins i) = _
    unfold pinReport
    dsimp only
    cases (look s.pins i).source <;> rfl
  · refine exec_reports (code := 0x51#8) (report := errorReport) rfl h (by decide) ?_
    have log : errorReport (heard n 0 s) = errorReport s := rfl
    rw [log, errorReport]
    cases s.log.first with
    | none => rfl
    | some r => rw [errorBytes_some]; rfl
  · exact exec_reports (code := 0x59#8) (report := fun u => clockReport u.monitor) rfl h (by decide) rfl

end Sys2Proof.Machine
end

-- ==== The marker command ====
section
/-! SUPPORT. SET_MARKER (R113): the source field as an equation per kind and the ranges a source that is read lies in,
and the command's check as an equation per outcome. -/

namespace Sys2Proof.Machine

open Sys2Proof

variable {s u : State} {n : LinkId} {tag : Byte} {p : List Byte} {i : Nat} {source : MarkerSource}

/-! ### The source read (R113) -/

theorem markerSourceAt_static {level : Bool} (hkind : byteAt p i = 0) (hlevel : flagAt p (i + 1) = some level) :
    markerSourceAt p i = some (.static level) := by
  simp only [markerSourceAt, hkind, hlevel, Option.map_some]

theorem markerSourceAt_entryBit {ch : ChanId} {bit : Fin 4} (hkind : byteAt p i = 1)
    (hch : finAt 4 p (i + 1) = some ch) (hbit : finAt 4 p (i + 2) = some bit) :
    markerSourceAt p i = some (.entryBit ch bit) := by
  simp only [markerSourceAt, hkind, hch, hbit]

theorem markerSourceAt_passToggle {ch : ChanId} {level : Bool} (hkind : byteAt p i = 2)
    (hch : finAt 4 p (i + 1) = some ch) (hlevel : flagAt p (i + 2) = some level) :
    markerSourceAt p i = some (.passToggle ch level) := by
  simp only [markerSourceAt, hkind, hch, hlevel]

/-- A pulse width of 0 is stored as 1 (R113). -/
theorem markerSourceAt_firePulse {k : CondId} (hkind : byteAt p i = 3) (hk : finAt 4 p (i + 1) = some k) :
    markerSourceAt p i = some (.firePulse k (if byteAt p (i + 2) = 0 then 1 else byteAt p (i + 2))) := by
  simp only [markerSourceAt, hkind, hk, Option.map_some, max_one_eq]

theorem markerSourceAt_running {ch : ChanId} (hkind : byteAt p i = 4) (hch : finAt 4 p (i + 1) = some ch) :
    markerSourceAt p i = some (.running ch) := by
  simp only [markerSourceAt, hkind, hch, Option.map_some]

/-- A source that is read has its kind and its parameters within their ranges. -/
theorem markerSourceAt_lt (h : markerSourceAt p i = some source) :
    byteAt p i < 5 ∧ (byteAt p i = 0 → byteAt p (i + 1) < 2) ∧ (1 ≤ byteAt p i → byteAt p (i + 1) < 4) ∧
      (byteAt p i = 1 → byteAt p (i + 2) < 4) ∧ (byteAt p i = 2 → byteAt p (i + 2) < 2) := by
  unfold markerSourceAt at h
  split at h
  case h_1 hkind =>
    obtain ⟨level, hlevel, -⟩ := Option.map_eq_some_iff.mp h
    have := flagAt_lt hlevel
    omega
  case h_2 hkind =>
    split at h
    · next hch hbit =>
      have := finAt_lt hch
      have := finAt_lt hbit
      omega
    · cases h
  case h_3 hkind =>
    split at h
    · next hch hlevel =>
      have := finAt_lt hch
      have := flagAt_lt hlevel
      omega
    · cases h
  case h_4 hkind =>
    obtain ⟨k, hk, -⟩ := Option.map_eq_some_iff.mp h
    have := finAt_lt hk
    omega
  case h_5 hkind =>
    obtain ⟨ch, hch, -⟩ := Option.map_eq_some_iff.mp h
    have := finAt_lt hch
    omega
  case h_6 => cases h

/-- A kind or a parameter outside its range is no source. -/
theorem markerSourceAt_none (h : 5 ≤ byteAt p i ∨ (byteAt p i = 0 ∧ 2 ≤ byteAt p (i + 1)) ∨
      (1 ≤ byteAt p i ∧ 4 ≤ byteAt p (i + 1)) ∨ (byteAt p i = 1 ∧ 4 ≤ byteAt p (i + 2)) ∨
      (byteAt p i = 2 ∧ 2 ≤ byteAt p (i + 2))) : markerSourceAt p i = none :=
  Option.eq_none_iff_forall_ne_some.mpr fun _ hsource => by
    obtain ⟨hkind, hstatic, hunit, hbit, hlevel⟩ := markerSourceAt_lt hsource
    omega

/-! ### SET_MARKER (R113) -/

theorem setMarker_outOfRange (h : finAt 8 p 0 = none ∨ markerSourceAt p 1 = none) :
    setMarker n tag p u = respond n tag .outOfRange [] u := by
  unfold setMarker
  split
  · simp_all
  · rfl

theorem setMarker_accepted {pin : PinId} (hpin : finAt 8 p 0 = some pin) (hsource : markerSourceAt p 1 = some source) :
    setMarker n tag p u = respond n tag .ok [] (u.modPin pin fun m =>
      { m with source := source, toggle := initialToggle source, pulse := 0 }) := by
  simp only [setMarker, hpin, hsource]

/-- A taken SET_MARKER of a source in range sets that pin's record and responds. -/
theorem exec_setMarker_accepted (h : Takes s n) (pin : PinId) {kind first second : Byte}
    (hsource : markerSourceAt [oneByte pin.val, kind, first, second] 1 = some source) :
    exec (.setMarker n tag [oneByte pin.val, kind, first, second]) s = .next { s with
      pins := put s.pins pin { look s.pins pin with source := source, toggle := initialToggle source, pulse := 0 }
      links := answered n 4 tag .ok [] s.links } := by
  rw [exec_taken (code := 0x48#8) rfl h (len := 4) rfl (by decide) (by decide),
    setMarker_accepted (finAt_oneByte (by decide) pin _) hsource, respond_heard tag .ok [] (links := s.links) rfl]
  rfl

/-- Settles O48: each source as it is read, and the complement of their ranges. -/
theorem setMarkerSelectsTheSource : Obligations.SetMarkerSelectsTheSource := by
  unfold Obligations.SetMarkerSelectsTheSource
  intro n tag s h refused
  refine ⟨fun i k bit level b => ?_, fun i a b c hbad => ?_⟩
  · have unit : ∀ kind second : Byte, finAt 4 [oneByte i.val, kind, oneByte k.val, second] 2 = some k :=
      fun kind second => finAt_third (by decide) _ kind k [second]
    refine ⟨?_, ?_, ?_, ?_, ?_⟩
    · exact exec_setMarker_accepted h i (markerSourceAt_static rfl
        (flagAt_behind (a := [oneByte i.val, 0#8]) rfl level [b]))
    · exact exec_setMarker_accepted h i (markerSourceAt_entryBit rfl (unit _ _)
        ((finAt_cons_succ 4 _ _ 2).trans (finAt_third (by decide) _ _ bit [])))
    · exact exec_setMarker_accepted h i (markerSourceAt_passToggle rfl (unit _ _)
        (flagAt_behind (a := [oneByte i.val, 2#8, oneByte k.val]) rfl level []))
    · have width : (if b = 0#8 then 1 else b.toNat) = if b.toNat = 0 then 1 else b.toNat := by
        simp only [BitVec.toNat_eq, BitVec.toNat_ofNat, Nat.zero_mod]
      rw [width]
      exact exec_setMarker_accepted h i (markerSourceAt_firePulse rfl (unit _ _))
    · exact exec_setMarker_accepted h i (markerSourceAt_running rfl (unit _ _))
  · refine exec_responds (code := 0x48#8) rfl h rfl (by decide) (by decide) (setMarker_outOfRange ?_)
    refine hbad.imp (fun hpin => finAt_none (by simpa using hpin)) fun hsource => markerSourceAt_none ?_
    simpa [BitVec.toNat_eq] using hsource

end Sys2Proof.Machine
end

-- ==== The requests for the store port ====
section
/-! SUPPORT. What the request laws (R123, R128, R131) read of the state, as one view (`State.access`), and the laws as
laws of that view; and what the units' shared operations leave of it. -/

namespace Sys2Proof.Machine

open Sys2Proof

variable {s t u w : State} {n m : LinkId} {ch d : ChanId}

/-! ### What is on the port -/

/-- A transfer of the link. -/
def linkOn (port : Option Transfer) (n : LinkId) : Bool :=
  match port with
  | some (.link m _ _) => m = n
  | _ => false

/-- A prefetch read of the channel. -/
def readOn (port : Option Transfer) (ch : ChanId) : Bool :=
  match port with
  | some (.prefetch c _ _) => c = ch
  | _ => false

/-- A prefetch read of the channel whose line is still wanted. -/
def wantedOn (port : Option Transfer) (ch : ChanId) : Option PrefetchRequest :=
  match port with
  | some (.prefetch c r true) => if c = ch then some r else none
  | _ => none

/-- A scrub read. -/
def scrubOn (port : Option Transfer) : Bool :=
  match port with
  | some (.scrub _) => true
  | _ => false

/-- One of these slots names the segment. -/
def namedIn (slots : Vector (Option Entry) 64) (id : SegId) : Bool :=
  (List.finRange 64).any fun x => (look slots x).any fun e => e.segment = id

theorem linkInTransfer_eq (s : State) (n : LinkId) : linkInTransfer s n = linkOn s.arbiter.port n := rfl
theorem prefetchInTransfer_eq (s : State) (ch : ChanId) : prefetchInTransfer s ch = readOn s.arbiter.port ch := rfl
theorem wantedRead_eq (s : State) (ch : ChanId) : wantedRead s ch = wantedOn s.arbiter.port ch := rfl
theorem scrubInTransfer_eq (s : State) : scrubInTransfer s = scrubOn s.arbiter.port := rfl
theorem namedActive_eq (s : State) (ch : ChanId) (id : SegId) :
    namedActive s ch id = namedIn (look s.tables ch).active.slots id := rfl

theorem namedIn_of_look {slots : Vector (Option Entry) 64} {x : SlotIx} {e : Entry} (h : look slots x = some e) :
    namedIn slots e.segment = true :=
  List.any_eq_true.mpr ⟨x, List.mem_finRange x, by simp [h]⟩

theorem wantedOn_of_unread {port : Option Transfer} (h : readOn port ch = false) : wantedOn port ch = none := by
  unfold wantedOn
  split
  · next c r => exact if_neg (of_decide_eq_false h)
  · rfl

/-! ### The laws -/

/-- What the laws of the store port's requesters read, and the store itself. -/
structure Access where
  store : List (Nat × StoredLine)
  powerUps : Nat
  port : Option Transfer
  writeSide : Option WriteRequest
  scrubbing : Option Nat
  asks : LinkId → Option LinkXfer
  phases : LinkId → LinkPhase
  prefetch : ChanId → Prefetch
  modes : ChanId → ChannelMode
  slots : ChanId → Vector (Option Entry) 64

def State.access (s : State) : Access where
  store := s.store
  powerUps := s.powerUps
  port := s.arbiter.port
  writeSide := s.writeSide
  scrubbing := s.scrub.request
  asks n := (look s.links n).request
  phases n := (look s.links n).phase
  prefetch ch := look s.prefetch ch
  modes ch := (look s.channels ch).mode
  slots ch := (look s.tables ch).active.slots

/-- One channel's part of the prefetchers' limit (R123) and of the prefetch law (R128, R131). -/
structure Fetches (port : Option Transfer) (ch : ChanId) (p : Prefetch) (mode : ChannelMode)
    (slots : Vector (Option Entry) 64) : Prop where
  single : p.waiting.isSome → readOn port ch = false
  room : p.fifo.length + p.waiting.toList.length + (wantedOn port ch).toList.length ≤ 64
  held : ∀ l ∈ p.fifo, namedIn slots l.segment = true
  waiting : ∀ r ∈ p.waiting, namedIn slots r.segment = true
  wanted : ∀ r ∈ wantedOn port ch, namedIn slots r.segment = true
  idle : mode = .idle → p.fifo = [] ∧ p.waiting = none ∧ wantedOn port ch = none

/-- The request laws of a view. -/
structure Access.Lawful (a : Access) : Prop where
  links : ∀ n, (a.asks n).isSome → linkOn a.port n = false ∧ isExecuting (a.phases n) = true
  writes : a.writeSide.isSome → writeInTransfer a.port = false
  scrubs : scrubOn a.port = true → a.scrubbing = a.port.map Transfer.addr
  fetches : ∀ ch, Fetches a.port ch (a.prefetch ch) (a.modes ch) (a.slots ch)

/-- The channel's part of the laws in a state. -/
def FetchesAt (s : State) (ch : ChanId) : Prop :=
  Fetches s.arbiter.port ch (look s.prefetch ch) (look s.channels ch).mode (look s.tables ch).active.slots

/-- The laws of the view are the request laws of the state. -/
theorem lawful_iff : s.access.Lawful ↔ LinkLaw s ∧ OneRequestLaw s ∧ PrefetchLaw s := by
  constructor
  · rintro ⟨links, writes, scrubs, fetches⟩
    refine ⟨links, ⟨fun ch => (fetches ch).single, writes, scrubs⟩, fun ch => ?_⟩
    obtain ⟨-, room, held, waiting, wanted, idle⟩ := fetches ch
    exact ⟨room, held, waiting, wanted, idle⟩
  · rintro ⟨links, ⟨singles, writes, scrubs⟩, prefetch⟩
    refine ⟨links, writes, scrubs, fun ch => ?_⟩
    obtain ⟨room, held, waiting, wanted, idle⟩ := prefetch ch
    exact ⟨singles ch, room, held, waiting, wanted, idle⟩

/-! ### Operations outside the view -/

/-- Nothing of the store has changed, no link's phase has, and the request laws hold after where they held before. -/
structure Served (s t : State) : Prop where
  store : t.store = s.store
  powerUps : t.powerUps = s.powerUps
  phases : ∀ n, (look t.links n).phase = (look s.links n).phase
  laws : s.access.Lawful → t.access.Lawful

namespace Served

theorem of_access (h : t.access = s.access) : Served s t where
  store := congrArg Access.store h
  powerUps := congrArg Access.powerUps h
  phases n := congrFun (congrArg Access.phases h) n
  laws hs := h ▸ hs

theorem refl (s : State) : Served s s := of_access rfl

theorem trans (h : Served s t) (g : Served t u) : Served s u where
  store := g.store.trans h.store
  powerUps := g.powerUps.trans h.powerUps
  phases n := (g.phases n).trans (h.phases n)
  laws hs := g.laws (h.laws hs)

end Served

theorem access_modLink (n : LinkId) (f : Link → Link) (s : State)
    (hrequest : ∀ l, (f l).request = l.request := by exact fun _ => rfl)
    (hphase : ∀ l, (f l).phase = l.phase := by exact fun _ => rfl) : (s.modLink n f).access = s.access := by
  have asks : (fun m => (look (s.modLink n f).links m).request) = s.access.asks :=
    funext fun m => look_put_comp Link.request s.links n m _ (hrequest _)
  have phases : (fun m => (look (s.modLink n f).links m).phase) = s.access.phases :=
    funext fun m => look_put_comp Link.phase s.links n m _ (hphase _)
  exact congrArg₂ (fun asks phases => ({ s.access with asks := asks, phases := phases } : Access)) asks phases

theorem access_raiseOn (n : LinkId) (e : EventFlag) (s : State) : (s.raiseOn n e).access = s.access :=
  access_modLink n _ s

theorem access_raise (e : EventFlag) (s : State) : (s.raise e).access = s.access :=
  (access_raiseOn 1 e _).trans (access_raiseOn 0 e s)

theorem access_modChannel (ch : ChanId) (f : Channel → Channel) (s : State)
    (h : ∀ c, (f c).mode = c.mode := by exact fun _ => rfl) : (s.modChannel ch f).access = s.access := by
  have modes : (fun d => (look (s.modChannel ch f).channels d).mode) = s.access.modes :=
    funext fun d => look_put_comp Channel.mode s.channels ch d _ (h _)
  exact congrArg (fun modes => ({ s.access with modes := modes } : Access)) modes

theorem access_modTables (ch : ChanId) (f : Tables → Tables) (s : State)
    (h : ∀ t, (f t).active = t.active := by exact fun _ => rfl) : (s.modTables ch f).access = s.access := by
  have slots : (fun d => (look (s.modTables ch f).tables d).active.slots) = s.access.slots :=
    funext fun d => look_put_comp (fun t => t.active.slots) s.tables ch d _ (congrArg Bank.slots (h _))
  exact congrArg (fun slots => ({ s.access with slots := slots } : Access)) slots

theorem access_eachPin (f : PinId → State → State) (s : State) (h : ∀ i u, (f i u).access = u.access) :
    (eachPin f s).access = s.access := by simp only [eachPin, h]

theorem access_turnPins (g : PinId → MarkerPin → MarkerPin) (s : State) :
    (eachPin (fun i s => s.modPin i (g i)) s).access = s.access := access_eachPin _ s fun _ _ => rfl

theorem access_setPattern (ch : ChanId) (x : BitVec 4) (s : State) : (s.setPattern ch x).access = s.access := rfl

theorem access_freeSegment (id : SegId) (s : State) : (freeSegment id s).access = s.access := by
  unfold freeSegment
  split <;> rfl

/-! ### The write side -/

/-- The write side presents a request only where it has none, waiting or in transfer (R123). -/
theorem served_presentWriteSide (s : State) : Served s (presentWriteSide s) := by
  rw [presentWriteSide_eq]
  refine ⟨rfl, rfl, fun _ => rfl, fun h => ⟨h.links, fun hw => ?_, h.scrubs, h.fetches⟩⟩
  cases hheld : s.writeSide with
  | some r => exact h.writes (by simp [State.access, hheld])
  | none =>
    cases hport : writeInTransfer s.arbiter.port with
    | false => exact hport
    | true => simp [State.access, writeSideAfter, hheld, hport] at hw

theorem served_withdrawWriteSide (drop : WriteRequest → Bool) (s : State) : Served s (withdrawWriteSide drop s) := by
  obtain h | h := withdrawWriteSide_cases drop s <;> rw [h]
  · exact .refl s
  · exact ⟨rfl, rfl, fun _ => rfl, fun h => ⟨h.links, fun hw => (nomatch hw), h.scrubs, h.fetches⟩⟩

theorem served_dropSegmentRecords (id : SegId) (s : State) : Served s (dropSegmentRecords id s) := by
  have dropped : Served s { s with marks := s.marks.filter fun r => r.segment ≠ id
                                   writeBacks := s.writeBacks.filter fun r => r.segment ≠ id } := .of_access rfl
  exact dropped.trans (served_withdrawWriteSide _ _)

/-- A segment freed with its records dropped (R6, R144, R147). -/
theorem served_freed (id : SegId) (s : State) :
    Served s (presentWriteSide (freeSegment id (dropSegmentRecords id s))) :=
  ((served_dropSegmentRecords id s).trans (.of_access (access_freeSegment id _))).trans (served_presentWriteSide _)

/-! ### The scrubber -/

/-- The scrubber's request is the line of its read in transfer, and may be any while it has none there. -/
theorem served_scrub {x : Scrub} (h : scrubInTransfer s = true → x.request = s.scrub.request) :
    Served s { s with scrub := x } :=
  ⟨rfl, rfl, fun _ => rfl, fun hs => ⟨hs.links, hs.writes, fun hp => (h hp).trans (hs.scrubs hp), hs.fetches⟩⟩

theorem served_withdrawScrub (e : Extent) (s : State) : Served s (withdrawScrub e s) := by
  rw [withdrawScrub_eq]
  exact served_scrub fun h => if_pos h

/-- The scrubber takes a line only where it has no request, and so none in transfer (R149). -/
theorem served_takeScrubLine (a : Nat) (h : s.scrub.request = none) : Served s (takeScrubLine a s) := by
  have free : s.access.Lawful → scrubInTransfer s = false := fun hs => by
    cases hp : scrubInTransfer s with
    | false => rfl
    | true =>
      have line := (hs.scrubs hp).symm.trans h
      cases hport : s.arbiter.port with
      | none => simp [scrubInTransfer, hport] at hp
      | some x => simp [State.access, hport] at line
  have taken : ∀ x : Scrub, Served s { s with scrub := x } := fun x =>
    ⟨rfl, rfl, fun _ => rfl, fun hs => (served_scrub fun hp => by simp [free hs] at hp).laws hs⟩
  unfold takeScrubLine
  split
  · exact (taken _).trans (.of_access (access_raise _ _))
  · exact taken _

theorem served_scrubExpire (s : State) : Served s (scrubExpire s) := by
  have timed : Served s { s with scrub := { s.scrub with timer := s.scrub.interval } } := served_scrub fun _ => rfl
  unfold scrubExpire
  dsimp only
  split
  · exact timed
  · next hrequest =>
    have none : s.scrub.request = none := Option.not_isSome_iff_eq_none.mp hrequest
    split
    · exact timed
    · split
      · exact timed.trans (served_takeScrubLine _ none)
      · exact (timed.trans (.of_access (access_raise _ _))).trans (served_takeScrubLine _ none)

theorem served_scrubMicrosecond (s : State) : Served s (scrubMicrosecond s) := by
  unfold scrubMicrosecond
  split
  · exact .refl s
  · split
    · exact served_scrubExpire s
    · exact served_scrub fun _ => rfl

/-! ### The links -/

/-- An EXECUTING link with no request, waiting or in transfer, may present any (R123). -/
theorem served_presentLink (n : LinkId) (s : State) : Served s (presentLink n s) := by
  obtain h | ⟨tag, work, hphase, -, hport, h⟩ := presentLink_cases n s <;> rw [h]
  · exact .refl s
  · have phases : ∀ m, (look (s.modLink n fun l => { l with request := workRequest work }).links m).phase =
        (look s.links m).phase := fun m => look_put_comp Link.phase s.links n m _ rfl
    refine ⟨rfl, rfl, phases, fun hs => ⟨fun m hm => ?_, hs.writes, hs.scrubs, hs.fetches⟩⟩
    dsimp only [State.access] at hm ⊢
    rw [phases]
    by_cases e : n = m
    · subst e
      exact ⟨hport, by rw [hphase]; rfl⟩
    · rw [State.modLink_links, look_put_ne _ _ e] at hm
      exact hs.links m hm

end Sys2Proof.Machine
end

-- ==== A channel's work and the requests ====
section
/-! SUPPORT. Every operation of a channel keeps that channel's part of the request laws and leaves what the laws read of
everything else (`FetchWork`): a flush makes the part true of any channel (R134), and no other operation changes the
ACTIVE bank, makes a channel IDLE, or asks for a line beyond the room of the FIFO. -/

namespace Sys2Proof.Machine

open Sys2Proof

variable {s t u w : State} {n : LinkId} {ch d : ChanId}

/-! ### A read orphaned on the port -/

theorem linkOn_orphanRead (port : Option Transfer) : linkOn (orphanRead ch port) n = linkOn port n := by
  unfold orphanRead
  split <;> rfl

theorem writeInTransfer_orphanRead (port : Option Transfer) :
    writeInTransfer (orphanRead ch port) = writeInTransfer port := by
  unfold orphanRead
  split <;> rfl

theorem scrubOn_orphanRead (port : Option Transfer) : scrubOn (orphanRead ch port) = scrubOn port := by
  unfold orphanRead
  split <;> rfl

theorem readOn_orphanRead (port : Option Transfer) : readOn (orphanRead ch port) d = readOn port d := by
  unfold orphanRead
  split <;> rfl

theorem orphanRead_orphanRead (port : Option Transfer) : orphanRead ch (orphanRead ch port) = orphanRead ch port := by
  cases port with
  | none => rfl
  | some x =>
    cases x with
    | prefetch c r live => by_cases h : c = ch <;> simp [orphanRead, h]
    | _ => rfl

theorem wantedOn_orphanRead_same (port : Option Transfer) : wantedOn (orphanRead ch port) ch = none := by
  cases port with
  | none => rfl
  | some x =>
    cases x with
    | prefetch c r live =>
      by_cases h : c = ch
      · simp [orphanRead, wantedOn, h]
      · cases live <;> simp [orphanRead, wantedOn, h]
    | _ => rfl

theorem wantedOn_orphanRead_ne (h : d ≠ ch) (port : Option Transfer) :
    wantedOn (orphanRead ch port) d = wantedOn port d := by
  cases port with
  | none => rfl
  | some x =>
    cases x with
    | prefetch c r live =>
      by_cases hc : c = ch
      · cases live <;> simp [orphanRead, wantedOn, hc, h.symm]
      · simp [orphanRead, hc]
    | _ => rfl

/-! ### What is not the channel's -/

/-- The view without the channel's own part. -/
def Access.beside (ch : ChanId) (a : Access) : Access :=
  { a with
    port := orphanRead ch a.port
    prefetch := fun d => if d = ch then Prefetch.reset else a.prefetch d
    modes := fun d => if d = ch then .idle else a.modes d
    slots := fun d => if d = ch then Bank.empty.slots else a.slots d }

/-- From `s` to `t` the view has changed in the channel's own part alone. -/
def Beside (ch : ChanId) (s t : State) : Prop := t.access.beside ch = s.access.beside ch

theorem look_put_beside {α β : Type} (g : α → β) (v : Vector α 4) (x : α) (y : β) :
    (fun d => if d = ch then y else g (look (put v ch x) d)) = fun d => if d = ch then y else g (look v d) :=
  funext fun d => by
    by_cases h : d = ch
    · rw [if_pos h, if_pos h]
    · rw [if_neg h, if_neg h, look_put_ne _ _ (Ne.symm h)]

theorem beside_modChannel (f : Channel → Channel) : Beside ch s (s.modChannel ch f) :=
  congrArg (fun modes => ({ s.access.beside ch with modes := modes } : Access))
    (look_put_beside Channel.mode s.channels _ _)

theorem beside_modTables (f : Tables → Tables) : Beside ch s (s.modTables ch f) :=
  congrArg (fun slots => ({ s.access.beside ch with slots := slots } : Access))
    (look_put_beside (fun t => t.active.slots) s.tables _ _)

theorem beside_modPrefetch (f : Prefetch → Prefetch) : Beside ch s (s.modPrefetch ch f) :=
  congrArg (fun prefetch => ({ s.access.beside ch with prefetch := prefetch } : Access))
    (look_put_beside id s.prefetch _ _)

theorem beside_orphan : Beside ch s (s.setPort (orphanRead ch s.arbiter.port)) :=
  congrArg (fun port => ({ s.access.beside ch with port := port } : Access)) (orphanRead_orphanRead _)

theorem Beside.refl (ch : ChanId) (s : State) : Beside ch s s := rfl

theorem Beside.trans (h : Beside ch s t) (g : Beside ch t u) : Beside ch s u := Eq.trans g h

theorem Beside.of_access (h : t.access = s.access) : Beside ch s t := congrArg (Access.beside ch) h

theorem beside_flush (ch : ChanId) (s : State) : Beside ch s (flush ch s) :=
  Beside.trans beside_orphan (beside_modPrefetch _)

theorem beside_swapBanks (ch : ChanId) (s : State) : Beside ch s (swapBanks ch s) :=
  Beside.trans (Beside.trans (beside_modTables _) (beside_modChannel _)) (.of_access (access_raise _ _))

/-- A channel's part of the laws is untouched by another channel's work. -/
theorem FetchesAt.of_beside (h : FetchesAt s d) (hb : Beside ch s t) (hd : d ≠ ch) : FetchesAt t d := by
  have port : orphanRead ch t.arbiter.port = orphanRead ch s.arbiter.port := congrArg Access.port hb
  have prefetch : look t.prefetch d = look s.prefetch d := by
    have h := congrFun (congrArg Access.prefetch hb) d
    simp only [Access.beside, if_neg hd] at h
    exact h
  have mode : (look t.channels d).mode = (look s.channels d).mode := by
    have h := congrFun (congrArg Access.modes hb) d
    simp only [Access.beside, if_neg hd] at h
    exact h
  have slots : (look t.tables d).active.slots = (look s.tables d).active.slots := by
    have h := congrFun (congrArg Access.slots hb) d
    simp only [Access.beside, if_neg hd] at h
    exact h
  have read : readOn t.arbiter.port d = readOn s.arbiter.port d := by
    rw [← readOn_orphanRead (ch := ch), port, readOn_orphanRead]
  have wanted : wantedOn t.arbiter.port d = wantedOn s.arbiter.port d := by
    rw [← wantedOn_orphanRead_ne hd, port, wantedOn_orphanRead_ne hd]
  obtain ⟨single, room, held, waiting, wantedNamed, idle⟩ := h
  unfold FetchesAt
  rw [prefetch, mode, slots]
  exact ⟨read ▸ single, wanted ▸ room, held, waiting, wanted ▸ wantedNamed, wanted ▸ idle⟩

/-! ### A channel's work -/

/-- Work on the channel that keeps its part of the request laws. -/
structure FetchWork (ch : ChanId) (s t : State) : Prop where
  beside : Beside ch s t
  own : FetchesAt s ch → FetchesAt t ch

namespace FetchWork

theorem of_access (h : t.access = s.access) : FetchWork ch s t where
  beside := .of_access h
  own hs := by
    have port : t.arbiter.port = s.arbiter.port := congrArg Access.port h
    have prefetch : look t.prefetch ch = look s.prefetch ch := congrFun (congrArg Access.prefetch h) ch
    have mode : (look t.channels ch).mode = (look s.channels ch).mode := congrFun (congrArg Access.modes h) ch
    have slots : (look t.tables ch).active.slots = (look s.tables ch).active.slots :=
      congrFun (congrArg Access.slots h) ch
    unfold FetchesAt
    rw [port, prefetch, mode, slots]
    exact hs

theorem refl (ch : ChanId) (s : State) : FetchWork ch s s := of_access rfl

theorem trans (h : FetchWork ch s t) (g : FetchWork ch t u) : FetchWork ch s u :=
  ⟨h.beside.trans g.beside, fun hs => g.own (h.own hs)⟩

theorem raise (h : FetchWork ch s t) (e : EventFlag) : FetchWork ch s (t.raise e) :=
  h.trans (of_access (access_raise e t))

/-- The laws ask of an IDLE channel more than of any other, so a record may leave IDLE but not enter it. -/
theorem modChannel (f : Channel → Channel) (h : FetchWork ch s t)
    (hf : ∀ c, (f c).mode = .idle → c.mode = .idle := by exact fun _ h => h) : FetchWork ch s (t.modChannel ch f) := by
  refine h.trans ⟨beside_modChannel f, fun ht => ?_⟩
  unfold FetchesAt
  rw [State.modChannel_channels, look_put_same]
  exact { ht with idle := fun hm => ht.idle (hf _ hm) }

/-- A flush empties the prefetcher and orphans its read, so the channel's part holds whatever was before (R134). -/
theorem flushed (h : Beside ch s t) : FetchWork ch s (flush ch t) := by
  refine ⟨h.trans (beside_flush ch t), fun _ => ?_⟩
  have unwanted : wantedOn (flush ch t).arbiter.port ch = none := wantedOn_orphanRead_same t.arbiter.port
  unfold FetchesAt
  rw [flush_prefetch_same]
  refine ⟨fun hw => (nomatch hw), by simp [unwanted], fun l hl => (nomatch hl), fun r hr => (nomatch hr),
    fun r hr => ?_, fun _ => ⟨rfl, rfl, unwanted⟩⟩
  rw [unwanted] at hr
  cases hr

/-- The channel's work serves every requester. -/
theorem served (h : FetchWork ch s t) : Served s t := by
  have port : orphanRead ch t.arbiter.port = orphanRead ch s.arbiter.port := congrArg Access.port h.beside
  have phases := congrArg Access.phases h.beside
  refine ⟨congrArg Access.store h.beside, congrArg Access.powerUps h.beside, congrFun phases,
    fun hs => ⟨fun n hn => ?_, fun hw => ?_, fun hp => ?_, fun d => ?_⟩⟩
  · obtain ⟨off, executing⟩ := hs.links n ((congrFun (congrArg Access.asks h.beside) n) ▸ hn)
    refine ⟨?_, (congrFun phases n) ▸ executing⟩
    change linkOn t.arbiter.port n = false
    rw [← linkOn_orphanRead (ch := ch), port, linkOn_orphanRead]
    exact off
  · change writeInTransfer t.arbiter.port = false
    rw [← writeInTransfer_orphanRead (ch := ch), port, writeInTransfer_orphanRead]
    exact hs.writes ((congrArg Access.writeSide h.beside) ▸ hw)
  · have line : t.arbiter.port.map Transfer.addr = s.arbiter.port.map Transfer.addr := by
      rw [← addr_orphanRead ch, port, addr_orphanRead]
    have scrubbed : scrubOn s.arbiter.port = true := by
      rw [← scrubOn_orphanRead (ch := ch), ← port, scrubOn_orphanRead]
      exact hp
    exact ((congrArg Access.scrubbing h.beside).trans (hs.scrubs scrubbed)).trans line.symm
  · by_cases e : d = ch
    · subst e
      exact h.own (hs.fetches d)
    · exact FetchesAt.of_beside (hs.fetches d) h.beside e

end FetchWork

/-! ### The prefetcher -/

/-- The prefetcher with room, and no line on the way, may ask for one of a segment the ACTIVE bank names (R131). -/
theorem fetchWork_presentPrefetch (ch : ChanId) (s : State) : FetchWork ch s (presentPrefetch ch s) := by
  obtain h | ⟨pos, r, hwants, -, -, hrequest, h⟩ := presentPrefetch_cases ch s <;> rw [h]
  · exact .refl ch s
  · refine ⟨beside_modPrefetch _, fun hs => ?_⟩
    obtain ⟨hplays, hwaiting, hread, hroom⟩ :
        ((look s.channels ch).mode = .running ∨ (look s.channels ch).mode = .waiting) ∧
          (look s.prefetch ch).waiting = none ∧ readOn s.arbiter.port ch = false ∧
          (look s.prefetch ch).fifo.length < 64 := by
      simpa [wantsLine, prefetchInTransfer_eq, and_assoc] using hwants
    have unwanted := wantedOn_of_unread hread
    have named : namedIn (look s.tables ch).active.slots r.segment = true := by
      unfold requestFor at hrequest
      cases he : entryIn s ch pos.entry with
      | none => simp [he] at hrequest
      | some e =>
        rw [he] at hrequest
        obtain rfl := Option.some.inj hrequest
        exact namedIn_of_look he
    unfold FetchesAt
    rw [State.modPrefetch_prefetch, look_put_same]
    refine ⟨fun _ => hread, ?_, hs.held, fun q hq => ?_, hs.wanted, fun hidle => ?_⟩
    · simp [unwanted]
      omega
    · obtain rfl := Option.mem_some.mp hq
      exact named
    · obtain e | e := hplays <;> exact absurd (hidle.symm.trans e) (by decide)

/-- Lines released and requests withdrawn only make room (R130, R133). -/
theorem fetchWork_shrunk {f : Prefetch → Prefetch} (hfifo : ∀ p, (f p).fifo.Sublist p.fifo)
    (hwaiting : ∀ p, (f p).waiting = p.waiting ∨ (f p).waiting = none) : FetchWork ch s (s.modPrefetch ch f) := by
  refine ⟨beside_modPrefetch f, fun hs => ?_⟩
  generalize hp : look s.prefetch ch = p at hs
  unfold FetchesAt at hs ⊢
  rw [State.modPrefetch_prefetch, look_put_same]
  rw [hp] at hs ⊢
  obtain ⟨single, room, held, waiting, wanted, idle⟩ := hs
  have shorter := (hfifo p).length_le
  have held' : ∀ l ∈ (f p).fifo, namedIn (look s.tables ch).active.slots l.segment = true :=
    fun l hl => held l ((hfifo p).subset hl)
  have empty (h : p.fifo = []) : (f p).fifo = [] := List.sublist_nil.mp (h ▸ hfifo p)
  obtain h | h := hwaiting p
  · refine ⟨h ▸ single, ?_, held', h ▸ waiting, wanted, fun hm => ?_⟩
    · rw [h]
      exact (Nat.add_le_add_right (Nat.add_le_add_right shorter _) _).trans room
    · obtain ⟨hf, hw, hr⟩ := idle hm
      exact ⟨empty hf, h.trans hw, hr⟩
  · refine ⟨fun hw => by simp [h] at hw, ?_, held', fun r hr => by simp [h] at hr, wanted, fun hm => ?_⟩
    · rw [h, Option.toList_none, List.length_nil]
      change _ + 0 + (wantedOn s.arbiter.port ch).toList.length ≤ 64
      omega
    · obtain ⟨hf, -, hr⟩ := idle hm
      exact ⟨empty hf, h, hr⟩

theorem fetchWork_movePlay (ch : ChanId) (s : State) : FetchWork ch s (movePlay ch s) :=
  fetchWork_shrunk (fun _ => List.filter_sublist) fun _ => .inl rfl

theorem fetchWork_withdrawPrefetch (ch : ChanId) (s : State) : FetchWork ch s (withdrawPrefetch ch s) := by
  unfold withdrawPrefetch
  split
  · exact .refl ch s
  · exact fetchWork_shrunk (fun _ => .refl _) fun _ => .inr rfl

theorem fetchWork_trimToStop (ch : ChanId) (s : State) : FetchWork ch s (trimToStop ch s) := by
  obtain h | ⟨r, -, -, h⟩ := trimToStop_cases ch s <;> rw [h]
  · exact .refl ch s
  · exact fetchWork_shrunk (fun _ => .refl _) fun _ => .inr rfl

/-! ### Beginning an entry, entering IDLE, and what follows a pass -/

theorem fetchWork_enterIdle (ch : ChanId) (s : State) : FetchWork ch s (enterIdle ch s) := by
  have idle : Beside ch s (s.modChannel ch idleRecord) := beside_modChannel _
  have disposed : Beside ch s (if (look (s.modChannel ch idleRecord).channels ch).commit.isSome
      then swapBanks ch (s.modChannel ch idleRecord) else s.modChannel ch idleRecord) := by
    split
    · exact idle.trans (beside_swapBanks ch _)
    · exact idle
  exact ((FetchWork.flushed disposed).trans (.of_access (access_setPattern ch _ _))).raise _

theorem fetchWork_beginEntry (ch : ChanId) (x : SlotIx) (p : Nat) (s : State) :
    FetchWork ch s (beginEntry ch x p s) := by
  have begun : FetchWork ch s (s.modChannel ch (beginRecord (entryIn s ch x) x p)) :=
    (FetchWork.refl ch s).modChannel _
  unfold beginEntry
  dsimp only
  split
  · exact begun.modChannel _ (by exact fun _ h => nomatch h)
  · split
    · exact begun.trans (fetchWork_enterIdle ch _)
    · exact (begun.modChannel _ (by exact fun _ h => nomatch h)).raise _

theorem fetchWork_turnTo (ch : ChanId) (x : SlotIx) (s : State) : FetchWork ch s (turnTo ch x s) :=
  .flushed (fetchWork_beginEntry ch x 0 s).beside

/-- The swap of the banks is followed by a flush, so that no line of the old bank is left (R37, R64, R134). -/
theorem fetchWork_takeCommit (ch : ChanId) (x : SlotIx) (s : State) : FetchWork ch s (takeCommit ch x s) :=
  .flushed ((beside_swapBanks ch s).trans (fetchWork_beginEntry ch x 0 _).beside)

/-- Nor has an IDLE channel any (R36, R128). -/
theorem fetchWork_swapBanks_idle (h : (look s.channels ch).mode = .idle) : FetchWork ch s (swapBanks ch s) := by
  refine ⟨beside_swapBanks ch s, fun hs => ?_⟩
  obtain ⟨hfifo, hwaiting, hwanted⟩ := hs.idle h
  have prefetch : look (swapBanks ch s).prefetch ch = look s.prefetch ch := rfl
  have port : (swapBanks ch s).arbiter.port = s.arbiter.port := rfl
  unfold FetchesAt
  rw [prefetch, port]
  refine ⟨hs.single, hs.room, ?_, ?_, ?_, fun _ => ⟨hfifo, hwaiting, hwanted⟩⟩
  · simp [hfifo]
  · simp [hwaiting]
  · simp [hwanted]

theorem fetchWork_advanceTo (ch : ChanId) (x : SlotIx) (p : Nat) (s : State) : FetchWork ch s (advanceTo ch x p s) :=
  (fetchWork_movePlay ch s).trans (fetchWork_beginEntry ch x p _)

theorem fetchWork_tableEnd (ch : ChanId) (p : Nat) (s : State) : FetchWork ch s (tableEnd ch p s) := by
  unfold tableEnd
  split
  · exact fetchWork_takeCommit ch _ s
  · split
    · exact fetchWork_advanceTo ch _ p s
    · exact fetchWork_enterIdle ch s

theorem fetchWork_entryEnd (ch : ChanId) (p : Nat) (jump : Option SlotIx) (s : State) :
    FetchWork ch s (entryEnd ch p jump s) := by
  unfold entryEnd
  dsimp only
  split
  · exact fetchWork_enterIdle ch s
  · split
    · exact fetchWork_takeCommit ch _ s
    · split
      · exact fetchWork_turnTo ch _ s
      · split
        · exact fetchWork_advanceTo ch _ p s
        · exact fetchWork_tableEnd ch p s

theorem passEndRecord_mode (e : Option Entry) (p : Nat) (c : Channel) : (passEndRecord e p c).mode = c.mode := by
  rw [passEndRecord_eq]

theorem fetchWork_passEnds (ch : ChanId) (p : Nat) (jump : Option SlotIx) (s : State) :
    FetchWork ch s (passEnds ch p jump s) := by
  have signalled : (passSignalled ch s).access = s.access := access_turnPins (fun _ => invertToggle ch) _
  have counted : FetchWork ch s (passCounted ch p s) :=
    (FetchWork.of_access signalled).modChannel _ fun c h => (passEndRecord_mode _ p c).symm.trans h
  rw [passEnds_eq]
  unfold passEndDecision
  dsimp only
  split
  · exact counted.trans (fetchWork_enterIdle ch _)
  · split
    · exact counted.trans (fetchWork_entryEnd ch p jump _)
    · split
      · exact counted.trans (fetchWork_entryEnd ch p _ _)
      · exact counted.trans (fetchWork_movePlay ch _)

/-! ### START, STOP and the halt -/

theorem fetchWork_startChannel (x : SlotIx) (ch : ChanId) (s : State) : FetchWork ch s (startChannel x ch s) := by
  have turned : FetchWork ch s (turnTo ch x (s.modChannel ch startRecord)) :=
    ((FetchWork.refl ch s).modChannel _).trans (fetchWork_turnTo ch x _)
  have shown := turned.trans (.of_access (access_turnPins (fun _ => restoreToggle ch) _))
  exact ((shown.trans (.of_access (access_setPattern ch 0#4 _))).raise _).trans (fetchWork_presentPrefetch ch _)

theorem fetchWork_stopChannel (mode : StopMode) (ch : ChanId) (s : State) :
    FetchWork ch s (stopChannel mode ch s) := by
  unfold stopChannel
  split
  · exact .refl ch s
  · exact fetchWork_enterIdle ch s
  · exact fetchWork_enterIdle ch s
  · exact (((FetchWork.refl ch s).modChannel _).trans (fetchWork_trimToStop ch _)).trans
      (fetchWork_presentPrefetch ch _)

theorem fetchWork_haltChannel (ch : ChanId) (s : State) : FetchWork ch s (haltChannel ch s) := by
  have halted : FetchWork ch s (s.modChannel ch haltRecord) :=
    (FetchWork.refl ch s).modChannel haltRecord fun _ h => nomatch h
  have emptied := halted.trans (.of_access (access_turnPins (fun _ => emptyMarkerPath ch) _))
  unfold haltChannel
  dsimp only
  split
  · exact (emptied.trans (fetchWork_withdrawPrefetch ch _)).raise _
  · exact .refl ch s

/-! ### One channel's parts of the tick -/

theorem fetchWork_carryStop (ch : ChanId) (s : State) : FetchWork ch s (carryStop ch s) := by
  unfold carryStop
  dsimp only
  split
  · exact fetchWork_enterIdle ch s
  · exact .refl ch s

theorem fetchWork_takeFirings (fired : BitVec 4) (ch : ChanId) (s : State) :
    FetchWork ch s (takeFirings fired ch s) := by
  have same := FetchWork.refl ch s
  unfold takeFirings
  split
  · exact same.modChannel _ (by exact fun _ h => nomatch h)
  · split
    · exact same
    · split
      · exact same.modChannel _
      · exact same

theorem fetchWork_handComputed (ch : ChanId) (z : Int) (s : State) : FetchWork ch s (handComputed ch z s) := by
  have handed : FetchWork ch s (s.modChannel ch fun c =>
      handCode (BitVec.ofInt 16 (clampCode (roundValue z))) { c with underrunEpisode := false }) :=
    (FetchWork.refl ch s).modChannel _
  have clipped := handed.modChannel clipRecord
  unfold handComputed
  dsimp only
  split
  · exact handed
  · split
    · exact clipped
    · exact clipped.raise _

theorem fetchWork_handOver (values : ChanId → TickValue) (ch : ChanId) (s : State) :
    FetchWork ch s (handOver values ch s) := by
  have same := FetchWork.refl ch s
  unfold handOver
  dsimp only
  split
  · exact same.modChannel _
  · exact same.modChannel _
  · split <;> exact same.modChannel _
  · split
    · exact fetchWork_handComputed ch _ s
    · split
      · exact same.modChannel _
      · exact (same.modChannel _).raise _
    · exact same.modChannel _
    · exact same.modChannel _

theorem fetchWork_showPattern (ch : ChanId) (s : State) : FetchWork ch s (showPattern ch s) := by
  unfold showPattern
  split
  · split
    · exact .refl ch s
    · exact .of_access rfl
  · exact .refl ch s

theorem fetchWork_advance (jumps : ChanId → Option SlotIx) (ch : ChanId) (s : State) :
    FetchWork ch s (advance jumps ch s) := by
  unfold advance
  dsimp only
  split
  · split
    · exact fetchWork_passEnds ch _ _ s
    · have moved : FetchWork ch s (s.modChannel ch fun c =>
          { c with phase := (look s.channels ch).phase + (look s.channels ch).currentStep }) :=
        (FetchWork.refl ch s).modChannel _
      have played := moved.trans (fetchWork_movePlay ch _)
      split <;> split
      · exact moved
      · exact played
      · exact moved.trans (fetchWork_entryEnd ch _ _ _)
      · exact played.trans (fetchWork_entryEnd ch _ _ _)
  · exact .refl ch s

/-! ### Work on every channel, the tick and the time base -/

theorem served_foldl {f : ChanId → State → State} (hf : ∀ ch u, FetchWork ch u (f ch u)) (l : List ChanId) :
    ∀ s, Served s (l.foldl (fun u ch => f ch u) s) := by
  induction l with
  | nil => exact Served.refl
  | cons ch l ih => exact fun s => (hf ch s).served.trans (ih _)

theorem served_eachChannel {f : ChanId → State → State} (hf : ∀ ch u, FetchWork ch u (f ch u)) (s : State) :
    Served s (eachChannel f s) := by
  rw [eachChannel_eq]
  exact served_foldl hf _ s

theorem access_evaluate (k : CondId) (s : State) : (evaluate k s).access = s.access := by
  unfold evaluate
  dsimp only
  split
  · exact access_raise _ _
  · rfl

theorem access_eachCond_evaluate (s : State) : (eachCond evaluate s).access = s.access := by
  simp only [eachCond, access_evaluate]

theorem access_markerTick (fired : BitVec 4) (i : PinId) (s : State) : (markerTick fired i s).access = s.access := rfl

theorem served_tickHanded (levels : BitVec 8) (s : State) : Served s (tickHanded levels s) := by
  have sampled : Served s (sampleInputs levels s) := .of_access rfl
  have opened : Served s (tickOpening levels s) := sampled.trans (served_eachChannel fetchWork_carryStop _)
  have ready : Served s (tickFirings (tickOpening levels s)) :=
    (opened.trans (.of_access (access_eachCond_evaluate _))).trans (served_eachChannel (fetchWork_takeFirings _) _)
  unfold tickHanded
  exact ((ready.trans (served_eachChannel (fetchWork_handOver _) _)).trans
    (served_eachChannel fetchWork_showPattern _)).trans (.of_access (access_eachPin _ _ (access_markerTick _)))

theorem served_tick (levels : BitVec 8) (s : State) : Served s (tick levels s) := by
  rw [tick_eq]
  exact ((served_tickHanded levels s).trans (served_eachChannel (fetchWork_advance _) _)).trans
    (served_eachChannel fetchWork_presentPrefetch _)

theorem served_gateEnd (s : State) : Served s (gateEnd s) := by
  have gated : Served s { s with monitor := gateRecord s.monitor } := .of_access rfl
  unfold gateEnd
  dsimp only
  split
  · exact (gated.trans (served_eachChannel fetchWork_haltChannel _)).trans (.of_access (access_raise _ _))
  · split
    · exact gated.trans (.of_access (access_raise _ _))
    · exact gated

theorem served_microsecond (s : State) : Served s (microsecond s) := by
  have gate : Served s (gateMicrosecond s) := by
    unfold gateMicrosecond
    split
    · exact served_gateEnd s
    · exact .of_access rfl
  exact gate.trans (served_scrubMicrosecond _)

end Sys2Proof.Machine
end

-- ==== The commands and the requests ====
section
/-! SUPPORT. Every command that no store transfer ends with, and no power-on is, leaves the store and keeps the request
laws (`Kept`). A command taken meets a link that is FREE, so that the link has no request the answer could leave
behind. -/

namespace Sys2Proof.Machine

open Sys2Proof

variable {s t u w : State} {n m : LinkId} {ch : ChanId}

/-! ### Work that a link's phase may change in -/

/-- Nothing of the store has changed, and the request laws hold after where they held before. -/
structure Kept (s t : State) : Prop where
  store : t.store = s.store
  powerUps : t.powerUps = s.powerUps
  laws : s.access.Lawful → t.access.Lawful

theorem Served.kept (h : Served s t) : Kept s t := ⟨h.store, h.powerUps, h.laws⟩

theorem Kept.refl (s : State) : Kept s s := (Served.refl s).kept

theorem Kept.of_access (h : t.access = s.access) : Kept s t := (Served.of_access h).kept

theorem Kept.trans (h : Kept s t) (g : Kept t u) : Kept s u :=
  ⟨g.store.trans h.store, g.powerUps.trans h.powerUps, fun hs => g.laws (h.laws hs)⟩

/-- A link that is not EXECUTING has no request (R123). -/
theorem unasked_of_idle (h : isExecuting (look s.links n).phase = false) (hs : s.access.Lawful) :
    (look s.links n).request = none := by
  cases hr : (look s.links n).request with
  | none => rfl
  | some x =>
    obtain ⟨-, hexec⟩ := hs.links n (by simp [State.access, hr])
    exact absurd (h.symm.trans hexec) Bool.false_ne_true

/-- A link with no request may take any phase. -/
theorem lawful_modLink (f : Link → Link) (hs : s.access.Lawful) (hrequest : (look s.links n).request = none)
    (hf : ∀ l, (f l).request = l.request := by exact fun _ => rfl) : (s.modLink n f).access.Lawful := by
  refine ⟨fun m hm => ?_, hs.writes, hs.scrubs, hs.fetches⟩
  dsimp only [State.access, State.modLink_links] at hm ⊢
  by_cases e : n = m
  · subst e
    rw [look_put_same, hf, hrequest] at hm
    cases hm
  · rw [look_put_ne _ _ e] at hm ⊢
    exact hs.links m hm

theorem kept_modLink (f : Link → Link) (h : isExecuting (look s.links n).phase = false)
    (hf : ∀ l, (f l).request = l.request := by exact fun _ => rfl) : Kept s (s.modLink n f) :=
  ⟨rfl, rfl, fun hs => lawful_modLink f hs (unasked_of_idle h hs) hf⟩

/-- What a link answers after work that serves every requester. -/
theorem kept_respond (h : isExecuting (look s.links n).phase = false) {tag : Byte} {status : Status} {p : List Byte}
    (hw : Served s w) : Kept s (respond n tag status p w) :=
  (hw.kept.trans (kept_modLink _ ((congrArg isExecuting (hw.phases n)).trans h))).trans (.of_access (access_raiseOn ..))

theorem kept_refuse (h : isExecuting (look s.links n).phase = false) {tag : Byte} {status : Status} :
    Kept s (refuse n tag status s) := kept_respond h (.refl s)

/-- A long command is taken on, and its first request presented where no transfer of the link is on the port (R123). -/
theorem kept_execute (h : isExecuting (look s.links n).phase = false) {tag : Byte} {work : LongWork} (hw : Served s w) :
    Kept s (execute n tag work w) :=
  (hw.kept.trans (kept_modLink _ ((congrArg isExecuting (hw.phases n)).trans h))).trans (served_presentLink n _).kept

/-! ### Transfers and frames -/

theorem kept_hearTransfer {judge : State → State} (h : Kept s (judge s)) : Kept s (hearTransfer n judge s) := by
  obtain ⟨-, e⟩ | ⟨-, -, e⟩ | ⟨-, -, e⟩ := hearTransfer_cases n judge s <;> rw [e]
  · exact .refl s
  · exact .of_access (access_modLink ..)
  · exact h

/-- The command of a frame is judged in a state whose link is FREE (R168). -/
theorem kept_takeFrame {tag code : Byte} {p : List Byte} {judge : State → State}
    (h : ∀ u, isExecuting (look u.links n).phase = false → Kept u (judge u)) :
    Kept s (takeFrame n tag code p judge s) := by
  have driven : Kept s (driveZeros n (5 + p.length) s) := .of_access (access_modLink ..)
  refine kept_hearTransfer ?_
  unfold judgeFrame
  dsimp only
  split
  · exact driven.trans (.of_access (access_raiseOn ..))
  · split
    · next hfree =>
      have idle : isExecuting (look (driveZeros n (5 + p.length) s).links n).phase = false := by rw [hfree]; rfl
      split
      · exact driven.trans (kept_refuse idle)
      · exact driven.trans (h _ idle)
    · exact driven.trans (.of_access (access_raiseOn ..))
    · exact driven.trans (.of_access (access_raiseOn ..))

/-- A fetch frees a HOLDING link alone (R172). -/
theorem kept_fetchResponse (n : LinkId) (count : Nat) (s : State) : Kept s (fetchResponse n count s) := by
  unfold fetchResponse
  split
  · exact .refl s
  · cases hphase : isExecuting (look s.links n).phase with
    | false => exact kept_modLink _ hphase
    | true =>
      have unfetched : fetchedWhole (look s.links n).phase count = false := by
        cases hp : (look s.links n).phase with
        | holding r => simp [hp, isExecuting] at hphase
        | _ => rfl
      refine .of_access ?_
      have same : (s.modLink n fun l =>
          { l with sdo := fetchBytes l.phase count, phase := if fetchedWhole l.phase count then .free else l.phase }) =
          s.modLink n fun l => { l with sdo := fetchBytes (look s.links n).phase count } := by
        simp only [State.modLink, unfetched, Bool.false_eq_true, if_false]
      rw [same]
      exact access_modLink ..

/-! ### The judgements -/

theorem access_setStagedSlot (x : SlotIx) (e : Option Entry) (s : State) :
    (setStagedSlot n ch x e s).access = s.access := by
  unfold setStagedSlot
  dsimp only
  refine (access_modTables ch _ _).trans ?_
  rw [adjustRefs_eq]
  rfl

theorem scaleRecord_mode (x : Scale) (held : Bool) (c : Channel) : (scaleRecord x held c).mode = c.mode := by
  rw [scaleRecord_eq]
  split <;> rfl

theorem rateRecord_mode (e : Option Entry) (step : Nat) (held : Bool) (c : Channel) :
    (rateRecord e step held c).mode = c.mode := by
  rw [rateRecord_eq]
  split
  · rfl
  · split <;> rfl

section

variable (h : isExecuting (look s.links n).phase = false) (tag : Byte) (p : List Byte)
include h

theorem kept_createSegment : Kept s (createSegment n tag p s) := by
  unfold createSegment
  dsimp only
  split
  · exact kept_refuse h
  · split
    · exact kept_refuse h
    · split
      · exact kept_respond h (.refl s)
      · exact kept_execute h (.of_access (access_raise ..))

theorem kept_writeSamples : Kept s (writeSamples n tag p s) := by
  unfold writeSamples
  dsimp only
  split
  · exact kept_refuse h
  · split
    · exact kept_refuse h
    · split
      · split
        · exact kept_refuse h
        · split
          · exact kept_refuse h
          · exact kept_execute h (.refl s)
      · exact kept_refuse h
      · exact kept_refuse h

theorem kept_acceptRead (id : SegId) (offset count : Nat) : Kept s (acceptRead n tag id offset count s) := by
  unfold acceptRead
  split
  · exact kept_refuse h
  · exact kept_execute h (.refl s)

theorem kept_readSamples : Kept s (readSamples n tag p s) := by
  unfold readSamples
  dsimp only
  split
  · exact kept_refuse h
  · split
    · exact kept_refuse h
    · split
      · exact kept_refuse h
      · exact kept_acceptRead h tag _ _ _
    · exact kept_acceptRead h tag _ _ _

theorem kept_finishSegment : Kept s (finishSegment n tag p s) := by
  unfold finishSegment
  dsimp only
  split
  · split
    · exact kept_refuse h
    · exact kept_respond h (.of_access (access_raise ..))
  · exact kept_refuse h
  · exact kept_refuse h

theorem kept_abandonSegment : Kept s (abandonSegment n tag p s) := by
  unfold abandonSegment
  dsimp only
  split
  · split
    · exact kept_refuse h
    · exact kept_respond h ((served_freed _ s).trans (.of_access (access_raise ..)))
  · exact kept_refuse h
  · exact kept_refuse h

theorem kept_deleteSegment : Kept s (deleteSegment n tag p s) := by
  unfold deleteSegment
  dsimp only
  split
  · split
    · exact kept_refuse h
    · split
      · exact kept_refuse h
      · exact kept_respond h
          (((served_withdrawScrub _ s).trans (served_freed _ _)).trans (.of_access (access_raise ..)))
  · exact kept_refuse h
  · exact kept_refuse h

theorem kept_writeEntry : Kept s (writeEntry n tag p s) := by
  unfold writeEntry
  split
  · split
    · exact kept_refuse h
    · split
      · exact kept_refuse h
      · split
        · exact kept_respond h (.of_access (access_setStagedSlot ..))
        · exact kept_refuse h
  · exact kept_refuse h

theorem kept_clearEntry : Kept s (clearEntry n tag p s) := by
  unfold clearEntry
  split
  · split
    · exact kept_refuse h
    · exact kept_respond h (.of_access (access_setStagedSlot ..))
  · exact kept_refuse h

theorem kept_setTableEnd : Kept s (setTableEnd n tag p s) := by
  unfold setTableEnd
  split
  · split
    · exact kept_refuse h
    · exact kept_respond h (.of_access (access_modTables ..))
  · exact kept_refuse h

theorem kept_cancelCommit : Kept s (cancelCommit n tag p s) := by
  unfold cancelCommit
  split
  · exact kept_refuse h
  · split
    · exact kept_respond h (.of_access (access_modChannel ..))
    · exact kept_refuse h

theorem kept_discardStaged : Kept s (discardStaged n tag p s) := by
  have copied (ch : ChanId) : (copyActive ch s).access = s.access := by
    obtain ⟨slots, e⟩ := copyActive_changes ch s
    rw [e]
    exact access_modTables ch (fun t => { t with staged := t.active, editor := none }) { s with slots := slots }
  unfold discardStaged
  split
  · exact kept_refuse h
  · split
    · exact kept_refuse h
    · exact kept_respond h (.of_access (copied _))

/-- The banks of an IDLE channel may be swapped as they are, for it holds and asks for no line (R36, R128). -/
theorem kept_acceptCommit (ch : ChanId) (k : Commit) : Kept s (acceptCommit n tag ch k s) := by
  have edited : Served s (s.modTables ch fun t => { t with editor := none }) := .of_access (access_modTables ..)
  unfold acceptCommit
  dsimp only
  split
  · next hidle => exact kept_respond h (edited.trans (fetchWork_swapBanks_idle hidle).served)
  · exact kept_respond h
      ((edited.trans (fetchWork_takeCommit ch _ _).served).trans (fetchWork_presentPrefetch ch _).served)
  · exact kept_respond h (edited.trans (.of_access (access_modChannel ..)))

theorem kept_commitTable : Kept s (commitTable n tag p s) := by
  unfold commitTable
  split
  · split
    · exact kept_refuse h
    · split
      · exact kept_respond h (.refl s)
      · exact kept_acceptCommit h tag _ _
  · exact kept_refuse h

theorem kept_readEntry : Kept s (readEntry n tag p s) := by
  unfold readEntry
  split
  · exact kept_respond h (.refl s)
  · exact kept_refuse h

theorem kept_tableStatus : Kept s (tableStatus n tag p s) := by
  unfold tableStatus
  split
  · exact kept_refuse h
  · exact kept_respond h (.refl s)

theorem kept_startChannels : Kept s (startChannels n tag p s) := by
  unfold startChannels
  split
  · split
    · exact kept_respond h (.refl s)
    · exact kept_respond h (served_foldl (fetchWork_startChannel _) _ s)
  · exact kept_refuse h

theorem kept_stopChannels : Kept s (stopChannels n tag p s) := by
  unfold stopChannels
  split
  · exact kept_respond h (served_foldl (fetchWork_stopChannel _) _ s)
  · exact kept_refuse h

theorem kept_channelStatus : Kept s (channelStatus n tag p s) := by
  unfold channelStatus
  split
  · refine kept_respond h ?_
    split
    · exact .of_access (access_modChannel ..)
    · exact .refl s
  · exact kept_refuse h

theorem kept_channelSettings : Kept s (channelSettings n tag p s) := by
  unfold channelSettings
  split
  · exact kept_refuse h
  · exact kept_respond h (.refl s)

theorem kept_setScale : Kept s (setScale n tag p s) := by
  unfold setScale
  split
  · exact kept_respond h (.of_access (access_modChannel _ _ s (scaleRecord_mode _ _)))
  · exact kept_refuse h

theorem kept_setRate : Kept s (setRate n tag p s) := by
  unfold setRate
  split
  · exact kept_respond h (.of_access (access_modChannel _ _ s (rateRecord_mode _ _ _)))
  · exact kept_refuse h

theorem kept_setChannelConfig : Kept s (setChannelConfig n tag p s) := by
  unfold setChannelConfig
  split
  · split
    · exact kept_refuse h
    · split
      · exact kept_refuse h
      · exact kept_respond h (.of_access (access_modChannel ..))
  · exact kept_refuse h

theorem kept_setCondition : Kept s (setCondition n tag p s) := by
  unfold setCondition
  dsimp only
  split
  · split
    · exact kept_refuse h
    · exact kept_respond h (.of_access rfl)
  · exact kept_refuse h

theorem kept_setConditionEnable : Kept s (setConditionEnable n tag p s) := by
  unfold setConditionEnable
  split
  · exact kept_respond h (.of_access rfl)
  · exact kept_refuse h

theorem kept_fireCondition : Kept s (fireCondition n tag p s) := by
  unfold fireCondition
  split
  · exact kept_refuse h
  · split
    · exact kept_respond h (.of_access rfl)
    · exact kept_refuse h

theorem kept_conditionStatus : Kept s (conditionStatus n tag p s) := by
  unfold conditionStatus
  split
  · refine kept_respond h ?_
    split
    · exact .of_access rfl
    · exact .refl s
  · exact kept_refuse h

theorem kept_setMarker : Kept s (setMarker n tag p s) := by
  unfold setMarker
  split
  · exact kept_respond h (.of_access rfl)
  · exact kept_refuse h

/-- The interval set to 0 withdraws the scrub request only where it is not in transfer (R150). -/
theorem kept_setScrub : Kept s (setScrub n tag p s) := by
  unfold setScrub
  dsimp only
  split
  · exact kept_refuse h
  · exact kept_respond h (served_scrub fun hp => by simp [scrubRecord, hp])

theorem kept_setClockWindow : Kept s (setClockWindow n tag p s) := by
  unfold setClockWindow
  split
  · exact kept_refuse h
  · exact kept_respond h (.of_access rfl)

theorem kept_ackEvents : Kept s (ackEvents n tag p s) :=
  (kept_respond h (.refl s)).trans (.of_access (access_modLink ..))

theorem kept_setEventMask : Kept s (setEventMask n tag p s) := kept_respond h (.of_access (access_modLink ..))

end

end Sys2Proof.Machine
end

-- ==== Every command and the requests ====
section
/-! SUPPORT. The link reset and the grant keep the request laws; and of the commands that no store transfer ends with,
only the power-on reset changes the store (`exec_kept`). -/

namespace Sys2Proof.Machine

open Sys2Proof

variable {s t u w : State} {n m : LinkId} {ch d : ChanId} {port port' : Option Transfer}

/-! ### The port changes hands -/

/-- A channel's part of the laws reads nothing of the port but the channel's own read. -/
theorem Fetches.of_port {p : Prefetch} {mode : ChannelMode} {slots : Vector (Option Entry) 64}
    (h : Fetches port ch p mode slots) (hread : readOn port' ch = readOn port ch)
    (hwanted : wantedOn port' ch = wantedOn port ch) : Fetches port' ch p mode slots := by
  obtain ⟨single, room, held, waiting, wanted, idle⟩ := h
  exact ⟨hread ▸ single, hwanted ▸ room, held, waiting, hwanted ▸ wanted, hwanted ▸ idle⟩

/-- Without a read on the port less is asked of the channel. -/
theorem Fetches.unread {p : Prefetch} {mode : ChannelMode} {slots : Vector (Option Entry) 64}
    (h : Fetches port ch p mode slots) (hread : readOn port' ch = false) : Fetches port' ch p mode slots := by
  have unwanted := wantedOn_of_unread hread
  obtain ⟨-, room, held, waiting, -, idle⟩ := h
  refine ⟨fun _ => hread, ?_, held, waiting, fun r hr => ?_, fun hm => ?_⟩
  · rw [unwanted]
    exact (Nat.le_add_right _ _).trans room
  · rw [unwanted] at hr
    cases hr
  · obtain ⟨hfifo, hwaiting, -⟩ := idle hm
    exact ⟨hfifo, hwaiting, unwanted⟩

/-- The port free or in the hands of neither a link nor a prefetcher. -/
theorem Access.Lawful.handed {x : Access} (hs : x.Lawful) {side : Option WriteRequest}
    (hlinks : ∀ n, linkOn port n = false) (hreads : ∀ ch, readOn port ch = false) (hwrites : side.isSome → writeInTransfer port = false)
    (hscrubs : scrubOn port = true → x.scrubbing = port.map Transfer.addr) :
    { x with port := port, writeSide := side }.Lawful :=
  ⟨fun n hn => ⟨hlinks n, (hs.links n hn).2⟩, hwrites, hscrubs, fun ch => (hs.fetches ch).unread (hreads ch)⟩

/-! ### Link reset -/

theorem linkOn_orphanLink (n : LinkId) (port : Option Transfer) : linkOn (orphanLink n port) m = linkOn port m := by
  unfold orphanLink
  split <;> rfl

theorem readOn_orphanLink (n : LinkId) (port : Option Transfer) : readOn (orphanLink n port) ch = readOn port ch := by
  unfold orphanLink
  split <;> rfl

theorem wantedOn_orphanLink (n : LinkId) (port : Option Transfer) :
    wantedOn (orphanLink n port) ch = wantedOn port ch := by
  unfold orphanLink
  split <;> rfl

theorem scrubOn_orphanLink (n : LinkId) (port : Option Transfer) : scrubOn (orphanLink n port) = scrubOn port := by
  unfold orphanLink
  split <;> rfl

/-- The link has no request left, and its transfer, orphaned, stays the link's (R175). -/
theorem kept_linkSilenced (n : LinkId) (s : State) : Kept s (linkSilenced n s) := by
  refine ⟨rfl, rfl, fun hs => ⟨fun m hm => ?_, fun hw => ?_, fun hp => ?_, fun ch => ?_⟩⟩
  · dsimp only [State.access, linkSilenced, State.setPort, State.modLink] at hm ⊢
    rw [linkOn_orphanLink]
    by_cases e : n = m
    · subst e
      rw [look_put_same] at hm
      cases hm
    · rw [look_put_ne _ _ e] at hm ⊢
      exact hs.links m hm
  · exact (writeInTransfer_orphanLink n _).trans (hs.writes hw)
  · exact (hs.scrubs ((scrubOn_orphanLink n _).symm.trans hp)).trans (addr_orphanLink n _).symm
  · exact (hs.fetches ch).of_port (readOn_orphanLink n _) (wantedOn_orphanLink n _)

theorem served_freeOwned (n : LinkId) (id : SegId) (s : State) : Served s (freeOwned n id s) := by
  unfold freeOwned
  split
  · exact (served_dropSegmentRecords id s).trans (.of_access (access_freeSegment id _))
  · exact .refl s

theorem served_freeAllOwned (n : LinkId) (s : State) : Served s (freeAllOwned n s) := by
  unfold freeAllOwned
  induction List.finRange 256 generalizing s with
  | nil => exact .refl s
  | cons id ids ih => exact (served_freeOwned n id s).trans (ih _)

theorem access_editorsReleased (n : LinkId) (s : State) : (editorsReleased n s).access = s.access := by
  have released (ch : ChanId) (u : State) : (u.modTables ch (releaseEditor n)).access = u.access :=
    access_modTables ch _ u fun t => (releaseEditor_banks n t).1
  simp only [editorsReleased, eachChannel, released]

theorem kept_linkResets (n : LinkId) (s : State) : Kept s (linkResets n s) := by
  have freed : Kept s (freeAllOwned n (linkSilenced n s)) :=
    (kept_linkSilenced n s).trans (served_freeAllOwned n _).kept
  have released := freed.trans (.of_access (access_editorsReleased n _))
  rw [linkResets_eq]
  split
  · exact (released.trans (.of_access (access_raiseOn ..))).trans (served_presentWriteSide _).kept
  · exact released.trans (served_presentWriteSide _).kept

/-! ### The grant -/

/-- A prefetch request granted goes on counting as the channel's line on the way (R131). -/
theorem kept_grantPrefetch (h : s.arbiter.port = none) (ch : ChanId) : Kept s (grantPrefetch ch s) := by
  unfold grantPrefetch
  split
  · exact .refl s
  · next r hr =>
    refine ⟨rfl, rfl, fun hs => ⟨fun m hm => ⟨rfl, (hs.links m hm).2⟩, fun _ => rfl, fun hp => (nomatch hp),
      fun d => ?_⟩⟩
    have hd : Fetches none d (look s.prefetch d) (look s.channels d).mode (look s.tables d).active.slots :=
      h ▸ hs.fetches d
    change Fetches (some (.prefetch ch r true)) d
      (look (put s.prefetch ch { look s.prefetch ch with waiting := none }) d) (look s.channels d).mode
      (look s.tables d).active.slots
    by_cases e : ch = d
    · subst e
      obtain ⟨-, room, held, waiting, -, idle⟩ := hd
      rw [hr] at room waiting idle
      have onPort : wantedOn (some (.prefetch ch r true)) ch = some r := if_pos rfl
      rw [look_put_same]
      refine ⟨fun hw => (nomatch hw), ?_, held, fun q hq => (nomatch hq), ?_, fun hm => nomatch (idle hm).2.1⟩
      · rw [onPort]
        exact room
      · rw [onPort]
        exact waiting
    · rw [look_put_ne _ _ e]
      exact hd.unread (decide_eq_false e)

/-- The link's request granted is its transfer on the port (R123). -/
theorem kept_linkGranted (n : LinkId) (x : LinkXfer) (s : State) : Kept s (linkGranted n x s) := by
  refine ⟨rfl, rfl, fun hs => ⟨fun m hm => ?_, fun _ => rfl, fun hp => (nomatch hp),
    fun d => (hs.fetches d).unread rfl⟩⟩
  dsimp only [State.access, linkGranted] at hm ⊢
  by_cases e : n = m
  · subst e
    rw [look_put_same] at hm
    cases hm
  · rw [look_put_ne _ _ e] at hm ⊢
    exact ⟨decide_eq_false e, (hs.links m hm).2⟩

theorem served_linkGrantMark (x : LinkXfer) (s : State) : Served s (linkGrantMark x s) := by
  cases x with
  | zeroWrite a =>
    have cleared : Served s { s with marks := s.marks.filter fun r => r.addr ≠ a } := .of_access rfl
    exact (cleared.trans (served_withdrawWriteSide _ _)).trans (served_presentWriteSide _)
  | lineWrite a data =>
    rw [linkGrantMark, clearMarkAtGrant_eq]
    refine .trans (.trans (.of_access ?_) (served_withdrawWriteSide _ _)) (served_presentWriteSide _)
    rfl
  | mergeRead a => exact .refl s
  | sampleRead a => exact .refl s

theorem kept_grantLink (n : LinkId) (s : State) : Kept s (grantLink n s) := by
  cases h : (look s.links n).request with
  | none =>
    unfold grantLink
    rw [h]
    exact .refl s
  | some x =>
    rw [grantLink_eq h]
    exact (kept_linkGranted n x s).trans (served_linkGrantMark x _).kept

/-- The scrubber's request granted stays its own to the end of the transfer (R149). -/
theorem kept_grantScrub (s : State) : Kept s (grantScrub s) := by
  unfold grantScrub
  split
  · exact .refl s
  · next a ha =>
    exact ⟨rfl, rfl, fun hs => hs.handed (fun _ => rfl) (fun _ => rfl) (fun _ => rfl) fun _ => ha⟩

/-- The write side's request granted is its own no longer (R123). -/
theorem kept_grantWriteSide (s : State) : Kept s (grantWriteSide s) := by
  unfold grantWriteSide
  split
  · exact .refl s
  · exact ⟨rfl, rfl, fun hs => hs.handed (fun _ => rfl) (fun _ => rfl) (fun h => nomatch h) fun h => nomatch h⟩
  · exact ⟨rfl, rfl, fun hs => hs.handed (fun _ => rfl) (fun _ => rfl) (fun h => nomatch h) fun h => nomatch h⟩

theorem kept_grantDecision (h : s.arbiter.port = none) : Kept s (grantDecision s) := by
  unfold grantDecision
  split
  · exact (kept_grantPrefetch h _).trans (.of_access rfl)
  · split
    · exact kept_grantLink _ s
    · split
      · exact (kept_grantPrefetch h _).trans (.of_access rfl)
      · split
        · exact kept_grantScrub s
        · exact kept_grantWriteSide s
        · exact .refl s

theorem kept_storeGrant (s : State) : Kept s (if s.arbiter.port.isSome then s else grantDecision s) := by
  split
  · exact .refl s
  · next h => exact kept_grantDecision (Option.not_isSome_iff_eq_none.mp h)

/-! ### Every command -/

/-- Every command but the end of a transfer and the power-on reset leaves the store and keeps the request laws. -/
theorem exec_kept {c : Instr} (hend : c.endsTransfer = false) (hreset : ∀ selected, c ≠ .powerOnReset selected)
    (hexec : exec c s = .next t) : Kept s t := by
  have frame : ∀ {n tag code p judge}, Host.Outcome.next (takeFrame n tag code p judge s) =
      (Host.Outcome.next t : Result) → (∀ u, isExecuting (look u.links n).phase = false → Kept u (judge u)) →
      Kept s t := by
    intro n tag code p judge e hj
    cases e
    exact kept_takeFrame hj
  have ticks : ∀ {levels} {b : Bool}, Host.Outcome.next (if b then tick levels s else s) =
      (Host.Outcome.next t : Result) → Kept s t := by
    intro levels b e
    cases e
    split
    · exact (served_tick levels s).kept
    · exact .refl s
  cases c with
  | powerOnReset selected => exact absurd rfl (hreset selected)
  | linkReset n =>
    cases hexec
    exact kept_linkResets n s
  | linkResetRelease n selected =>
    cases hexec
    split
    · exact .of_access (access_modLink ..)
    · exact .refl s
  | frameError n bytes =>
    cases hexec
    split
    · refine kept_hearTransfer (.of_access ?_)
      exact (access_raiseOn ..).trans (access_modLink ..)
    · split
      · exact kept_hearTransfer (.refl s)
      · exact .refl s
  | commandDropped n tag code p =>
    cases hexec
    split
    · exact .refl s
    · exact kept_takeFrame fun u _ => .refl u
  | unknownCommand n tag code p =>
    cases hexec
    split
    · exact .refl s
    · exact kept_takeFrame fun _ hu => kept_refuse hu
  | responseFetch n count =>
    cases hexec
    exact kept_hearTransfer (kept_fetchResponse n count s)
  | identify n tag p => exact frame hexec fun u hu => kept_respond hu (.refl u)
  | createSegment n tag p => exact frame hexec fun _ hu => kept_createSegment hu tag p
  | writeSamples n tag p => exact frame hexec fun _ hu => kept_writeSamples hu tag p
  | finishSegment n tag p => exact frame hexec fun _ hu => kept_finishSegment hu tag p
  | abandonSegment n tag p => exact frame hexec fun _ hu => kept_abandonSegment hu tag p
  | deleteSegment n tag p => exact frame hexec fun _ hu => kept_deleteSegment hu tag p
  | readSamples n tag p => exact frame hexec fun _ hu => kept_readSamples hu tag p
  | querySegment n tag p => exact frame hexec fun u hu => kept_respond hu (.refl u)
  | findTag n tag p => exact frame hexec fun u hu => kept_respond hu (.refl u)
  | libraryStatus n tag p => exact frame hexec fun u hu => kept_respond hu (.refl u)
  | writeEntry n tag p => exact frame hexec fun _ hu => kept_writeEntry hu tag p
  | clearEntry n tag p => exact frame hexec fun _ hu => kept_clearEntry hu tag p
  | setTableEnd n tag p => exact frame hexec fun _ hu => kept_setTableEnd hu tag p
  | commitTable n tag p => exact frame hexec fun _ hu => kept_commitTable hu tag p
  | cancelCommit n tag p => exact frame hexec fun _ hu => kept_cancelCommit hu tag p
  | discardStaged n tag p => exact frame hexec fun _ hu => kept_discardStaged hu tag p
  | readEntry n tag p => exact frame hexec fun _ hu => kept_readEntry hu tag p
  | tableStatus n tag p => exact frame hexec fun _ hu => kept_tableStatus hu tag p
  | start n tag p => exact frame hexec fun _ hu => kept_startChannels hu tag p
  | stop n tag p => exact frame hexec fun _ hu => kept_stopChannels hu tag p
  | channelStatus n tag p => exact frame hexec fun _ hu => kept_channelStatus hu tag p
  | setScale n tag p => exact frame hexec fun _ hu => kept_setScale hu tag p
  | setRate n tag p => exact frame hexec fun _ hu => kept_setRate hu tag p
  | setChannelConfig n tag p => exact frame hexec fun _ hu => kept_setChannelConfig hu tag p
  | channelSettings n tag p => exact frame hexec fun _ hu => kept_channelSettings hu tag p
  | setCondition n tag p => exact frame hexec fun _ hu => kept_setCondition hu tag p
  | setConditionEnable n tag p => exact frame hexec fun _ hu => kept_setConditionEnable hu tag p
  | fireCondition n tag p => exact frame hexec fun _ hu => kept_fireCondition hu tag p
  | conditionStatus n tag p => exact frame hexec fun _ hu => kept_conditionStatus hu tag p
  | setMarker n tag p => exact frame hexec fun _ hu => kept_setMarker hu tag p
  | markerStatus n tag p => exact frame hexec fun u hu => kept_respond hu (.refl u)
  | setScrub n tag p => exact frame hexec fun _ hu => kept_setScrub hu tag p
  | errorLogRead n tag p => exact frame hexec fun u hu => kept_respond hu (.refl u)
  | errorLogClear n tag p => exact frame hexec fun u hu => kept_respond hu (.of_access rfl)
  | setClockWindow n tag p => exact frame hexec fun _ hu => kept_setClockWindow hu tag p
  | clockStatus n tag p => exact frame hexec fun u hu => kept_respond hu (.refl u)
  | readEvents n tag p => exact frame hexec fun u hu => kept_respond hu (.refl u)
  | ackEvents n tag p => exact frame hexec fun _ hu => kept_ackEvents hu tag p
  | setEventMask n tag p => exact frame hexec fun _ hu => kept_setEventMask hu tag p
  | outputTick levels =>
    obtain rfl : tick levels s = t := Host.Outcome.next.inj hexec
    exact (served_tick levels s).kept
  | conditionFiring k levels => exact ticks hexec
  | holdoffExpiry k levels => exact ticks hexec
  | passEnd ch levels => exact ticks hexec
  | markerPulseEnd i levels => exact ticks hexec
  | measurementGateEnd =>
    cases hexec
    exact (served_gateEnd s).kept
  | scrubExpiry =>
    cases hexec
    split
    · exact .refl s
    · exact (served_scrubExpire s).kept
  | storeGrant =>
    cases hexec
    exact kept_storeGrant s
  | zeroFillWriteEnd => cases hend
  | writeSamplesTransferEnd upset => cases hend
  | readSamplesLineEnd upset => cases hend
  | prefetchReadEnd upset => cases hend
  | scrubReadEnd upset => cases hend
  | markWriteEnd => cases hend
  | writeBackEnd => cases hend

end Sys2Proof.Machine
end

-- ==== The ends of transfers and the requests ====
section
/-! SUPPORT. The end of a transfer writes its own line at most, or leaves its line as an upset left it, and
from there on is work that keeps the request laws: the port is free, and what its requester asks for next it may ask
for (R123, R131). -/

namespace Sys2Proof.Machine

open Sys2Proof

variable {s t u v w : State} {n : LinkId} {ch : ChanId} {a : Nat} {live : Bool} {upset : LineBits}

/-! ### The port freed -/

/-- The port is free, and of what the request laws read only the write side's request may have changed besides. -/
def Freed (s u : State) : Prop := ∃ side, u.access = { s.access with port := none, writeSide := side }

theorem Freed.lawful (h : Freed s u) (hs : s.access.Lawful) : u.access.Lawful := by
  obtain ⟨side, e⟩ := h
  rw [e]
  exact hs.handed (fun _ => rfl) (fun _ => rfl) (fun _ => rfl) fun hp => nomatch hp

theorem Freed.store (h : Freed s u) : u.store = s.store := by
  obtain ⟨side, e⟩ := h
  exact congrArg Access.store e

theorem Freed.powerUps (h : Freed s u) : u.powerUps = s.powerUps := by
  obtain ⟨side, e⟩ := h
  exact congrArg Access.powerUps e

theorem Freed.kept (h : Freed s u) : Kept s u := ⟨h.store, h.powerUps, h.lawful⟩

theorem Freed.request (h : Freed s u) (n : LinkId) : (look u.links n).request = (look s.links n).request := by
  obtain ⟨side, e⟩ := h
  exact congrFun (congrArg Access.asks e) n

theorem freed_setPort (s : State) : Freed s (s.setPort none) := ⟨s.writeSide, rfl⟩

theorem freed_endRead (k : ReadKind) (a : Nat) (upset : LineBits) (s : State) :
    Freed (strike a upset s) (endRead k a upset s).1 := by
  obtain ⟨e, links⟩ := integrityOnly_endRead k a upset s
  generalize (endRead k a upset s).1 = u at e links
  have asks : (fun n => (look u.links n).request) = (strike a upset s).access.asks :=
    funext fun n => (congrArg Link.request (links n)).trans rfl
  have phases : (fun n => (look u.links n).phase) = (strike a upset s).access.phases :=
    funext fun n => (congrArg Link.phase (links n)).trans rfl
  refine ⟨u.writeSide, ?_⟩
  unfold State.access at asks phases ⊢
  rw [asks, phases, e]
  rfl

/-! ### The link's next move -/

/-- Work of an EXECUTING link whose request was granted and is done with. -/
structure Moved (n : LinkId) (s t : State) : Prop where
  store : t.store = s.store
  powerUps : t.powerUps = s.powerUps
  laws : s.access.Lawful → (look s.links n).request = none → t.access.Lawful

theorem Kept.moved (h : Kept s t) : Moved n s t := ⟨h.store, h.powerUps, fun hs _ => h.laws hs⟩

theorem moved_carryOn (tag : Byte) (work : LongWork) (s : State) : Moved n s (carryOn n tag work s) :=
  ⟨rfl, rfl, fun hs hr => lawful_modLink _ hs hr⟩

theorem moved_respond (tag : Byte) (status : Status) (p : List Byte) (h : w.access = s.access) :
    Moved n s (respond n tag status p w) := by
  have answered : (respond n tag status p w).access =
      (w.modLink n fun l => { l with phase := .holding ⟨tag, status, p⟩ }).access :=
    access_raiseOn ..
  refine ⟨congrArg Access.store h, congrArg Access.powerUps h, fun hs hr => ?_⟩
  rw [answered]
  exact lawful_modLink _ (h ▸ hs) ((congrFun (congrArg Access.asks h) n).trans hr)

theorem moved_fillStep (n : LinkId) (s : State) : Moved n s (fillStep n s) := by
  unfold fillStep
  split
  · split
    · exact moved_carryOn ..
    · exact moved_respond _ _ _ rfl
  · exact (Kept.refl s).moved

theorem moved_writeStep (n : LinkId) (s : State) : Moved n s (writeStep n s) := by
  unfold writeStep
  split
  · split
    · exact moved_carryOn ..
    · exact moved_respond _ _ _ rfl
  · exact (Kept.refl s).moved

theorem moved_mergeStep (n : LinkId) (kept : LineData) (s : State) : Moved n s (mergeStep n kept s) := by
  unfold mergeStep
  split
  · exact moved_carryOn ..
  · exact (Kept.refl s).moved

theorem moved_readStep (n : LinkId) (d : Delivery) (s : State) : Moved n s (readStep n d s) := by
  unfold readStep
  split
  · split
    · exact moved_carryOn ..
    · exact moved_respond _ _ _ rfl
  · exact (Kept.refl s).moved

/-- A link's transfer ends: a stopped command does nothing (R11), a live one moves on, and the link presents its next
request, for it had none beside the transfer (R123). -/
theorem kept_linkEnd {x : LinkXfer} {move : State → State} (hport : s.arbiter.port = some (.link n x live))
    (hu : Freed s u) (hmove : Moved n u (move u)) : Kept s (presentLink n (if live then move u else u)) := by
  have moved : Moved n u (if live then move u else u) := by
    split
    · exact hmove
    · exact (Kept.refl u).moved
  refine .trans ⟨moved.store.trans hu.store, moved.powerUps.trans hu.powerUps, fun hs => ?_⟩
    (served_presentLink n _).kept
  refine moved.laws (hu.lawful hs) ((hu.request n).trans ?_)
  cases hr : (look s.links n).request with
  | none => rfl
  | some q =>
    have off : linkOn s.arbiter.port n = false := (hs.links n (by simp [State.access, hr])).1
    simp [hport, linkOn] at off

/-! ### The prefetcher's, the scrubber's and the write side's next move -/

/-- The line on the way takes the room that was kept for it, and is of a segment its bank names (R128, R131). -/
theorem kept_placeLine {r : PrefetchRequest} (hport : s.arbiter.port = some (.prefetch ch r live)) (hu : Freed s u)
    (d : Delivery) : Kept s (placeLine ch r live d u) := by
  unfold placeLine
  split
  · next hplaced =>
    obtain rfl : live = true := (Bool.and_eq_true_iff.mp hplaced).1
    refine ⟨hu.store, hu.powerUps, fun hs => ?_⟩
    have law := hu.lawful hs
    obtain ⟨side, e⟩ := hu
    refine ⟨law.links, law.writes, law.scrubs, fun j => ?_⟩
    by_cases hj : ch = j
    · subst hj
      have port : u.arbiter.port = none := congrArg Access.port e
      have prefetch : look u.prefetch ch = look s.prefetch ch := congrFun (congrArg Access.prefetch e) ch
      have mode : (look u.channels ch).mode = (look s.channels ch).mode := congrFun (congrArg Access.modes e) ch
      have slots : (look u.tables ch).active.slots = (look s.tables ch).active.slots :=
        congrFun (congrArg Access.slots e) ch
      have onPort : wantedOn s.access.port ch = some r := (congrArg (wantedOn · ch) hport).trans (if_pos rfl)
      obtain ⟨-, room, held, waiting, wanted, idle⟩ := hs.fetches ch
      rw [onPort] at room wanted idle
      change Fetches u.arbiter.port ch (look (put u.prefetch ch _) ch) (look u.channels ch).mode
        (look u.tables ch).active.slots
      rw [look_put_same, port, prefetch, mode, slots]
      refine ⟨fun _ => rfl, ?_, fun l hl => ?_, waiting, fun q hq => (nomatch hq), fun hm => nomatch (idle hm).2.2⟩
      · simpa [wantedOn, State.access, Nat.add_right_comm] using room
      · obtain hl | hl := List.mem_append.mp hl
        · exact held l hl
        · obtain rfl := List.mem_singleton.mp hl
          exact wanted r rfl
    · have other := law.fetches j
      change Fetches u.arbiter.port j (look (put u.prefetch ch _) j) (look u.channels j).mode
        (look u.tables j).active.slots
      rw [look_put_ne _ _ hj]
      exact other
  · exact hu.kept

/-- The scrubber's read is done with, so that its request may end (R149). -/
theorem kept_scrubDone (hu : Freed s u) (request : Option Nat) :
    Kept s { u with scrub := { u.scrub with request := request } } := by
  have port : u.arbiter.port = none := by
    obtain ⟨side, e⟩ := hu
    exact congrArg Access.port e
  exact hu.kept.trans (served_scrub fun hp => by simp [scrubInTransfer, port] at hp).kept

/-! ### Each end -/

/-- The state with its line `a` written, or itself. -/
def LineWritten (a : Nat) (s v : State) : Prop := v = s ∨ ∃ l, v = putLine a l s

theorem lineWritten_strike (a : Nat) (upset : LineBits) (s : State) : LineWritten a s (strike a upset s) := by
  unfold strike
  split
  · exact .inl rfl
  · exact .inr ⟨_, rfl⟩

theorem LineWritten.lawful (h : LineWritten a s v) (hs : s.access.Lawful) : v.access.Lawful := by
  obtain rfl | ⟨l, rfl⟩ := h
  · exact hs
  · exact ⟨hs.links, hs.writes, hs.scrubs, hs.fetches⟩

theorem LineWritten.lineAt_ne {b : Nat} (h : LineWritten a s v) (hb : b ≠ a) : lineAt v b = lineAt s b := by
  obtain rfl | ⟨l, rfl⟩ := h
  · rfl
  · exact lineAt_putLine_ne s l hb.symm

theorem Kept.lineAt (h : Kept s t) (b : Nat) : lineAt t b = lineAt s b := by
  unfold Machine.lineAt
  rw [h.store, h.powerUps]

/-- A row that found a transfer ended it: its line was written or not, and the rest keeps the request laws. -/
def Ended (s t : State) : Prop := t = s ∨ ∃ x v, s.arbiter.port = some x ∧ LineWritten x.addr s v ∧ Kept v t

/-- The row ended a read: no line was written but by the upset. -/
def ReadEnded (upset : LineBits) (s t : State) : Prop :=
  t = s ∨ ∃ x, s.arbiter.port = some x ∧ Kept (strike x.addr upset s) t

theorem ReadEnded.ended (h : ReadEnded upset s t) : Ended s t := by
  obtain rfl | ⟨x, hx, hkept⟩ := h
  · exact .inl rfl
  · exact .inr ⟨x, _, hx, lineWritten_strike .., hkept⟩

theorem eq_of_inStore (h : inStore a w = .next t) : w = t := by
  obtain ⟨-, e⟩ | ⟨-, e⟩ := inStore_cases a w
  · exact Host.Outcome.next.inj (e.symm.trans h)
  · exact nomatch e.symm.trans h

/-- Of the upset line's state a read's port is still the transfer's. -/
theorem strike_port (a : Nat) (upset : LineBits) (s : State) : (strike a upset s).arbiter.port = s.arbiter.port := by
  rw [strike_eq]

theorem zeroFillWriteEnd_ended (h : execZeroFillWriteEnd s = .next t) : Ended s t := by
  unfold execZeroFillWriteEnd at h
  split at h
  · next n a live hport =>
    obtain rfl := eq_of_inStore h
    exact .inr ⟨_, writeData a 0#64 s, hport, .inr ⟨_, rfl⟩, kept_linkEnd hport (freed_setPort _) (moved_fillStep n _)⟩
  · exact .inl (Host.Outcome.next.inj h).symm

theorem writeSamplesTransferEnd_ended (h : execWriteSamplesTransferEnd upset s = .next t) : Ended s t := by
  unfold execWriteSamplesTransferEnd at h
  split at h
  · next n a data live hport =>
    obtain rfl := eq_of_inStore h
    exact .inr ⟨_, writeData a data s, hport, .inr ⟨_, rfl⟩, kept_linkEnd hport (freed_setPort _) (moved_writeStep n _)⟩
  · next n a live hport =>
    obtain rfl := eq_of_inStore h
    exact .inr ⟨_, strike a upset s, hport, lineWritten_strike ..,
      kept_linkEnd ((strike_port ..).trans hport) (freed_endRead ..) (moved_mergeStep n _ _)⟩
  · exact .inl (Host.Outcome.next.inj h).symm

theorem readSamplesLineEnd_ended (h : execReadSamplesLineEnd upset s = .next t) : ReadEnded upset s t := by
  unfold execReadSamplesLineEnd at h
  split at h
  · next n a live hport =>
    obtain rfl := eq_of_inStore h
    exact .inr ⟨_, hport, kept_linkEnd ((strike_port ..).trans hport) (freed_endRead ..) (moved_readStep n _ _)⟩
  · exact .inl (Host.Outcome.next.inj h).symm

theorem prefetchReadEnd_ended (h : execPrefetchReadEnd upset s = .next t) : ReadEnded upset s t := by
  unfold execPrefetchReadEnd at h
  split at h
  · next ch r live hport =>
    obtain rfl := eq_of_inStore h
    exact .inr ⟨_, hport, (kept_placeLine ((strike_port ..).trans hport) (freed_endRead ..) _).trans
      (fetchWork_presentPrefetch ch _).served.kept⟩
  · exact .inl (Host.Outcome.next.inj h).symm

theorem scrubReadEnd_ended (h : execScrubReadEnd upset s = .next t) : ReadEnded upset s t := by
  unfold execScrubReadEnd at h
  split at h
  · next a hport =>
    obtain rfl := eq_of_inStore h
    exact .inr ⟨_, hport, kept_scrubDone (freed_endRead ..) none⟩
  · exact .inl (Host.Outcome.next.inj h).symm

theorem markWriteEnd_ended (h : execMarkWriteEnd s = .next t) : Ended s t := by
  unfold execMarkWriteEnd at h
  split at h
  · next r hport =>
    obtain rfl := eq_of_inStore h
    have marked : Freed (writeMark r.addr s) { writeMark r.addr (s.setPort none) with
      marks := s.marks.filter fun q => q.addr ≠ r.addr } := ⟨s.writeSide, rfl⟩
    exact .inr ⟨_, writeMark r.addr s, hport, .inr ⟨_, rfl⟩, marked.kept.trans (served_presentWriteSide _).kept⟩
  · exact .inl (Host.Outcome.next.inj h).symm

theorem writeBackEnd_ended (h : execWriteBackEnd s = .next t) : Ended s t := by
  unfold execWriteBackEnd at h
  split at h
  · next r hport =>
    obtain rfl := eq_of_inStore h
    have written : Freed (writeData r.addr r.data s) (writeData r.addr r.data (s.setPort none)) := freed_setPort _
    exact .inr ⟨_, _, hport, .inr ⟨_, rfl⟩, written.kept.trans (served_presentWriteSide _).kept⟩
  · exact .inl (Host.Outcome.next.inj h).symm

theorem exec_ended {c : Instr} (hc : c.endsTransfer = true) (h : exec c s = .next t) : Ended s t := by
  cases c with
  | zeroFillWriteEnd => exact zeroFillWriteEnd_ended h
  | writeSamplesTransferEnd upset => exact writeSamplesTransferEnd_ended h
  | readSamplesLineEnd upset => exact (readSamplesLineEnd_ended h).ended
  | prefetchReadEnd upset => exact (prefetchReadEnd_ended h).ended
  | scrubReadEnd upset => exact (scrubReadEnd_ended h).ended
  | markWriteEnd => exact markWriteEnd_ended h
  | writeBackEnd => exact writeBackEnd_ended h
  | _ => exact absurd hc Bool.false_ne_true

/-! ### The request laws -/

theorem Ended.lawful (h : Ended s t) (hs : s.access.Lawful) : t.access.Lawful := by
  obtain rfl | ⟨x, v, -, hline, hkept⟩ := h
  · exact hs
  · exact hkept.laws (hline.lawful hs)

/-- After the power-on reset there is no request and no transfer (R177). -/
theorem lawful_powerOn (selected : BitVec 2) (h : execPowerOnReset selected s = .next t) : t.access.Lawful := by
  have reset : State.reset.access.Lawful := lawful_iff.mpr ⟨linkLaw_reset, oneRequestLaw_reset, prefetchLaw_reset⟩
  cases h
  refine ⟨fun n hn => ?_, reset.writes, reset.scrubs, reset.fetches⟩
  simp only [State.access, look_ofFn] at hn
  cases hn

theorem exec_lawful {c : Instr} (hs : s.access.Lawful) (hexec : exec c s = .next t) : t.access.Lawful := by
  by_cases hend : c.endsTransfer = true
  · exact (exec_ended hend hexec).lawful hs
  by_cases hreset : ∃ selected, c = .powerOnReset selected
  · obtain ⟨selected, rfl⟩ := hreset
    exact lawful_powerOn selected hexec
  · exact (exec_kept (Bool.eq_false_iff.mpr hend) (fun selected e => hreset ⟨selected, e⟩) hexec).laws hs

/-- Settles O58: the laws are laws of one view of the state, kept by every command and by the microsecond. -/
theorem stepsKeepTheRequestLaws : Obligations.StepsKeepTheRequestLaws := by
  unfold Obligations.StepsKeepTheRequestLaws
  intro s t h hstep
  exact lawful_iff.mp (step_law (P := fun u => u.access.Lawful) (fun _ _ hu => hu)
    (fun u => (served_microsecond u).laws) (fun _ _ _ => exec_lawful) (lawful_iff.mpr h) hstep)

/-! ### The store -/

theorem Ended.of_port_none (h : Ended s t) (hport : s.arbiter.port = none) : t = s := by
  obtain e | ⟨x, v, hx, -⟩ := h
  · exact e
  · exact nomatch hport.symm.trans hx

theorem Ended.lineAt_ne {x : Transfer} {b : Nat} (h : Ended s t) (hx : s.arbiter.port = some x) (hb : b ≠ x.addr) :
    lineAt t b = lineAt s b := by
  obtain rfl | ⟨y, v, hy, hline, hkept⟩ := h
  · rfl
  · obtain rfl := Option.some.inj (hx.symm.trans hy)
    exact (hkept.lineAt b).trans (hline.lineAt_ne hb)

theorem ReadEnded.lineAt (h : ReadEnded 0#72 s t) (b : Nat) : lineAt t b = lineAt s b := by
  obtain rfl | ⟨x, -, hkept⟩ := h
  · rfl
  · rw [strike_zero] at hkept
    exact hkept.lineAt b

/-- Settles O28: what is no end of a transfer and no power-on leaves the store, and an end writes its own line. -/
theorem onlyTransferEndsChangeTheStore : Obligations.OnlyTransferEndsChangeTheStore := by
  unfold Obligations.OnlyTransferEndsChangeTheStore
  intro c s t hexec
  refine ⟨fun hend hreset => (exec_kept hend hreset hexec).lineAt, fun hend => (exec_ended hend hexec).of_port_none,
    fun hend x hx b hb => (exec_ended hend hexec).lineAt_ne hx hb, fun hread => ?_⟩
  obtain rfl | rfl | rfl := hread
  · exact (readSamplesLineEnd_ended hexec).lineAt
  · exact (prefetchReadEnd_ended hexec).lineAt
  · exact (scrubReadEnd_ended hexec).lineAt

end Sys2Proof.Machine
end

-- ==== The end of a prefetch read ====
section
/-! SUPPORT. The end of a prefetch read: the line appended or discarded (R132), and what the prefetcher with the port
free asks for next (R129, R130, R131). -/

namespace Sys2Proof.Machine

open Sys2Proof

variable {s t u : State} {ch : ChanId} {pos : PathPos} {e : Entry} {r : PrefetchRequest} {live : Bool} {a : Nat}

/-! ### The path -/

theorem slotAfter_next {b : Bank} {x y : SlotIx} (hy : y.val = x.val + 1) (h : y.val < b.count) :
    slotAfter b x = some y := by
  have within : x.val + 1 < 64 := hy ▸ y.isLt
  unfold slotAfter
  rw [if_pos (hy ▸ h), dif_pos within]
  exact congrArg some (Fin.ext hy.symm)

theorem slotAfter_last {b : Bank} {x : SlotIx} (h : b.count ≤ x.val + 1) :
    slotAfter b x = match b.endAction with | .loop y => some y | .stop => none := if_neg (Nat.not_lt.mpr h)

section

variable (he : entryIn s ch pos.entry = some e)
include he

theorem posAfter_line (h : pos.line + 1 < (segmentLength s e.segment + 3) / 4) :
    posAfter s ch pos = some ⟨pos.place + 1, pos.entry, pos.pass, pos.line + 1⟩ := by
  rw [entryIn] at he
  rw [posAfter, he]
  exact if_pos h

theorem posAfter_pass (h : (segmentLength s e.segment + 3) / 4 ≤ pos.line + 1)
    (hpass : e.repeats = 0 ∨ pos.pass + 1 < e.repeats) :
    posAfter s ch pos = some ⟨pos.place + 1, pos.entry, pos.pass + 1, 0⟩ := by
  rw [entryIn] at he
  rw [posAfter, he]
  exact (if_neg (Nat.not_lt.mpr h)).trans (if_pos (passFollows_iff.mpr hpass))

theorem posAfter_entry (h : (segmentLength s e.segment + 3) / 4 ≤ pos.line + 1)
    (hpass : ¬ (e.repeats = 0 ∨ pos.pass + 1 < e.repeats)) :
    posAfter s ch pos =
      (slotAfter (look s.tables ch).active pos.entry).map fun x => ⟨pos.place + 1, x, 0, 0⟩ := by
  rw [entryIn] at he
  rw [posAfter, he]
  exact (if_neg (Nat.not_lt.mpr h)).trans (if_neg (mt passFollows_iff.mp hpass))

/-- The place after a place is the path's next (R129). -/
theorem placeAfter_posAfter :
    PlaceAfter (look s.tables ch).active e (segmentLength s e.segment) pos (posAfter s ch pos) := by
  refine ⟨posAfter_line he, fun hline => ⟨posAfter_pass he hline, fun hfinite hpass => ?_⟩⟩
  have after := posAfter_entry he hline (by omega)
  refine ⟨fun x hx hcount => ?_, fun hcount => ⟨fun x hloop => ?_, fun hstop => ?_⟩⟩
  · rw [after, slotAfter_next hx hcount]
    rfl
  · rw [after, slotAfter_last hcount, hloop]
    rfl
  · rw [after, slotAfter_last hcount, hstop]
    rfl

end

/-- A path under no stop has no end (R130). -/
theorem beyondStop_iff_path (he : (currentEntry s ch).isSome) (place : Nat) :
    beyondStop s ch place = true ↔ BeyondPath s ch (look s.channels ch).stop place := by
  obtain ⟨e, he⟩ := Option.isSome_iff_exists.mp he
  cases hstop : (look s.channels ch).stop with
  | none => simp [beyondStop, stopEnd, hstop, BeyondPath]
  | some mode => exact beyondStop_iff hstop he place

/-! ### The next request -/

theorem presentPrefetch_unasked (h : wantsLine s ch = false ∨ (look s.prefetch ch).next = none) :
    presentPrefetch ch s = s := by
  unfold presentPrefetch
  obtain h | h := h
  · rw [h]
    rfl
  · simp only [nextWanted, h, ite_self]

theorem presentPrefetch_past (hwanted : nextWanted s ch = some pos) (h : beyondStop s ch pos.place = true) :
    presentPrefetch ch s = s := by
  unfold presentPrefetch
  rw [hwanted]
  simp only [h, if_true, ite_self]

theorem presentPrefetch_asks (hwants : wantsLine s ch = true) (hwanted : nextWanted s ch = some pos)
    (hpath : beyondStop s ch pos.place = false) (he : entryIn s ch pos.entry = some e) :
    presentPrefetch ch s = s.modPrefetch ch fun p =>
      { p with waiting := some ⟨pos, e.segment, segmentBase s e.segment + pos.line⟩, next := posAfter s ch pos } := by
  have request : requestFor s ch pos = some ⟨pos, e.segment, segmentBase s e.segment + pos.line⟩ := by
    rw [requestFor, he]
  unfold presentPrefetch
  rw [if_pos hwants, hwanted]
  simp only [hpath, request, Bool.false_eq_true, if_false]

theorem wantsLine_iff (hport : s.arbiter.port = none) :
    wantsLine s ch = true ↔ ((look s.channels ch).mode = .running ∨ (look s.channels ch).mode = .waiting) ∧
      (look s.prefetch ch).waiting = none ∧ (look s.prefetch ch).fifo.length < 64 := by
  simp [wantsLine, prefetchInTransfer, hport, and_assoc]

theorem nextWanted_eq (s : State) (ch : ChanId) :
    nextWanted s ch = (look s.prefetch ch).next.map fun x =>
      if x.place < (look s.prefetch ch).play then playPos s ch else x := by
  unfold nextWanted
  cases (look s.prefetch ch).next <;> rfl

/-- What the prefetcher asks for with the port free (R129, R130, R131). -/
theorem presentPrefetch_next (hport : s.arbiter.port = none) :
    let c := look s.channels ch
    let p := look s.prefetch ch
    let q := look (presentPrefetch ch s).prefetch ch
    let asks := (c.mode = .running ∨ c.mode = .waiting) ∧ p.waiting = none ∧ p.fifo.length < 64
    (¬ asks ∨ p.next = none → q = p) ∧
    ∀ pos e, asks → (currentEntry s ch).isSome → nextWanted s ch = some pos → entryIn s ch pos.entry = some e →
      (BeyondPath s ch c.stop pos.place → q = p) ∧
      (¬ BeyondPath s ch c.stop pos.place →
        q = { p with
          waiting := some ⟨pos, e.segment, segmentBase s e.segment + pos.line⟩, next := posAfter s ch pos }) := by
  intro c p q asks
  have wants : wantsLine s ch = true ↔ asks := wantsLine_iff hport
  have stays (h : presentPrefetch ch s = s) : q = p := congrArg (fun u => look u.prefetch ch) h
  refine ⟨fun h => stays (presentPrefetch_unasked (h.imp_left fun h => ?_)), fun pos e h hentry hwanted he => ?_⟩
  · exact Bool.eq_false_iff.mpr (mt wants.mp h)
  have path := beyondStop_iff_path hentry pos.place
  refine ⟨fun hb => stays (presentPrefetch_past hwanted (path.mpr hb)), fun hb => ?_⟩
  have asked := presentPrefetch_asks (wants.mpr h) hwanted (Bool.eq_false_iff.mpr (mt path.mp hb)) he
  refine (congrArg (fun u => look u.prefetch ch) asked).trans ?_
  rw [State.modPrefetch_prefetch, look_put_same]

/-! ### The line's place -/

/-- The prefetcher once the read's line is delivered: appended on the present path and not behind the play position. -/
def lineTaken (r : PrefetchRequest) (live : Bool) (d : Delivery) (p : Prefetch) : Prefetch :=
  { p with fifo := if live = true ∧ p.play ≤ r.pos.place
      then p.fifo ++ [⟨r.pos.place, r.segment, r.pos.line, d.data, d.poisoned⟩] else p.fifo }

theorem placeLine_eq (ch : ChanId) (r : PrefetchRequest) (live : Bool) (d : Delivery) (s : State) :
    placeLine ch r live d s = s.modPrefetch ch (lineTaken r live d) := by
  unfold placeLine
  split
  · next h =>
    have taken : live = true ∧ (look s.prefetch ch).play ≤ r.pos.place := by simpa using h
    simp only [State.modPrefetch, lineTaken, if_pos taken]
  · next h =>
    have discarded : ¬ (live = true ∧ (look s.prefetch ch).play ≤ r.pos.place) := by simpa using h
    have same : lineTaken r live d (look s.prefetch ch) = look s.prefetch ch := by rw [lineTaken, if_neg discarded]
    rw [State.modPrefetch, same, put_look]

/-! ### The end of the read -/

/-- The state the end of a prefetch read leaves the prefetcher to present in. -/
def linePlaced (ch : ChanId) (r : PrefetchRequest) (live : Bool) (upset : LineBits) (s : State) : State :=
  (endRead (.prefetch ch) r.addr upset s).1.modPrefetch ch
    (lineTaken r live (readDelivery (strike r.addr upset s) r.addr))

theorem exec_prefetchReadEnd (upset : LineBits) (hport : s.arbiter.port = some (.prefetch ch r live))
    (ha : r.addr < 262144) :
    exec (.prefetchReadEnd upset) s = .next (presentPrefetch ch (linePlaced ch r live upset s)) := by
  refine Eq.trans ?_ (inStore_next ha _)
  change execPrefetchReadEnd upset s = _
  rw [execPrefetchReadEnd, hport]
  dsimp only
  rw [placeLine_eq, endRead_delivery]
  rfl

section

variable (ch : ChanId) (r : PrefetchRequest) (live : Bool) (upset : LineBits) (s : State)

/-- Of the device the line's place moves the channel's prefetcher alone, the integrity unit aside. -/
theorem linePlaced_frame :
    (linePlaced ch r live upset s).arbiter = { s.arbiter with port := none } ∧
    (linePlaced ch r live upset s).store = (strike r.addr upset s).store ∧
    (linePlaced ch r live upset s).channels = s.channels ∧ (linePlaced ch r live upset s).tables = s.tables ∧
    (linePlaced ch r live upset s).prefetch =
      put s.prefetch ch (lineTaken r live (readDelivery (strike r.addr upset s) r.addr) (look s.prefetch ch)) := by
  obtain ⟨changes, -⟩ := integrityOnly_endRead (.prefetch ch) r.addr upset s
  rw [strike_eq] at changes
  unfold linePlaced
  generalize (endRead (.prefetch ch) r.addr upset s).1 = u at changes
  rw [changes]
  exact ⟨rfl, rfl, rfl, rfl, rfl⟩

theorem linePlaced_layout : (linePlaced ch r live upset s).layout = s.layout :=
  layout_of_dir (dir_of_play (play_endRead ..))

theorem segmentLength_linePlaced : segmentLength (linePlaced ch r live upset s) = segmentLength s :=
  segmentLength_of_dir (dir_of_play (play_endRead ..))

theorem segmentBase_linePlaced (id : SegId) : segmentBase (linePlaced ch r live upset s) id = segmentBase s id := by
  have extent := congrFun (congrArg Layout.extent (linePlaced_layout ch r live upset s)) id
  exact congrArg (fun x => 16 * (Option.getD x ⟨0, 0⟩).first) extent

theorem readActed_linePlaced :
    ReadActed (.prefetch ch) false r.addr (strike r.addr upset s) (linePlaced ch r live upset s) :=
  readActed_endRead (.prefetch ch) r.addr upset s

theorem prefetch_linePlaced :
    look (linePlaced ch r live upset s).prefetch ch =
      lineTaken r live (readDelivery (strike r.addr upset s) r.addr) (look s.prefetch ch) := by
  obtain ⟨-, -, -, -, prefetch⟩ := linePlaced_frame ch r live upset s
  rw [prefetch, look_put_same]

theorem entryIn_linePlaced : entryIn (linePlaced ch r live upset s) ch = entryIn s ch := by
  obtain ⟨-, -, -, tables, -⟩ := linePlaced_frame ch r live upset s
  funext x
  rw [entryIn, tables, entryIn]

theorem currentEntry_linePlaced : currentEntry (linePlaced ch r live upset s) ch = currentEntry s ch := by
  obtain ⟨-, -, channels, -, -⟩ := linePlaced_frame ch r live upset s
  rw [currentEntry, entryIn_linePlaced, channels, currentEntry]

/-- The line's place moves neither the place to ask for next nor the play position. -/
theorem nextWanted_linePlaced : nextWanted (linePlaced ch r live upset s) ch = nextWanted s ch := by
  obtain ⟨-, -, channels, -, -⟩ := linePlaced_frame ch r live upset s
  unfold nextWanted playPos
  rw [channels, prefetch_linePlaced]
  rfl

theorem beyondPath_linePlaced (stop : Option StopMode) (place : Nat) :
    BeyondPath (linePlaced ch r live upset s) ch stop place = BeyondPath s ch stop place := by
  obtain ⟨-, -, channels, -, -⟩ := linePlaced_frame ch r live upset s
  unfold BeyondPath
  rw [channels, currentEntry_linePlaced, segmentLength_linePlaced, prefetch_linePlaced]
  rfl

end

/-- The prefetcher's request reaches nothing a read acts on. -/
theorem ReadActed.presentPrefetch {source : ErrorSource} {merge : Bool} (h : ReadActed source merge a s t)
    (ch : ChanId) : ReadActed source merge a s (presentPrefetch ch t) := by
  rw [presentPrefetch_changes]
  exact h

/-- Settles O22: the line's place (`lineTaken`), then the next request (`presentPrefetch_next`), which is asked for by
what the state before held. -/
theorem prefetchReadEndFillsItsPlace : Obligations.PrefetchReadEndFillsItsPlace := by
  unfold Obligations.PrefetchReadEndFillsItsPlace
  intro ch r live upset s hport ha d
  obtain ⟨arbiter, store, channels, tables, prefetch⟩ := linePlaced_frame ch r live upset s
  have taken : look (linePlaced ch r live upset s).prefetch ch = lineTaken r live d (look s.prefetch ch) :=
    prefetch_linePlaced ch r live upset s
  obtain ⟨hfifo, hplay⟩ := presentPrefetch_keeps ch (linePlaced ch r live upset s)
  have frame : ∀ {α : Type} (f : State → α), f (presentPrefetch ch (linePlaced ch r live upset s)) = f _ :=
    fun f => congrArg f (presentPrefetch_changes ch _)
  refine ⟨_, exec_prefetchReadEnd upset hport ha, hfifo.trans (congrArg Prefetch.fifo taken),
    (hplay.trans (congrArg Prefetch.play taken)).trans rfl, fun c hc => ?_, (frame State.arbiter).trans arbiter,
    (frame State.channels).trans channels, (frame State.tables).trans tables, (frame State.store).trans store,
    (readActed_linePlaced ch r live upset s).presentPrefetch ch, ?_⟩
  · refine (frame fun t => look t.prefetch c).trans ((look_put_ne _ _ hc.symm).trans ?_)
    rw [prefetch, look_put_ne _ _ hc.symm]
  obtain ⟨unasked, next⟩ := presentPrefetch_next (ch := ch) (congrArg Arbiter.port arbiter)
  simp only [nextWanted_linePlaced, currentEntry_linePlaced, entryIn_linePlaced, beyondPath_linePlaced,
    segmentBase_linePlaced, channels, taken] at unasked next
  dsimp only
  rw [hfifo, taken]
  refine ⟨fun h => ?_, fun pos e asks hentry hwanted he => ?_⟩
  · rw [unasked h]
    exact ⟨rfl, rfl⟩
  obtain ⟨past, asked⟩ := next pos e asks hentry ((nextWanted_eq s ch).trans hwanted) he
  refine ⟨fun hb => ?_, fun hb => ?_⟩
  · rw [past hb]
    exact ⟨asks.2.1, rfl⟩
  · rw [asked hb]
    have after : PlaceAfter _ e _ pos (posAfter (linePlaced ch r live upset s) ch pos) :=
      placeAfter_posAfter ((congrFun (entryIn_linePlaced ch r live upset s) pos.entry).trans he)
    rw [tables, segmentLength_linePlaced] at after
    exact ⟨rfl, after⟩

end Sys2Proof.Machine
end

-- ==== The error log and the check of a line ====
section
/-! SUPPORT. The four rows of R153's table as equations of `logRecord`, the counters, and the wrong bits of a line with at
most two of them (R139). -/

namespace Sys2Proof.Machine

open Sys2Proof

variable {s : State} {a : Nat} {r f : ErrorRecord} {log : ErrorLog} {l : StoredLine}

/-! ### The rows of the log's table -/

theorem logRecord_empty (h : log.first = none) : logRecord r log = { log with first := some r } := by
  rw [logRecord, h]

/-- An uncorrectable error takes the place of a correctable first record, whose pair joins the set. -/
theorem logRecord_displaces (h : log.first = some f) (hf : f.cls = .correctable) (hr : r.cls = .uncorrectable) :
    logRecord r log = { log with
      first := some r
      successors := log.successors ||| BitVec.twoPow 14 (sourceNumber f.source) } := by
  simp only [logRecord, h, hf, hr, addPair, classNumber, Nat.zero_mul, Nat.zero_add]

theorem logRecord_joins (h : log.first = some f) (hf : f.cls = .correctable) (hr : r.cls = .correctable) :
    logRecord r log = { log with
      successors := log.successors ||| BitVec.twoPow 14 (sourceNumber r.source) } := by
  simp only [logRecord, h, hf, hr, addPair, classNumber, Nat.zero_mul, Nat.zero_add]

/-- An uncorrectable first record stays, and the new error's pair joins the set. -/
theorem logRecord_stays (h : log.first = some f) (hf : f.cls = .uncorrectable) :
    logRecord r log = { log with
      successors := log.successors |||
        BitVec.twoPow 14 ((if r.cls = .correctable then 0 else 7) + sourceNumber r.source) } := by
  cases hr : r.cls <;> simp [logRecord, h, hf, hr, addPair, classNumber]

@[simp] theorem logRecord_correctable : (logRecord r log).correctable = log.correctable := by
  unfold logRecord
  split
  · rfl
  · split <;> rfl

@[simp] theorem logRecord_uncorrectable : (logRecord r log).uncorrectable = log.uncorrectable := by
  unfold logRecord
  split
  · rfl
  · split <;> rfl

@[simp] theorem countError_first (c : ErrorClass) (log : ErrorLog) : (countError c log).first = log.first := by
  cases c <;> rfl

@[simp] theorem countError_successors (c : ErrorClass) (log : ErrorLog) :
    (countError c log).successors = log.successors := by cases c <;> rfl

/-- Settles O26: the log that `logError` leaves, counter by counter and row by row. -/
theorem errorsEnterTheLog : Obligations.ErrorsEnterTheLog := by
  unfold Obligations.ErrorsEnterTheLog
  intro r s
  refine ⟨countError r.cls (logRecord r s.log), ?_, fun hr => ?_, fun hr => ?_, fun h => ?_, fun f h =>
    ⟨fun hf hr => ?_, fun hf hr => ?_, fun hf => ?_⟩⟩
  · rw [logError_eq]
    cases r.cls <;> rfl
  · simp [hr, countError]
  · simp [hr, countError]
  · simp [logRecord_empty h]
  · simp [logRecord_displaces h hf hr]
  · simp [logRecord_joins h hf hr, h]
  · simp [logRecord_stays h hf, h]

/-! ### The check of a line -/

theorem mem_wrongBits {p : Fin 72} : p ∈ wrongBits l ↔ l.faults.getLsbD p.val = true := by simp [wrongBits]

theorem nodup_wrongBits : (wrongBits l).Nodup := (List.nodup_finRange 72).filter _

theorem checkLine_clean (h : l.faults = 0#72) : checkLine l = .clean := by
  have none : wrongBits l = [] := List.eq_nil_iff_forall_not_mem.mpr fun p hp => by simp [mem_wrongBits, h] at hp
  rw [checkLine, none]

theorem checkLine_single {p : Fin 72} (h : l.faults = BitVec.twoPow 72 p.val) : checkLine l = .single p := by
  have one : wrongBits l = [p] := by
    refine List.perm_singleton.mp ((List.perm_ext_iff_of_nodup nodup_wrongBits (List.nodup_singleton p)).mpr fun q => ?_)
    simp [mem_wrongBits, h, Fin.ext_iff, eq_comm]
  rw [checkLine, one]

theorem checkLine_double {p q : Fin 72} (hne : p ≠ q)
    (h : l.faults = BitVec.twoPow 72 p.val ||| BitVec.twoPow 72 q.val) : checkLine l = .double := by
  have two : (wrongBits l).length = 2 := by
    have pair : (wrongBits l).Perm [p, q] :=
      (List.perm_ext_iff_of_nodup nodup_wrongBits (by simp [hne])).mpr fun j => by
        rw [mem_wrongBits, h]
        simp [Fin.ext_iff, @eq_comm _ j.val]
    exact pair.length_eq
  obtain ⟨i, j, hij⟩ := List.length_eq_two.mp two
  rw [checkLine, hij]

theorem classify_unmarked (hmark : (lineAt s a).mark = false) (hlist : ∀ r ∈ s.marks, r.addr ≠ a) :
    classify s a = .checked (checkLine (lineAt s a)) := by
  refine if_neg fun h => ?_
  obtain hm | ⟨r, hr, ha⟩ := marked_iff.mp h
  · exact Bool.false_ne_true (hmark.symm.trans hm)
  · exact hlist r hr ha

theorem storedData_clean (h : l.faults = 0#72) : storedData l = l.data := by
  simp [storedData, h]

/-- The bit found wrong inverted once more gives back the codes last written. -/
theorem correctedData_single {p : Fin 72} (h : l.faults = BitVec.twoPow 72 p.val) : correctedData l p = l.data := by
  unfold correctedData storedData
  rw [h]
  split
  · next hp =>
    have flipped : (BitVec.twoPow 72 p.val).extractLsb' 0 64 = BitVec.twoPow 64 p.val := by
      apply BitVec.eq_of_getLsbD_eq
      intro i hi
      simp [hi, eq_comm]
    rw [flipped, BitVec.xor_assoc, BitVec.xor_self, BitVec.xor_zero]
  · next hp =>
    have unflipped : (BitVec.twoPow 72 p.val).extractLsb' 0 64 = 0#64 := by
      apply BitVec.eq_of_getLsbD_eq
      intro i hi
      have off : p.val ≠ i := by omega
      simp [off]
    rw [unflipped, BitVec.xor_zero]

/-- Settles O23: the check by the number of wrong bits, the delivery by what the check finds. -/
theorem singleErrorsAreCorrectedAndDoubleDetected : Obligations.SingleErrorsAreCorrectedAndDoubleDetected := by
  unfold Obligations.SingleErrorsAreCorrectedAndDoubleDetected
  intro s a hmark hlist
  have checked := classify_unmarked hmark hlist
  refine ⟨fun h => ?_, fun p h => ?_, fun p q hne h => ?_⟩
  · rw [checkLine_clean h] at checked
    refine ⟨checked, ?_⟩
    rw [readDelivery, checked, deliver, storedData_clean h]
  · rw [checkLine_single h] at checked
    refine ⟨checked, ?_⟩
    rw [readDelivery, checked, deliver, correctedData_single h]
  · rw [checkLine_double hne h] at checked
    refine ⟨checked, ?_⟩
    rw [readDelivery, checked, deliver]

end Sys2Proof.Machine
end

-- ==== The records of the integrity unit and the monitor ====
section
/-! SUPPORT. What the laws of the pending-mark list (R142), the write-back queue (R145), the error log (R153) and the
monitor (R157, R159) read of a state, as one view (`State.custody`), and what the units' shared operations leave of
it. -/

namespace Sys2Proof.Machine

open Sys2Proof

variable {s t u : State} {n : LinkId} {ch : ChanId} {id : SegId} {a : Nat}

/-! ### The view -/

/-- The integrity unit's two lists with the directory's bodies, the error log and the monitor. -/
structure Custody where
  marks : List MarkRecord
  writeBacks : List WriteBack
  body : SegId → SlotBody
  log : ErrorLog
  monitor : Monitor

def State.custody (s : State) : Custody := ⟨s.marks, s.writeBacks, fun id => (look s.slots id).body, s.log, s.monitor⟩

theorem slotHolds_of_body {x y : Slot} (h : x.body = y.body) : slotHolds x a = slotHolds y a := by
  unfold slotHolds
  rw [slotExtent_eq, slotExtent_eq, h]

/-- An update of slots that keeps every body is none the view shows. -/
theorem custody_withSlots {slots : Vector Slot 256} (h : ∀ id, (look slots id).body = (look s.slots id).body) :
    ({ s with slots := slots } : State).custody = s.custody :=
  congrArg (fun body => ({ s.custody with body := body } : Custody)) (funext h)

theorem custody_modSlot (id : SegId) (f : Slot → Slot) (s : State) (h : ∀ x, (f x).body = x.body) :
    (s.modSlot id f).custody = s.custody :=
  custody_withSlots fun _ => look_put_comp Slot.body _ _ _ _ (h _)

/-! ### Operations outside the view -/

/-- Work on the channels alone is outside the view. -/
theorem custody_of_bare (h : u.bare = s.bare) : u.custody = s.custody := by
  rw [eq_of_bare h]
  rfl

theorem custody_of_tickFrame (h : TickFrame s t) : t.custody = s.custody := by
  rw [h.state]
  rfl

theorem custody_respond (tag : Byte) (status : Status) (p : List Byte) (s : State) :
    (respond n tag status p s).custody = s.custody := rfl

theorem custody_raise (e : EventFlag) (s : State) : (s.raise e).custody = s.custody := rfl

theorem custody_presentLink (n : LinkId) (s : State) : (presentLink n s).custody = s.custody := by
  obtain h | ⟨tag, work, -, -, -, h⟩ := presentLink_cases n s <;> rw [h]
  rfl

theorem custody_execute (tag : Byte) (work : LongWork) (s : State) : (execute n tag work s).custody = s.custody :=
  custody_presentLink n _

theorem custody_presentWriteSide (s : State) : (presentWriteSide s).custody = s.custody := by
  rw [presentWriteSide_eq]
  rfl

theorem custody_presentPrefetch (ch : ChanId) (s : State) : (presentPrefetch ch s).custody = s.custody :=
  custody_of_bare (channelWork_presentPrefetch ch s).bare

theorem custody_withdrawScrub (e : Extent) (s : State) : (withdrawScrub e s).custody = s.custody := by
  rw [withdrawScrub_eq]
  rfl

theorem custody_takeScrubLine (a : Nat) (s : State) : (takeScrubLine a s).custody = s.custody := by
  unfold takeScrubLine
  split <;> rfl

theorem custody_scrubExpire (s : State) : (scrubExpire s).custody = s.custody := by
  unfold scrubExpire
  dsimp only
  split
  · rfl
  · split
    · rfl
    · split <;> rw [custody_takeScrubLine] <;> rfl

theorem custody_adjustRefs (old new : Option Entry) (s : State) : (adjustRefs old new s).custody = s.custody := by
  rw [adjustRefs_eq]
  exact custody_withSlots fun id => by rw [look_adjustRefs]

theorem custody_setStagedSlot (x : SlotIx) (e : Option Entry) (s : State) :
    (setStagedSlot n ch x e s).custody = s.custody := custody_adjustRefs _ e s

theorem custody_copyActive (ch : ChanId) (s : State) : (copyActive ch s).custody = s.custody := by
  have bodies (id : SegId) : (look (copyActive ch s).slots id).body = (look s.slots id).body := by rw [look_copyActive]
  obtain ⟨slots, h⟩ := copyActive_changes ch s
  rw [h] at bodies ⊢
  exact custody_withSlots (s := s) bodies

/-! ### The loss of lock -/

/-- A channel's halt changes what a tick may change, and nothing else (R65). -/
theorem tickFrame_haltChannel (ch : ChanId) (s : State) : TickFrame s (haltChannel ch s) := by
  unfold haltChannel
  dsimp only
  split
  · have recorded : TickFrame s (s.modChannel ch haltRecord) := .of_channels ((ChannelWork.refl ch s).modChannel _).channels
    have emptied (u : State) : TickFrame u (eachPin (fun i s => s.modPin i (emptyMarkerPath ch)) u) := by
      rw [turnPins_eq]
      exact ⟨rfl, rfl, fun _ => rfl, fun _ _ h => h⟩
    have raised (u : State) : TickFrame u (u.raise (.halted ch)) :=
      .of_channels ((ChannelWork.refl ch u).raise (k := 6) rfl).channels
    exact ((recorded.trans (emptied _)).trans (.of_channels (channelWork_withdrawPrefetch ch _).channels)).trans (raised _)
  · exact .of_channels (ChannelWork.refl ch s).channels

/-- The end of a gate changes, beside the monitor's record, what a tick may change (R158 to R161). -/
theorem gateEnd_frame (s : State) : gateEnd s = State.ticked { s with monitor := gateRecord s.monitor } (gateEnd s) := by
  have halted (u : State) : TickFrame u (eachChannel haltChannel u) :=
    (((tickFrame_haltChannel 0 u).trans (tickFrame_haltChannel 1 _)).trans (tickFrame_haltChannel 2 _)).trans
      (tickFrame_haltChannel 3 _)
  unfold gateEnd
  dsimp only
  split
  · have h := (halted { s with monitor := gateRecord s.monitor }).state
    generalize eachChannel haltChannel { s with monitor := gateRecord s.monitor } = w at h ⊢
    rw [raise_eq, h]
    rfl
  · split
    · rw [raise_eq]
      rfl
    · rfl

theorem custody_gateEnd (s : State) :
    (gateEnd s).custody = { s.custody with monitor := gateRecord s.monitor } := by
  rw [gateEnd_frame]
  rfl

theorem custody_tick (levels : BitVec 8) (s : State) : (tick levels s).custody =
    { s.custody with monitor := { s.monitor with edges := min (s.monitor.edges + 1) 65535 } } :=
  custody_of_tickFrame (tickFrame_tick levels s)

end Sys2Proof.Machine
end

-- ==== What keeps the integrity and monitor laws ====
section
/-! SUPPORT. The laws of O57 and O59 but the store's own, as one relation of two states (`Guarded`): an operation outside
the view keeps them, one that only takes records away does (`Trimmed`), and the log does with an error entered. -/

namespace Sys2Proof.Machine

open Sys2Proof

variable {s t u : State} {n : LinkId} {ch : ChanId} {id : SegId} {a : Nat}

/-! ### The relation -/

/-- The mark and write-back laws hold after where they held before, and so do the log and monitor laws. -/
structure Guarded (s t : State) : Prop where
  records : MarkLaw s ∧ WriteBackLaw s → MarkLaw t ∧ WriteBackLaw t
  registers : ErrorLogLaw s ∧ MonitorLaw s → ErrorLogLaw t ∧ MonitorLaw t

theorem Guarded.trans (h : Guarded s t) (g : Guarded t u) : Guarded s u :=
  ⟨fun hs => g.records (h.records hs), fun hs => g.registers (h.registers hs)⟩

/-- Records may have been taken off the two lists; the body of a segment that a write-back is still held for stays what
it was, and so do the log and the monitor. -/
structure Trimmed (s t : State) : Prop where
  marks : t.marks.Sublist s.marks
  writeBacks : t.writeBacks.Sublist s.writeBacks
  bodies : ∀ r ∈ t.writeBacks, isReady (look s.slots r.segment) = true →
    (look t.slots r.segment).body = (look s.slots r.segment).body
  log : t.log = s.log
  monitor : t.monitor = s.monitor

theorem Trimmed.guarded (h : Trimmed s t) : Guarded s t := by
  obtain ⟨marks, writeBacks, bodies, hlog, hmonitor⟩ := h
  refine ⟨fun hs => ?_, fun hs => ?_⟩
  · obtain ⟨⟨hfew, hnodup⟩, hfew', hnodup', hheld⟩ := hs
    refine ⟨⟨marks.length_le.trans hfew, hnodup.sublist (marks.map _)⟩, writeBacks.length_le.trans hfew',
      hnodup'.sublist (writeBacks.map _), fun r hr => ?_⟩
    obtain ⟨hready, hholds⟩ := hheld r (writeBacks.subset hr)
    have body := bodies r hr hready
    exact ⟨(isReady_of_body body).trans hready, (slotHolds_of_body body).trans hholds⟩
  · rw [ErrorLogLaw, MonitorLaw, hlog, hmonitor]
    exact hs

theorem Trimmed.of_custody (h : t.custody = s.custody) : Trimmed s t where
  marks := by rw [show t.marks = s.marks from congrArg Custody.marks h]
  writeBacks := by rw [show t.writeBacks = s.writeBacks from congrArg Custody.writeBacks h]
  bodies r _ _ := congrFun (congrArg Custody.body h) r.segment
  log := congrArg Custody.log h
  monitor := congrArg Custody.monitor h

theorem Guarded.of_custody (h : t.custody = s.custody) : Guarded s t := (Trimmed.of_custody h).guarded

theorem Guarded.refl (s : State) : Guarded s s := .of_custody rfl

/-- What a link answers is outside the view. -/
theorem Guarded.answered {tag : Byte} {status : Status} {p : List Byte} (h : Guarded s u) :
    Guarded s (respond n tag status p u) := h.trans (.of_custody (custody_respond ..))

theorem Guarded.raised {e : EventFlag} (h : Guarded s u) : Guarded s (u.raise e) :=
  h.trans (.of_custody (custody_raise ..))

/-- The log and monitor laws alone are touched where the lists and the directory are as they were. -/
theorem Guarded.of_registers {log : ErrorLog} {monitor : Monitor}
    (h : t.custody = { s.custody with log := log, monitor := monitor })
    (hlaws : ErrorLogLaw s ∧ MonitorLaw s → ErrorLogLaw t ∧ MonitorLaw t) : Guarded s t := by
  have same : ({ t with log := s.log, monitor := s.monitor } : State).custody = s.custody :=
    congrArg (fun c => ({ c with log := s.log, monitor := s.monitor } : Custody)) h
  exact ⟨(Guarded.of_custody same).records, hlaws⟩

/-! ### Segments -/

/-- A slot that is not READY has no write-back held for it. -/
theorem trimmed_slot {f : Slot → Slot} (h : isReady (look s.slots id) = false) : Trimmed s (s.modSlot id f) := by
  refine ⟨.refl _, .refl _, fun r _ hready => ?_, rfl, rfl⟩
  have other : id ≠ r.segment := by
    rintro rfl
    exact Bool.false_ne_true (h.symm.trans hready)
  rw [State.modSlot_slots, look_put_ne _ _ other]

theorem trimmed_dropped {e : Extent} (h : slotExtent (look s.slots id) = some e) :
    Trimmed s (presentWriteSide (freeSegment id (dropSegmentRecords id s))) := by
  rw [presentWriteSide_freed h]
  refine ⟨List.filter_sublist, List.filter_sublist, fun r hr _ => ?_, rfl, rfl⟩
  have other : r.segment ≠ id := of_decide_eq_true (List.mem_filter.mp hr).2
  exact congrArg Slot.body (look_put_ne _ _ other.symm)

theorem trimmed_linkResets (n : LinkId) (s : State) : Trimmed s (linkResets n s) := by
  rw [linkResets_changes]
  refine ⟨List.filter_sublist, List.filter_sublist, fun r hr _ => ?_, rfl, rfl⟩
  have stays : ¬ ownedBy n (look s.slots r.segment) = true := by simpa using (List.mem_filter.mp hr).2
  exact congrArg Slot.body ((look_slotsFreed _ s.slots r.segment).trans (if_neg stays))

/-! ### Grants -/

theorem custody_grantPrefetch (ch : ChanId) (s : State) : (grantPrefetch ch s).custody = s.custody := by
  unfold grantPrefetch
  split <;> rfl

theorem trimmed_linkGrantMark (x : LinkXfer) (s : State) : Trimmed s (linkGrantMark x s) := by
  cases x with
  | zeroWrite a =>
    rw [linkGrantMark_zeroWrite]
    exact ⟨List.filter_sublist, .refl _, fun _ _ _ => rfl, rfl, rfl⟩
  | lineWrite a data =>
    rw [linkGrantMark_lineWrite]
    refine ⟨List.filter_sublist, .refl _, fun r _ _ => ?_, rfl, rfl⟩
    exact (congrArg Slot.body (look_slotsCleared a s r.segment)).trans rfl
  | mergeRead a => exact .of_custody rfl
  | sampleRead a => exact .of_custody rfl

theorem guarded_grantLink (n : LinkId) (s : State) : Guarded s (grantLink n s) := by
  unfold grantLink
  split
  · exact .refl s
  · refine .trans (.of_custody ?_) (trimmed_linkGrantMark _ _).guarded
    rfl

theorem guarded_grantScrub (s : State) : Guarded s (grantScrub s) := by
  unfold grantScrub
  split <;> exact .of_custody rfl

/-- The record of a granted write-back leaves the queue (R146). -/
theorem guarded_grantWriteSide (s : State) : Guarded s (grantWriteSide s) := by
  unfold grantWriteSide
  split
  · exact .refl s
  · exact .of_custody rfl
  · next r _ =>
    have taken : Trimmed s { s with writeBacks := s.writeBacks.filter fun q => q.addr ≠ r.addr } :=
      ⟨.refl _, List.filter_sublist, fun _ _ _ => rfl, rfl, rfl⟩
    exact taken.guarded.trans (.of_custody rfl)

theorem guarded_grantDecision (s : State) : Guarded s (grantDecision s) := by
  unfold grantDecision
  split
  · exact .of_custody (custody_grantPrefetch _ s)
  · split
    · exact guarded_grantLink _ s
    · split
      · exact .of_custody (custody_grantPrefetch _ s)
      · split
        · exact guarded_grantScrub s
        · exact guarded_grantWriteSide s
        · exact .refl s

/-! ### The error log and the monitor -/

/-- The pairs of class CORRECTABLE lie below those of class UNCORRECTABLE in the successor set (R152). -/
theorem uncorrectable_pairs_joined (source : ErrorSource) (set : BitVec 14) :
    (set ||| BitVec.twoPow 14 (sourceNumber source)).extractLsb' 7 7 = set.extractLsb' 7 7 := by
  have low : sourceNumber source < 7 := by
    cases source <;> simp only [sourceNumber] <;> omega
  apply BitVec.eq_of_getLsbD_eq
  intro i hi
  have off : ¬ sourceNumber source = 7 + i := by omega
  simp [off]

/-- An error entering the log keeps the log law (R153). -/
theorem ErrorLogLaw.logged (r : ErrorRecord) (h : ErrorLogLaw s)
    (hlog : t.log = countError r.cls (logRecord r s.log)) : ErrorLogLaw t := by
  obtain ⟨hempty, hfirst⟩ := h
  rw [ErrorLogLaw, hlog]
  cases hf : s.log.first with
  | none =>
    obtain ⟨hset, -, huncorrectable⟩ := hempty hf
    rw [logRecord_empty hf]
    cases hr : r.cls <;> simp [countError, hr, hset, huncorrectable]
  | some f =>
    cases hfc : f.cls with
    | uncorrectable => simp [logRecord_stays hf hfc, hf, hfc]
    | correctable =>
      obtain ⟨hcount, hset⟩ := hfirst f hf hfc
      cases hr : r.cls with
      | correctable => simp [logRecord_joins hf hfc hr, countError, hf, hcount, uncorrectable_pairs_joined, hset]
      | uncorrectable => simp [logRecord_displaces hf hfc hr, hr]

/-- The end of a gate keeps the monitor law (R158, R159). -/
theorem MonitorLaw.gated (h : MonitorLaw s) (hmonitor : t.monitor = gateRecord s.monitor) : MonitorLaw t := by
  obtain ⟨hwindow, hgood, hlocked, hedges⟩ := h
  rw [MonitorLaw, hmonitor]
  refine ⟨hwindow, ?_, fun hlock => ?_, Nat.zero_le _⟩
  · simp only [gateRecord]
    split <;> omega
  · simp only [gateRecord, Bool.and_eq_true, Bool.or_eq_true, beq_iff_eq] at hlock ⊢
    refine if_neg ?_
    rintro ⟨⟨-, hunlocked⟩, hzero⟩
    rw [Bool.not_eq_true'] at hunlocked
    obtain ⟨-, hl | hone⟩ := hlock
    · exact Bool.false_ne_true (hunlocked.symm.trans hl)
    · omega

theorem guarded_gateEnd (s : State) : Guarded s (gateEnd s) := by
  have view := custody_gateEnd s
  have log : (gateEnd s).log = s.log := congrArg Custody.log view
  have monitor : (gateEnd s).monitor = gateRecord s.monitor := congrArg Custody.monitor view
  refine .of_registers view fun ⟨hlog, hmonitor⟩ => ⟨?_, hmonitor.gated monitor⟩
  rw [ErrorLogLaw, log]
  exact hlog

/-- A tick counts one edge, at most 65,535 (R158). -/
theorem guarded_tick (levels : BitVec 8) (s : State) : Guarded s (tick levels s) := by
  have view := custody_tick levels s
  generalize tick levels s = t at view ⊢
  have log : t.log = s.log := congrArg Custody.log view
  have monitor : t.monitor = { s.monitor with edges := min (s.monitor.edges + 1) 65535 } :=
    congrArg Custody.monitor view
  refine .of_registers view fun ⟨hlog, hwindow, hgood, hlocked, _⟩ => ?_
  rw [ErrorLogLaw, MonitorLaw, log, monitor]
  exact ⟨hlog, hwindow, hgood, hlocked, Nat.min_le_right ..⟩

theorem guarded_microsecond (s : State) : Guarded s (microsecond s) := by
  have gate : Guarded s (gateMicrosecond s) := by
    unfold gateMicrosecond
    split
    · exact guarded_gateEnd s
    · exact .of_registers (s := s) rfl id
  have scrub (u : State) : Guarded u (scrubMicrosecond u) := by
    unfold scrubMicrosecond
    split
    · exact .refl u
    · split
      · exact .of_custody (custody_scrubExpire u)
      · exact .of_custody rfl
  exact gate.trans (scrub _)

end Sys2Proof.Machine
end

-- ==== The ends of transfers and the integrity laws ====
section
/-! SUPPORT. The end of a read enters an error, a mark or a write-back as R140's column has it (`ReadActed`), each within
its law; the end of a write takes a mark's record off the list at most. -/

namespace Sys2Proof.Machine

open Sys2Proof

variable {s t u : State} {n : LinkId} {ch : ChanId} {id : SegId} {a : Nat} {live : Bool} {upset : LineBits}

/-! ### Records entered -/

theorem nodup_map_concat {α β : Type} {l : List α} {f : α → β} {x : α} (h : (l.map f).Nodup)
    (hnew : ∀ y ∈ l, f y ≠ f x) : ((l ++ [x]).map f).Nodup := by
  rw [List.map_append, List.map_singleton, ← List.concat_eq_append]
  exact h.concat fun hx => by
    obtain ⟨y, hy, e⟩ := List.mem_map.mp hx
    exact hnew y hy e

/-- A mark enters the list while it has room, and no line twice (R142). -/
theorem MarkLaw.entered (h : MarkLaw s) (hroom : s.marks.length < 4) (hnew : ∀ r ∈ s.marks, r.addr ≠ a)
    (hmarks : t.marks = s.marks ++ [⟨a, id⟩]) : MarkLaw t := by
  rw [MarkLaw, hmarks]
  exact ⟨by simpa using hroom, nodup_map_concat h.2 hnew⟩

/-- A write-back enters the queue while it has room, for a line of a READY segment, and no line twice (R145). -/
theorem WriteBackLaw.offered {data : LineData} (h : WriteBackLaw s) (hslots : t.slots = s.slots)
    (hready : isReady (look s.slots id) = true) (hholds : slotHolds (look s.slots id) a = true)
    (hroom : s.writeBacks.length < 8) (hnew : ∀ r ∈ s.writeBacks, r.addr ≠ a)
    (hwriteBacks : t.writeBacks = s.writeBacks ++ [⟨a, id, data⟩]) : WriteBackLaw t := by
  obtain ⟨-, hnodup, hheld⟩ := h
  rw [WriteBackLaw, hwriteBacks, hslots]
  refine ⟨by simpa using hroom, nodup_map_concat hnodup hnew, fun r hr => ?_⟩
  obtain hr | hr := List.mem_append.mp hr
  · exact hheld r hr
  · obtain rfl := List.mem_singleton.mp hr
    exact ⟨hready, hholds⟩

theorem slotHolds_of_ownerOf (h : ownerOf s a = some id) : slotHolds (look s.slots id) a = true :=
  List.find?_some (p := fun id => slotHolds (look s.slots id) a) h

/-- A line that the check of its bits is asked about stands on no mark list. -/
theorem unlisted_of_checked {o : BitOutcome} (h : classify s a = .checked o) : ∀ r ∈ s.marks, r.addr ≠ a := by
  intro r hr ha
  have marked : classify s a = .marked := if_pos (marked_iff.mpr (.inr ⟨r, hr, ha⟩))
  exact nomatch marked.symm.trans h

/-! ### The end of a read -/

/-- What a read does beyond its delivery keeps the laws. -/
theorem ReadActed.guarded {source : ErrorSource} {merge : Bool} (h : ReadActed source merge a s t)
    (hmonitor : t.monitor = s.monitor) : Guarded s t := by
  obtain ⟨quiet, single, double⟩ := h
  have registers (r : ErrorRecord) (hlog : t.log = countError r.cls (logRecord r s.log)) :
      ErrorLogLaw s ∧ MonitorLaw s → ErrorLogLaw t ∧ MonitorLaw t := by
    rintro ⟨hs, hm⟩
    refine ⟨hs.logged r hlog, ?_⟩
    rw [MonitorLaw, hmonitor]
    exact hm
  obtain hquiet | ⟨id, p, hid, hp⟩ | ⟨id, hid, hp⟩ := read_cases s a
  · obtain ⟨hlog, hmarks, hslots, hwriteBacks, -⟩ := quiet hquiet
    refine .of_custody ?_
    rw [State.custody, hlog, hmarks, hslots, hwriteBacks, hmonitor]
    rfl
  · obtain ⟨hlog, hmarks, hslots, hwriteBacks, -⟩ := single id p hid hp
    refine ⟨fun ⟨hm, hw⟩ => ⟨by rwa [MarkLaw, hmarks], ?_⟩,
      registers ⟨.correctable, source, a, id, some p⟩ hlog⟩
    split at hwriteBacks
    · rwa [WriteBackLaw, hwriteBacks, hslots]
    · next hoffered =>
      simp only [not_or, not_exists, not_and, Bool.not_eq_false] at hoffered
      obtain ⟨-, hready, hnew, hroom⟩ := hoffered
      exact hw.offered hslots hready (slotHolds_of_ownerOf hid.1) (Nat.lt_of_not_le hroom) hnew hwriteBacks
  · obtain ⟨hlog, -, kept, marked⟩ := double id hid hp
    refine ⟨fun ⟨hm, hw⟩ => ?_, registers ⟨.uncorrectable, source, a, id, none⟩ hlog⟩
    by_cases hkept : merge = true ∨ 4 ≤ s.marks.length
    · obtain ⟨hmarks, hslots, hwriteBacks, -⟩ := kept hkept
      rw [MarkLaw, WriteBackLaw, hmarks, hslots, hwriteBacks]
      exact ⟨hm, hw⟩
    · obtain ⟨hmerge, hroom⟩ := not_or.mp hkept
      obtain ⟨hmarks, hslots, hwriteBacks, -⟩ := marked (Bool.eq_false_iff.mpr hmerge) (Nat.lt_of_not_le hroom)
      refine ⟨hm.entered (Nat.lt_of_not_le hroom) (unlisted_of_checked hp) hmarks, ?_⟩
      have removed : Trimmed s { s with slots := t.slots, writeBacks := t.writeBacks } := by
        refine ⟨.refl _, hwriteBacks ▸ List.filter_sublist, fun r _ _ => ?_, rfl, rfl⟩
        dsimp only
        rw [hslots]
        exact look_put_comp Slot.body _ _ _ _ rfl
      exact (removed.guarded.records ⟨hm, hw⟩).2

theorem guarded_endRead (k : ReadKind) (a : Nat) (upset : LineBits) (s : State) :
    Guarded s (endRead k a upset s).1 := by
  have struck : (strike a upset s).custody = s.custody := by
    rw [strike_eq]
    rfl
  have monitor : (endRead k a upset s).1.monitor = (strike a upset s).monitor := by
    rw [(integrityOnly_endRead k a upset s).1]
    rfl
  exact (Guarded.of_custody struck).trans ((readActed_endRead k a upset s).guarded monitor)

/-! ### The requesters' next moves -/

theorem custody_fillStep (n : LinkId) (s : State) : (fillStep n s).custody = s.custody := by
  unfold fillStep
  split
  · split
    · rfl
    · exact custody_modSlot _ (fun x => { x with filling := false }) s fun _ => rfl
  · rfl

theorem custody_writeStep (n : LinkId) (s : State) : (writeStep n s).custody = s.custody := by
  unfold writeStep
  split
  · split <;> rfl
  · rfl

theorem custody_mergeStep (n : LinkId) (kept : LineData) (s : State) : (mergeStep n kept s).custody = s.custody := by
  unfold mergeStep
  split <;> rfl

theorem custody_readStep (n : LinkId) (d : Delivery) (s : State) : (readStep n d s).custody = s.custody := by
  unfold readStep
  split
  · split <;> rfl
  · rfl

theorem custody_placeLine (r : PrefetchRequest) (d : Delivery) (s : State) :
    (placeLine ch r live d s).custody = s.custody := by
  unfold placeLine
  split <;> rfl

/-- A link goes on or rests, and asks for its next transfer. -/
theorem guarded_linkEnd {move : State → State} (hu : Guarded s u) (hmove : (move u).custody = u.custody) :
    Guarded s (presentLink n (if live then move u else u)) := by
  refine hu.trans (.of_custody ((custody_presentLink n _).trans ?_))
  split
  · exact hmove
  · rfl

/-! ### Each end -/

theorem guarded_zeroFillWriteEnd (h : execZeroFillWriteEnd s = .next t) : Guarded s t := by
  unfold execZeroFillWriteEnd at h
  split at h
  · obtain rfl := eq_of_inStore h
    exact guarded_linkEnd (.of_custody rfl) (custody_fillStep _ _)
  · obtain rfl := Host.Outcome.next.inj h
    exact .refl s

theorem guarded_writeSamplesTransferEnd (h : execWriteSamplesTransferEnd upset s = .next t) : Guarded s t := by
  unfold execWriteSamplesTransferEnd at h
  split at h
  · obtain rfl := eq_of_inStore h
    exact guarded_linkEnd (.of_custody rfl) (custody_writeStep _ _)
  · obtain rfl := eq_of_inStore h
    exact guarded_linkEnd (guarded_endRead ..) (custody_mergeStep _ _ _)
  · obtain rfl := Host.Outcome.next.inj h
    exact .refl s

theorem guarded_readSamplesLineEnd (h : execReadSamplesLineEnd upset s = .next t) : Guarded s t := by
  unfold execReadSamplesLineEnd at h
  split at h
  · obtain rfl := eq_of_inStore h
    exact guarded_linkEnd (guarded_endRead ..) (custody_readStep _ _ _)
  · obtain rfl := Host.Outcome.next.inj h
    exact .refl s

theorem guarded_prefetchReadEnd (h : execPrefetchReadEnd upset s = .next t) : Guarded s t := by
  unfold execPrefetchReadEnd at h
  split at h
  · obtain rfl := eq_of_inStore h
    exact (guarded_endRead ..).trans (.of_custody ((custody_presentPrefetch _ _).trans (custody_placeLine _ _ _)))
  · obtain rfl := Host.Outcome.next.inj h
    exact .refl s

theorem guarded_scrubReadEnd (h : execScrubReadEnd upset s = .next t) : Guarded s t := by
  unfold execScrubReadEnd at h
  split at h
  · obtain rfl := eq_of_inStore h
    exact (guarded_endRead ..).trans (.of_custody rfl)
  · obtain rfl := Host.Outcome.next.inj h
    exact .refl s

/-- The record of a mark written leaves the list (R143). -/
theorem guarded_markWriteEnd (h : execMarkWriteEnd s = .next t) : Guarded s t := by
  unfold execMarkWriteEnd at h
  split at h
  · next r _ =>
    obtain rfl := eq_of_inStore h
    have taken : Trimmed s { s with marks := s.marks.filter fun q => q.addr ≠ r.addr } :=
      ⟨List.filter_sublist, .refl _, fun _ _ _ => rfl, rfl, rfl⟩
    exact taken.guarded.trans (.of_custody (custody_presentWriteSide _))
  · obtain rfl := Host.Outcome.next.inj h
    exact .refl s

theorem guarded_writeBackEnd (h : execWriteBackEnd s = .next t) : Guarded s t := by
  unfold execWriteBackEnd at h
  split at h
  · obtain rfl := eq_of_inStore h
    exact .of_custody (custody_presentWriteSide _)
  · obtain rfl := Host.Outcome.next.inj h
    exact .refl s

end Sys2Proof.Machine
end

-- ==== Every command and the integrity laws ====
section
/-! SUPPORT. The commands under the laws of the store's records, of the error log and of the monitor: those of the
library take records away with their segments, SET_CLOCK_WINDOW and ERROR_LOG_CLEAR set their own registers, and the
rest is outside the view. With it the laws of every step (O57, O59). -/

namespace Sys2Proof.Machine

open Sys2Proof

variable {s t u : State} {n : LinkId} {ch : ChanId} {id : SegId} {a : Nat}

/-! ### Judgements outside the view -/

section

variable (n : LinkId) (tag : Byte) (p : List Byte) (s : State)

theorem custody_writeSamples : (writeSamples n tag p s).custody = s.custody := by
  unfold writeSamples
  dsimp only
  split
  · rfl
  · split
    · rfl
    · split
      · split
        · rfl
        · split
          · rfl
          · exact custody_execute ..
      · rfl
      · rfl

theorem custody_acceptRead (id : SegId) (offset count : Nat) :
    (acceptRead n tag id offset count s).custody = s.custody := by
  unfold acceptRead
  split
  · rfl
  · exact custody_execute ..

theorem custody_readSamples : (readSamples n tag p s).custody = s.custody := by
  unfold readSamples
  dsimp only
  split
  · rfl
  · split
    · rfl
    · split
      · rfl
      · exact custody_acceptRead ..
    · exact custody_acceptRead ..

theorem custody_writeEntry : (writeEntry n tag p s).custody = s.custody := by
  unfold writeEntry
  split
  · split
    · rfl
    · split
      · rfl
      · split
        · exact (custody_respond ..).trans (custody_setStagedSlot _ _ s)
        · rfl
  · rfl

theorem custody_clearEntry : (clearEntry n tag p s).custody = s.custody := by
  unfold clearEntry
  split
  · split
    · rfl
    · exact (custody_respond ..).trans (custody_setStagedSlot _ _ s)
  · rfl

theorem custody_setTableEnd : (setTableEnd n tag p s).custody = s.custody := by
  unfold setTableEnd
  split
  · split <;> rfl
  · rfl

theorem custody_acceptCommit (ch : ChanId) (k : Commit) : (acceptCommit n tag ch k s).custody = s.custody := by
  unfold acceptCommit
  dsimp only
  split <;> rw [custody_respond]
  · rw [custody_of_bare (channelWork_swapBanks ch _).bare]
    rfl
  · rw [custody_presentPrefetch, custody_of_bare (channelWork_takeCommit ch _ _).bare]
    rfl
  · rfl

theorem custody_commitTable : (commitTable n tag p s).custody = s.custody := by
  unfold commitTable
  split
  · split
    · rfl
    · split
      · rfl
      · exact custody_acceptCommit ..
  · rfl

theorem custody_cancelCommit : (cancelCommit n tag p s).custody = s.custody := by
  unfold cancelCommit
  split
  · rfl
  · split <;> rfl

theorem custody_discardStaged : (discardStaged n tag p s).custody = s.custody := by
  unfold discardStaged
  split
  · rfl
  · split
    · rfl
    · exact (custody_respond ..).trans (custody_copyActive _ s)

theorem custody_readEntry : (readEntry n tag p s).custody = s.custody := by
  unfold readEntry
  split <;> rfl

theorem custody_tableStatus : (tableStatus n tag p s).custody = s.custody := by
  unfold tableStatus
  split <;> rfl

theorem custody_startChannels : (startChannels n tag p s).custody = s.custody := by
  unfold startChannels
  split
  · split
    · rfl
    · exact (custody_respond ..).trans (custody_of_bare (channelsWork_forChannels (channelWork_startChannel _) _ s).bare)
  · rfl

theorem custody_stopChannels : (stopChannels n tag p s).custody = s.custody := by
  unfold stopChannels
  split
  · exact (custody_respond ..).trans (custody_of_bare (channelsWork_forChannels (channelWork_stopChannel _) _ s).bare)
  · rfl

theorem custody_channelStatus : (channelStatus n tag p s).custody = s.custody := by
  unfold channelStatus
  split
  · rw [custody_respond]
    split <;> rfl
  · rfl

theorem custody_channelSettings : (channelSettings n tag p s).custody = s.custody := by
  unfold channelSettings
  split <;> rfl

theorem custody_setScale : (setScale n tag p s).custody = s.custody := by
  unfold setScale
  split <;> rfl

theorem custody_setRate : (setRate n tag p s).custody = s.custody := by
  unfold setRate
  split <;> rfl

theorem custody_setChannelConfig : (setChannelConfig n tag p s).custody = s.custody := by
  unfold setChannelConfig
  split
  · split
    · rfl
    · split <;> rfl
  · rfl

theorem custody_setCondition : (setCondition n tag p s).custody = s.custody := by
  unfold setCondition
  dsimp only
  split
  · split <;> rfl
  · rfl

theorem custody_setConditionEnable : (setConditionEnable n tag p s).custody = s.custody := by
  unfold setConditionEnable
  split <;> rfl

theorem custody_fireCondition : (fireCondition n tag p s).custody = s.custody := by
  unfold fireCondition
  split
  · rfl
  · split <;> rfl

theorem custody_conditionStatus : (conditionStatus n tag p s).custody = s.custody := by
  unfold conditionStatus
  split
  · rw [custody_respond]
    split <;> rfl
  · rfl

theorem custody_setMarker : (setMarker n tag p s).custody = s.custody := by
  unfold setMarker
  split <;> rfl

theorem custody_setScrub : (setScrub n tag p s).custody = s.custody := by
  unfold setScrub
  dsimp only
  split <;> rfl

/-! ### Judgements of segments, the window and the log -/

/-- A new segment takes a FREE slot (R5, R9). -/
theorem guarded_createSegment : Guarded s (createSegment n tag p s) := by
  unfold createSegment
  dsimp only
  split
  · exact .of_custody rfl
  · split
    · exact .of_custody rfl
    · next id hfree =>
      split
      · exact .of_custody rfl
      · next first rest _ =>
        have free : isFree (look s.slots id) = true :=
          List.find?_some (p := fun id => isFree (look s.slots id)) hfree
        have unready : isReady (look s.slots id) = false := by rw [isReady, isFree_iff.mp free]
        have opened : Guarded s (s.modSlot id fun _ =>
            ⟨.opened n (fieldAt p 0 4) ⟨first, blocksFor (fieldAt p 0 4)⟩, 0, 0, true⟩) :=
          (trimmed_slot unready).guarded
        exact opened.trans (.of_custody ((custody_execute ..).trans (custody_raise ..)))

/-- A segment is OPEN before it is READY, so that no write-back is held for it (R15). -/
theorem guarded_finishSegment : Guarded s (finishSegment n tag p s) := by
  unfold finishSegment
  dsimp only
  split
  · next owner length extent hbody =>
    split
    · exact .of_custody rfl
    · have unready : isReady (look s.slots (segmentAt p 0)) = false := by rw [isReady, hbody]
      exact (trimmed_slot unready).guarded.raised.answered
  · exact .of_custody rfl
  · exact .of_custody rfl

theorem guarded_abandonSegment : Guarded s (abandonSegment n tag p s) := by
  unfold abandonSegment
  dsimp only
  split
  · next owner length extent hbody =>
    split
    · exact .of_custody rfl
    · exact (trimmed_dropped (e := extent) (congrArg SlotBody.extent hbody)).guarded.raised.answered
  · exact .of_custody rfl
  · exact .of_custody rfl

theorem guarded_deleteSegment : Guarded s (deleteSegment n tag p s) := by
  unfold deleteSegment
  dsimp only
  split
  · next length extent label hbody =>
    split
    · exact .of_custody rfl
    · split
      · exact .of_custody rfl
      · have withdrawn := custody_withdrawScrub extent s
        have body := (congrFun (congrArg Custody.body withdrawn) (segmentAt p 0)).trans hbody
        exact ((Guarded.of_custody withdrawn).trans
          (trimmed_dropped (e := extent) (congrArg SlotBody.extent body)).guarded).raised.answered
  · exact .of_custody rfl
  · exact .of_custody rfl

/-- The window taken is one whose lower bound is not above the upper (R162). -/
theorem guarded_setClockWindow : Guarded s (setClockWindow n tag p s) := by
  unfold setClockWindow
  split
  · exact .of_custody rfl
  · next hwindow =>
    refine .of_registers (s := s) rfl fun ⟨hlog, _, hgood, hlocked, hedges⟩ => ?_
    exact ⟨hlog, Nat.le_of_not_lt hwindow, hgood, hlocked, hedges⟩

/-- An empty log meets its law (R155). -/
theorem guarded_errorLogClear :
    Guarded s (respond n tag .ok [] { s with log := ⟨none, 0#14, 0, 0⟩ }) :=
  .of_registers (s := s) rfl fun ⟨_, hmonitor⟩ => ⟨errorLogLaw_reset, hmonitor⟩

end

/-! ### Every command -/

theorem guarded_powerOn (selected : BitVec 2) (h : execPowerOnReset selected s = .next t) : Guarded s t := by
  cases h
  exact ⟨fun _ => ⟨markLaw_reset, writeBackLaw_reset⟩, fun _ => ⟨errorLogLaw_reset, monitorLaw_reset⟩⟩

theorem guarded_takeFrame {tag code : Byte} {p : List Byte} {judge : State → State} (h : ∀ u, Guarded u (judge u)) :
    Guarded s (takeFrame n tag code p judge s) := by
  have driven : Guarded s (driveZeros n (5 + p.length) s) := .of_custody rfl
  obtain e | e | e | e | e | e := takeFrame_cases n tag code p judge s <;> rw [e]
  · exact .refl s
  · exact .of_custody rfl
  · exact .of_custody rfl
  · exact .of_custody rfl
  · exact driven.answered
  · exact driven.trans (h _)

theorem custody_fetchResponse (n : LinkId) (count : Nat) (s : State) : (fetchResponse n count s).custody = s.custody := by
  unfold fetchResponse
  split <;> rfl

theorem custody_hearTransfer {judge : State → State} (h : ∀ u, (judge u).custody = u.custody) :
    (hearTransfer n judge s).custody = s.custody :=
  hearTransfer_keeps State.custody n judge s (fun _ _ => rfl) h

/-- Every command keeps the laws. -/
theorem exec_guarded {c : Instr} (hexec : exec c s = .next t) : Guarded s t := by
  have frame : ∀ {n tag code p judge}, Host.Outcome.next (takeFrame n tag code p judge s) =
      (Host.Outcome.next t : Result) → (∀ u, Guarded u (judge u)) → Guarded s t := by
    intro n tag code p judge e hj
    cases e
    exact guarded_takeFrame hj
  have ticks : ∀ {levels} {b : Bool}, Host.Outcome.next (if b then tick levels s else s) =
      (Host.Outcome.next t : Result) → Guarded s t := by
    intro levels b e
    cases e
    split
    · exact guarded_tick levels s
    · exact .refl s
  cases c with
  | powerOnReset selected => exact guarded_powerOn selected hexec
  | linkReset n =>
    cases hexec
    exact (trimmed_linkResets n s).guarded
  | linkResetRelease n selected =>
    cases hexec
    split <;> exact .of_custody rfl
  | frameError n bytes =>
    cases hexec
    split
    · exact .of_custody (custody_hearTransfer fun _ => rfl)
    · split
      · exact .of_custody (custody_hearTransfer fun _ => rfl)
      · exact .refl s
  | commandDropped n tag code p =>
    cases hexec
    split
    · exact .refl s
    · exact guarded_takeFrame .refl
  | unknownCommand n tag code p =>
    cases hexec
    split
    · exact .refl s
    · exact guarded_takeFrame fun _ => .of_custody rfl
  | responseFetch n count =>
    cases hexec
    exact .of_custody (custody_hearTransfer (custody_fetchResponse n count))
  | identify n tag p => exact frame hexec fun _ => .of_custody rfl
  | createSegment n tag p => exact frame hexec fun _ => guarded_createSegment ..
  | writeSamples n tag p => exact frame hexec fun _ => .of_custody (custody_writeSamples ..)
  | finishSegment n tag p => exact frame hexec fun _ => guarded_finishSegment ..
  | abandonSegment n tag p => exact frame hexec fun _ => guarded_abandonSegment ..
  | deleteSegment n tag p => exact frame hexec fun _ => guarded_deleteSegment ..
  | readSamples n tag p => exact frame hexec fun _ => .of_custody (custody_readSamples ..)
  | querySegment n tag p => exact frame hexec fun _ => .of_custody rfl
  | findTag n tag p => exact frame hexec fun _ => .of_custody rfl
  | libraryStatus n tag p => exact frame hexec fun _ => .of_custody rfl
  | writeEntry n tag p => exact frame hexec fun _ => .of_custody (custody_writeEntry ..)
  | clearEntry n tag p => exact frame hexec fun _ => .of_custody (custody_clearEntry ..)
  | setTableEnd n tag p => exact frame hexec fun _ => .of_custody (custody_setTableEnd ..)
  | commitTable n tag p => exact frame hexec fun _ => .of_custody (custody_commitTable ..)
  | cancelCommit n tag p => exact frame hexec fun _ => .of_custody (custody_cancelCommit ..)
  | discardStaged n tag p => exact frame hexec fun _ => .of_custody (custody_discardStaged ..)
  | readEntry n tag p => exact frame hexec fun _ => .of_custody (custody_readEntry ..)
  | tableStatus n tag p => exact frame hexec fun _ => .of_custody (custody_tableStatus ..)
  | start n tag p => exact frame hexec fun _ => .of_custody (custody_startChannels ..)
  | stop n tag p => exact frame hexec fun _ => .of_custody (custody_stopChannels ..)
  | channelStatus n tag p => exact frame hexec fun _ => .of_custody (custody_channelStatus ..)
  | setScale n tag p => exact frame hexec fun _ => .of_custody (custody_setScale ..)
  | setRate n tag p => exact frame hexec fun _ => .of_custody (custody_setRate ..)
  | setChannelConfig n tag p => exact frame hexec fun _ => .of_custody (custody_setChannelConfig ..)
  | channelSettings n tag p => exact frame hexec fun _ => .of_custody (custody_channelSettings ..)
  | setCondition n tag p => exact frame hexec fun _ => .of_custody (custody_setCondition ..)
  | setConditionEnable n tag p => exact frame hexec fun _ => .of_custody (custody_setConditionEnable ..)
  | fireCondition n tag p => exact frame hexec fun _ => .of_custody (custody_fireCondition ..)
  | conditionStatus n tag p => exact frame hexec fun _ => .of_custody (custody_conditionStatus ..)
  | setMarker n tag p => exact frame hexec fun _ => .of_custody (custody_setMarker ..)
  | markerStatus n tag p => exact frame hexec fun _ => .of_custody rfl
  | setScrub n tag p => exact frame hexec fun _ => .of_custody (custody_setScrub ..)
  | errorLogRead n tag p => exact frame hexec fun _ => .of_custody rfl
  | errorLogClear n tag p => exact frame hexec fun _ => guarded_errorLogClear ..
  | setClockWindow n tag p => exact frame hexec fun _ => guarded_setClockWindow ..
  | clockStatus n tag p => exact frame hexec fun _ => .of_custody rfl
  | readEvents n tag p => exact frame hexec fun _ => .of_custody rfl
  | ackEvents n tag p => exact frame hexec fun _ => .of_custody rfl
  | setEventMask n tag p => exact frame hexec fun _ => .of_custody rfl
  | outputTick levels =>
    obtain rfl : tick levels s = t := Host.Outcome.next.inj hexec
    exact guarded_tick levels s
  | conditionFiring k levels => exact ticks hexec
  | holdoffExpiry k levels => exact ticks hexec
  | passEnd ch levels => exact ticks hexec
  | markerPulseEnd i levels => exact ticks hexec
  | measurementGateEnd =>
    cases hexec
    exact guarded_gateEnd s
  | scrubExpiry =>
    cases hexec
    split
    · exact .refl s
    · exact .of_custody (custody_scrubExpire s)
  | storeGrant =>
    cases hexec
    split
    · exact .refl s
    · exact guarded_grantDecision s
  | zeroFillWriteEnd => exact guarded_zeroFillWriteEnd hexec
  | writeSamplesTransferEnd upset => exact guarded_writeSamplesTransferEnd hexec
  | readSamplesLineEnd upset => exact guarded_readSamplesLineEnd hexec
  | prefetchReadEnd upset => exact guarded_prefetchReadEnd hexec
  | scrubReadEnd upset => exact guarded_scrubReadEnd hexec
  | markWriteEnd => exact guarded_markWriteEnd hexec
  | writeBackEnd => exact guarded_writeBackEnd hexec

/-! ### The store -/

/-- A transfer that ends has a line of the store (log entry 18), so that the line written lies inside it. -/
theorem storeLaw_of_transferEnd {c : Instr} (h : StoreLaw s) (hend : c.endsTransfer = true)
    (hexec : exec c s = .next t) : StoreLaw t := by
  obtain rfl | ⟨x, v, hx, hline, hkept⟩ := exec_ended hend hexec
  · exact h
  · obtain same | ⟨y, w, hy, hw, -⟩ := exec_endsATransfer s hend
    · obtain rfl := Host.Outcome.next.inj (hexec.symm.trans same)
      exact h
    obtain rfl := Option.some.inj (hx.symm.trans hy)
    have inside : x.addr < Config.storeLines := by
      obtain ⟨hin, -⟩ | ⟨-, hfault⟩ := inStore_cases x.addr w
      · exact hin
      · exact nomatch (hexec.symm.trans hw).trans hfault
    rw [StoreLaw, hkept.store]
    obtain rfl | ⟨l, rfl⟩ := hline
    · exact h
    · exact wf_putLine l h inside

theorem exec_storeLaw {c : Instr} (h : StoreLaw s) (hexec : exec c s = .next t) : StoreLaw t := by
  by_cases hend : c.endsTransfer = true
  · exact storeLaw_of_transferEnd h hend hexec
  by_cases hreset : ∃ selected, c = .powerOnReset selected
  · obtain ⟨selected, rfl⟩ := hreset
    cases hexec
    exact reset_store_wf
  · rw [StoreLaw, (exec_kept (Bool.eq_false_iff.mpr hend) (fun selected e => hreset ⟨selected, e⟩) hexec).store]
    exact h

/-- Settles O57: no command and no microsecond breaks the store's form or the laws of the two lists. -/
theorem stepsKeepTheStoreRecords : Obligations.StepsKeepTheStoreRecords := by
  unfold Obligations.StepsKeepTheStoreRecords
  intro s t ⟨hstore, hrecords⟩ hstep
  refine ⟨step_law (P := StoreLaw) (fun _ _ hu => hu) (fun u hu => ?_) (fun _ _ _ => exec_storeLaw) hstore hstep,
    step_law (P := fun u => MarkLaw u ∧ WriteBackLaw u) (fun _ _ hu => hu) (fun u => (guarded_microsecond u).records)
      (fun _ _ _ hu he => (exec_guarded he).records hu) hrecords hstep⟩
  rw [StoreLaw, (served_microsecond u).store]
  exact hu

/-- Settles O59: no command and no microsecond breaks the laws of the log and the monitor. -/
theorem stepsKeepTheLogAndMonitorLaws : Obligations.StepsKeepTheLogAndMonitorLaws := by
  unfold Obligations.StepsKeepTheLogAndMonitorLaws
  intro s t h hstep
  exact step_law (P := fun u => ErrorLogLaw u ∧ MonitorLaw u) (fun _ _ hu => hu)
    (fun u => (guarded_microsecond u).registers) (fun _ _ _ hu he => (exec_guarded he).registers hu) h hstep

end Sys2Proof.Machine
end

-- ==== The scrub read and the integrity unit's writes ====
section
/-! SUPPORT. The end of a scrub read by its outcome, and the ends of mark writes and write-backs (R139 to R147). -/

namespace Sys2Proof.Machine

open Sys2Proof

variable {s u : State} {id : SegId} {a : Nat}

/-! ### The end of a scrub read -/

/-- The state a scrub read's end leaves, its request done with (R149). -/
def scrubEnded (u : State) : State := { u with scrub := { u.scrub with request := none } }

theorem exec_scrubReadEnd (upset : LineBits) (hport : s.arbiter.port = some (.scrub a)) (ha : a < 262144) :
    exec (.scrubReadEnd upset) s = .next (scrubEnded (endRead .scrub a upset s).1) := by
  change execScrubReadEnd upset s = _
  rw [execScrubReadEnd, hport]
  exact inStore_next ha _

/-- The end of a read whose line nothing has upset since. -/
theorem endRead_steady (k : ReadKind) (a : Nat) (s : State) :
    (endRead k a 0#72 s).1 = presentWriteSide (judgeRead k a (s.setPort none)) := by
  rw [endRead, strike_zero]

/-- The state of a quiet scrub read's end. -/
theorem scrubEnded_quiet
    (h : (∀ id, ¬ Concerns s a id) ∨ classify s a = .marked ∨ classify s a = .checked .clean) :
    scrubEnded (endRead .scrub a 0#72 s).1 = { s with
      arbiter := { s.arbiter with port := none }
      scrub := { s.scrub with request := none }
      writeSide := writeSideAfter keepsAll s.marks s.writeBacks none s.writeSide } := by
  rw [endRead_steady, judgeRead_quiet (s := s.setPort none) h, presentWriteSide_eq]
  rfl

theorem scrubEnded_single {p : Fin 72} (hid : Concerns s a id) (hready : isReady (look s.slots id) = true)
    (h : classify s a = .checked (.single p)) :
    let writeBacks := if (∃ r ∈ s.writeBacks, r.addr = a) ∨ 8 ≤ s.writeBacks.length then s.writeBacks
      else s.writeBacks ++ [⟨a, id, correctedData (lineAt s a) p⟩]
    scrubEnded (endRead .scrub a 0#72 s).1 = { s with
      arbiter := { s.arbiter with port := none }
      scrub := { s.scrub with request := none }
      log := countError .correctable (logRecord ⟨.correctable, .scrub, a, id, some p⟩ s.log)
      links := inBothSets .corrected s.links
      writeBacks := writeBacks
      writeSide := writeSideAfter keepsAll s.marks writeBacks none s.writeSide } := by
  have offers : isReady (look s.slots id) = false ∨ (∃ r ∈ s.writeBacks, r.addr = a) ∨ 8 ≤ s.writeBacks.length ↔
      (∃ r ∈ s.writeBacks, r.addr = a) ∨ 8 ≤ s.writeBacks.length := by simp [hready]
  intro writeBacks
  have queue : writeBacks = if isReady (look s.slots id) = false ∨ (∃ r ∈ s.writeBacks, r.addr = a) ∨
      8 ≤ s.writeBacks.length then s.writeBacks else s.writeBacks ++ [⟨a, id, correctedData (lineAt s a) p⟩] :=
    (if_congr offers rfl rfl).symm
  rw [queue, endRead_steady, judgeRead_single (s := s.setPort none) hid h]
  dsimp only
  rw [if_neg (by exact Bool.false_ne_true), logError_eq, offerWriteBack_eq, presentWriteSide_eq]
  rfl

theorem scrubEnded_double (hid : Concerns s a id) (h : classify s a = .checked .double) :
    let full := 4 ≤ s.marks.length
    let marks := if full then s.marks else s.marks ++ [⟨a, id⟩]
    let writeBacks := if full then s.writeBacks else s.writeBacks.filter fun r => r.addr ≠ a
    scrubEnded (endRead .scrub a 0#72 s).1 = { s with
      arbiter := { s.arbiter with port := none }
      scrub := { s.scrub with request := none }
      log := countError .uncorrectable (logRecord ⟨.uncorrectable, .scrub, a, id, none⟩ s.log)
      links := inBothSets .uncorrectable s.links
      marks := marks
      slots := if full then s.slots else put s.slots id
        { look s.slots id with poisoned := min ((look s.slots id).poisoned + 1) 16384 }
      writeBacks := writeBacks
      writeSide := writeSideAfter (fun r => !full && isWriteBackOf a r) marks writeBacks none s.writeSide } := by
  rw [endRead_steady, judgeRead_double (s := s.setPort none) hid h]
  dsimp only
  rw [if_neg (by exact Bool.false_ne_true)]
  generalize hlogged : logError _ (s.setPort none) = logged
  have marks : logged.marks = s.marks := by
    rw [← hlogged, logError_eq]
    rfl
  by_cases hfull : 4 ≤ s.marks.length
  · rw [enterMark_full (marks ▸ hfull), presentWriteSide_eq, ← hlogged, logError_eq]
    simp only [hfull, if_true, decide_true, Bool.not_true, Bool.false_and]
    rfl
  · rw [enterMark_room (marks ▸ Nat.lt_of_not_le hfull), presentWriteSide_withdrawn, ← hlogged, logError_eq]
    simp only [hfull, if_false, decide_false, Bool.not_false, Bool.true_and]
    rfl

/-- Settles O24: the column of R140's table for any scrub read, and the next state for each outcome. -/
theorem scrubReadEndActsOnItsOutcome : Obligations.ScrubReadEndActsOnItsOutcome := by
  unfold Obligations.ScrubReadEndActsOnItsOutcome
  refine ⟨fun a upset s hport ha => ?_, fun a id s hport ha howner hready hfilling => ?_⟩
  · have acted := readActed_endRead .scrub a upset s
    have store := endRead_store .scrub a upset s
    have arbiter := endRead_arbiter .scrub a upset s
    have only := (integrityOnly_endRead .scrub a upset s).1
    have struck := strike_eq a upset s
    refine ⟨_, exec_scrubReadEnd upset hport ha, acted, store, arbiter, ?_, ?_, ?_⟩
    · rw [scrubEnded, only, struck]
      rfl
    · rw [scrubEnded, only, struck]
      rfl
    · rw [scrubEnded, only, struck]
      rfl
  · have concerns : Concerns s a id := ⟨howner, hfilling⟩
    dsimp only
    rw [exec_scrubReadEnd 0#72 hport ha]
    refine ⟨fun h => ?_, fun p hmark hlist hfaults => ?_, fun p q hne hmark hlist hfaults => ?_⟩
    · by_cases hmarked : (lineAt s a).mark = true ∨ ∃ r ∈ s.marks, r.addr = a
      · rw [scrubEnded_quiet (.inr (.inl (if_pos (marked_iff.mpr hmarked))))]
      · obtain ⟨hmark, hlist⟩ := not_or.mp hmarked
        have clean : (lineAt s a).faults = 0#72 := (h.resolve_left hmark).resolve_left hlist
        have unlisted : ∀ r ∈ s.marks, r.addr ≠ a := fun r hr he => hlist ⟨r, hr, he⟩
        have checked := classify_unmarked (Bool.eq_false_iff.mpr hmark) unlisted
        rw [checkLine_clean clean] at checked
        rw [scrubEnded_quiet (.inr (.inr checked))]
    · have checked := classify_unmarked hmark hlist
      rw [checkLine_single hfaults] at checked
      rw [scrubEnded_single concerns hready checked, correctedData_single hfaults]
    · have checked := classify_unmarked hmark hlist
      rw [checkLine_double hne hfaults] at checked
      rw [scrubEnded_double concerns checked]

/-! ### The integrity unit's writes -/

theorem exec_markWriteEnd {r : MarkRecord} (hport : s.arbiter.port = some (.mark r)) (ha : r.addr < 262144) :
    exec .markWriteEnd s = .next (presentWriteSide { writeMark r.addr (s.setPort none) with
      marks := s.marks.filter fun q => q.addr ≠ r.addr }) := by
  change execMarkWriteEnd s = _
  rw [execMarkWriteEnd, hport]
  exact inStore_next ha _

theorem exec_writeBackEnd {r : WriteBack} (hport : s.arbiter.port = some (.writeBack r)) (ha : r.addr < 262144) :
    exec .writeBackEnd s = .next (presentWriteSide (writeData r.addr r.data (s.setPort none))) := by
  change execWriteBackEnd s = _
  rw [execWriteBackEnd, hport]
  exact inStore_next ha _

/-- Settles O25: each write is one line put, and the write side's next request presented. -/
theorem markWritesAndWriteBacks : Obligations.MarkWritesAndWriteBacks := by
  unfold Obligations.MarkWritesAndWriteBacks
  intro s
  refine ⟨fun r hport ha => ⟨_, exec_markWriteEnd hport ha, ?_⟩, fun r hport ha => ⟨_, exec_writeBackEnd hport ha, ?_⟩⟩
  · rw [presentWriteSide_eq]
    exact ⟨lineAt_putLine_same s _ _, fun b hb => lineAt_putLine_ne s _ hb.symm, rfl, rfl, rfl, rfl, rfl, rfl⟩
  · rw [presentWriteSide_eq]
    exact ⟨lineAt_putLine_same s _ _, fun b hb => lineAt_putLine_ne s _ hb.symm, rfl, rfl, rfl, rfl, rfl, rfl⟩

end Sys2Proof.Machine
end

-- ==== The system time base and the scrubber ====
section
/-! SUPPORT. The microsecond of the system time base, timer by timer (R149, R158), the scrub walk as the lowest of a set
of lines (R148, R149), and SET_SCRUB (R150). -/

namespace Sys2Proof.Machine

open Sys2Proof

variable {s : State} {n : LinkId} {a : Nat}

/-! ### The microsecond -/

theorem step_of_empty_queue (h : s.pending = []) : Sys2Proof.Machine.step s = .next (microsecond s) := by
  rw [step, h]

theorem gateMicrosecond_counts (h : 2 ≤ s.monitor.gateTimer) :
    gateMicrosecond s = { s with monitor := { s.monitor with gateTimer := s.monitor.gateTimer - 1 } } :=
  if_neg (by omega)

theorem gateMicrosecond_ends (h : s.monitor.gateTimer = 1) : gateMicrosecond s = gateEnd s := if_pos (by omega)

theorem scrubMicrosecond_off (h : s.scrub.interval = 0) : scrubMicrosecond s = s := if_pos h

theorem scrubMicrosecond_counts (h : s.scrub.interval ≠ 0) (ht : 2 ≤ s.scrub.timer) :
    scrubMicrosecond s = { s with scrub := { s.scrub with timer := s.scrub.timer - 1 } } := by
  rw [scrubMicrosecond, if_neg h, if_neg (by omega)]

/-- The scrub timer while it does not run out. -/
theorem scrubMicrosecond_runs (h : s.scrub.interval = 0 ∨ 2 ≤ s.scrub.timer) : scrubMicrosecond s = { s with
    scrub := { s.scrub with timer := if s.scrub.interval = 0 then s.scrub.timer else s.scrub.timer - 1 } } := by
  by_cases hoff : s.scrub.interval = 0
  · rw [if_pos hoff]
    exact scrubMicrosecond_off hoff
  · rw [if_neg hoff]
    exact scrubMicrosecond_counts hoff (h.resolve_left hoff)

theorem exec_scrubExpiry (h : s.scrub.interval ≠ 0) : exec .scrubExpiry s = .next (scrubExpire s) :=
  congrArg _ (if_neg h)

theorem scrubMicrosecond_expires (h : s.scrub.interval ≠ 0) (ht : s.scrub.timer = 1) :
    .next (scrubMicrosecond s) = exec .scrubExpiry s := by
  rw [exec_scrubExpiry h, scrubMicrosecond, if_neg h, if_pos (by omega)]

theorem scrub_gateEnd (s : State) : (gateEnd s).scrub = s.scrub := by rw [gateEnd_frame]; rfl

/-- Settles O2: the gate's part of the microsecond, then the scrub timer's. -/
theorem emptyQueueStepIsOneMicrosecond : Obligations.EmptyQueueStepIsOneMicrosecond := by
  unfold Obligations.EmptyQueueStepIsOneMicrosecond
  intro s hqueue
  have scrub := scrub_gateEnd s
  rw [step_of_empty_queue hqueue, microsecond]
  refine ⟨fun hgate hscrub => ?_, fun hgate hoff => ?_, fun hgate hon => ⟨gateEnd s, rfl, scrub, fun ht => ?_, fun ht => ?_⟩,
    fun hgate hon ht => ?_⟩
  · rw [gateMicrosecond_counts hgate, scrubMicrosecond_runs (by exact hscrub)]
  · rw [gateMicrosecond_ends hgate, scrubMicrosecond_off (by rw [scrub]; exact hoff)]
    rfl
  · rw [gateMicrosecond_ends hgate, scrubMicrosecond_counts (by rw [scrub]; exact hon) (by rw [scrub]; exact ht), scrub]
  · rw [gateMicrosecond_ends hgate, scrubMicrosecond_expires (by rw [scrub]; exact hon) (by rw [scrub]; exact ht)]
  · rw [gateMicrosecond_counts hgate]
    exact scrubMicrosecond_expires hon ht

/-! ### The lowest line of a set -/

/-- The address found is the lowest of the set, and none is found of an empty one. -/
structure Lowest (o : Option Nat) (lines : Set Nat) : Prop where
  found : ∀ a, o = some a → IsLeast lines a
  missed : o = none → lines = ∅

variable {o o' : Option Nat} {lines lines' : Set Nat}

theorem Lowest.of_empty (h : lines = ∅) : Lowest none lines := ⟨fun _ e => (nomatch e), fun _ => h⟩

theorem Lowest.of_least (h : IsLeast lines a) : Lowest (some a) lines :=
  ⟨fun _ e => Option.some.inj e ▸ h, fun e => nomatch e⟩

theorem Lowest.ne_none (h : Lowest o lines) (ha : a ∈ lines) : o ≠ none := fun hnone =>
  Set.notMem_empty a (h.missed hnone ▸ ha)

theorem Lowest.eq_some (h : Lowest o lines) (ha : IsLeast lines a) : o = some a := by
  obtain ⟨b, hb⟩ := Option.ne_none_iff_exists'.mp (h.ne_none ha.1)
  rw [hb, (h.found b hb).unique ha]

theorem Lowest.eq_none (h : Lowest o lines) (hempty : lines = ∅) : o = none := by
  subst hempty
  exact Option.eq_none_iff_forall_ne_some.mpr fun b hb => Set.notMem_empty b (h.found b hb).1

theorem Lowest.lesser (h : Lowest o lines) (h' : Lowest o' lines') : Lowest (lesser o o') (lines ∪ lines') := by
  cases o with
  | none =>
    rw [h.missed rfl, Set.empty_union]
    cases o' <;> exact h'
  | some a =>
    cases o' with
    | none =>
      rw [h'.missed rfl, Set.union_empty]
      exact h
    | some b => exact .of_least ((h.found a rfl).union (h'.found b rfl))

theorem Lowest.foldl {β : Type} {f : β → Option Nat} {linesOf : β → Set Nat} (h : ∀ x, Lowest (f x) (linesOf x))
    (l : List β) :
    ∀ {acc : Option Nat} {seen : Set Nat}, Lowest acc seen →
      Lowest (l.foldl (fun acc x => Machine.lesser acc (f x)) acc) (seen ∪ {a | ∃ x ∈ l, a ∈ linesOf x}) := by
  induction l with
  | nil => intro acc seen hacc; simpa using hacc
  | cons x l ih =>
    intro acc seen hacc
    have next := ih (hacc.lesser (h x))
    have both : seen ∪ linesOf x ∪ {a | ∃ y ∈ l, a ∈ linesOf y} = seen ∪ {a | ∃ y ∈ x :: l, a ∈ linesOf y} := by
      ext a
      simp [or_assoc]
    rwa [both] at next

/-! ### The walk -/

/-- A used line of a READY segment (R148). -/
def UsedLine (s : State) (a : Nat) : Prop :=
  ∃ (id : SegId) (length : Nat) (e : Extent) (label : BitVec 32),
    (look s.slots id).body = .ready length e label ∧ 16 * e.first ≤ a ∧ a < 16 * e.first + (length + 3) / 4

/-- The slot's used lines at or above the cursor, none but of a READY segment. -/
def slotWalk (cursor : Nat) (x : Slot) : Set Nat :=
  {a | ∃ length e label, x.body = .ready length e label ∧ 16 * e.first ≤ a ∧ a < 16 * e.first + (length + 3) / 4 ∧
    cursor ≤ a}

theorem lowest_walkIn (cursor : Nat) (x : Slot) : Lowest (walkIn cursor x) (slotWalk cursor x) := by
  have unready (h : ∀ length e label, x.body ≠ .ready length e label) : Lowest none (slotWalk cursor x) :=
    .of_empty (Set.eq_empty_of_forall_notMem fun a ⟨length, e, label, hbody, _⟩ => h length e label hbody)
  unfold walkIn
  cases hbody : x.body with
  | free => exact unready fun _ _ _ h => nomatch hbody.symm.trans h
  | opened owner length e => exact unready fun _ _ _ h => nomatch hbody.symm.trans h
  | ready length e label =>
    have lines : slotWalk cursor x = {a | 16 * e.first ≤ a ∧ a < 16 * e.first + (length + 3) / 4 ∧ cursor ≤ a} := by
      ext a
      simp [slotWalk, hbody]
    rw [lines]
    by_cases hin : max cursor (16 * e.first) < 16 * e.first + passLinesFor length
    · simp only [hin, if_true]
      rw [passLinesFor] at hin
      exact .of_least ⟨⟨by omega, by omega, by omega⟩, fun b ⟨hb, _, hcursor⟩ => by omega⟩
    · simp only [hin, if_false]
      rw [passLinesFor] at hin
      exact .of_empty (Set.eq_empty_of_forall_notMem fun a ⟨hb, hlt, hcursor⟩ => hin (by omega))

/-- The walk finds the lowest used line at or above the cursor (R149). -/
theorem lowest_walkNext (s : State) (cursor : Nat) :
    Lowest (walkNext s cursor) {a | UsedLine s a ∧ cursor ≤ a} := by
  have walked := Lowest.foldl (f := fun id => walkIn cursor (look s.slots id))
    (linesOf := fun id => slotWalk cursor (look s.slots id)) (fun id => lowest_walkIn cursor _) (List.finRange 256)
    (.of_empty rfl)
  have lines : ∅ ∪ {a | ∃ id ∈ List.finRange 256, a ∈ slotWalk cursor (look s.slots id)} =
      {a | UsedLine s a ∧ cursor ≤ a} := by
    ext a
    simp only [Set.empty_union, List.mem_finRange, true_and, slotWalk, UsedLine, Set.mem_ofPred_eq]
    constructor
    · rintro ⟨id, length, e, label, hbody, hlow, hhigh, hcursor⟩
      exact ⟨⟨id, length, e, label, hbody, hlow, hhigh⟩, hcursor⟩
    · rintro ⟨⟨id, length, e, label, hbody, hlow, hhigh⟩, hcursor⟩
      exact ⟨id, length, e, label, hbody, hlow, hhigh, hcursor⟩
  rwa [lines] at walked

/-! ### The expiry -/

theorem inBothSets_twice (f : EventFlag) (links : Vector Link 2) :
    inBothSets f (inBothSets f links) = inBothSets f links := by
  apply vector_ext_look
  intro m
  rw [look_inBothSets, look_inBothSets, BitVec.or_assoc, BitVec.or_self]

theorem takeScrubLine_eq (a : Nat) (s : State) : takeScrubLine a s = { s with
    scrub := { s.scrub with request := some a, cursor := if a = 262143 then 0 else a + 1 }
    links := if a = 262143 then inBothSets .scrubPass s.links else s.links } := by
  unfold takeScrubLine
  by_cases h : a = 262143
  · subst h
    exact raise_eq _ _
  · have before : ¬ a + 1 = Config.storeLines := fun hlast => h (Nat.succ.inj hlast)
    rw [if_neg before, if_neg h, if_neg h]

theorem scrubExpire_asks (hrequest : s.scrub.request = none) (hlowest : walkNext s 0 ≠ none)
    (hnext : walkNext s s.scrub.cursor = some a) :
    scrubExpire s = takeScrubLine a { s with scrub := { s.scrub with timer := s.scrub.interval } } := by
  obtain ⟨lowest, hlowest⟩ := Option.ne_none_iff_exists'.mp hlowest
  have found (x : Scrub) (cursor : Nat) : walkNext { s with scrub := x } cursor = walkNext s cursor := rfl
  simp only [scrubExpire, hrequest, found, hlowest, hnext, Option.isSome_none, Bool.false_eq_true, if_false]

theorem scrubExpire_wraps (hrequest : s.scrub.request = none) (hlowest : walkNext s 0 = some a)
    (hnext : walkNext s s.scrub.cursor = none) :
    scrubExpire s =
      takeScrubLine a (State.raise { s with scrub := { s.scrub with timer := s.scrub.interval } } .scrubPass) := by
  have found (x : Scrub) (cursor : Nat) : walkNext { s with scrub := x } cursor = walkNext s cursor := rfl
  simp only [scrubExpire, hrequest, found, hlowest, hnext, Option.isSome_none, Bool.false_eq_true, if_false]

theorem scrubExpire_rests (h : s.scrub.request ≠ none ∨ walkNext s 0 = none) :
    scrubExpire s = { s with scrub := { s.scrub with timer := s.scrub.interval } } := by
  have found (x : Scrub) (cursor : Nat) : walkNext { s with scrub := x } cursor = walkNext s cursor := rfl
  unfold scrubExpire
  dsimp only
  split
  · rfl
  · next hrequest =>
    have nothing := h.resolve_left fun hr => hrequest (Option.isSome_iff_ne_none.mpr hr)
    rw [found, nothing]

/-- Settles O52: the expiry by what the walk finds, and the interval set. -/
theorem scrubberWalksTheUsedLines : Obligations.ScrubberWalksTheUsedLines := by
  unfold Obligations.ScrubberWalksTheUsedLines
  refine ⟨fun s hinterval => ?_, fun n tag interval s h hlt => ⟨fun hout => ?_, fun hin => ?_⟩⟩
  · intro used asked
    rw [exec_scrubExpiry hinterval]
    refine ⟨fun h => ?_, fun hrequest a ha => ⟨fun hcursor hmin => ?_, fun hbehind => ?_⟩⟩
    · refine congrArg _ (scrubExpire_rests (h.imp_right fun hnone => ?_))
      exact (lowest_walkNext s 0).eq_none (Set.eq_empty_of_forall_notMem fun a ha => hnone a ha.1)
    · have next : walkNext s s.scrub.cursor = some a :=
        (lowest_walkNext s _).eq_some ⟨⟨ha, hcursor⟩, fun b hb => hmin b hb.1 hb.2⟩
      have some_line := (lowest_walkNext s 0).ne_none ⟨ha, Nat.zero_le a⟩
      rw [scrubExpire_asks hrequest some_line next, takeScrubLine_eq]
    · have lowest : walkNext s 0 = some a :=
        (lowest_walkNext s 0).eq_some ⟨⟨ha, Nat.zero_le a⟩, fun b hb => (hbehind b hb.1).2⟩
      have next : walkNext s s.scrub.cursor = none :=
        (lowest_walkNext s _).eq_none (Set.eq_empty_of_forall_notMem fun b hb => Nat.not_le.mpr (hbehind b hb.1).1 hb.2)
      rw [scrubExpire_wraps hrequest lowest next, takeScrubLine_eq, raise_eq, inBothSets_twice, ite_self]
  · refine exec_responds (code := 0x50#8) rfl h (length_leBytes 4 _) (by decide) (by decide) ?_
    rw [setScrub, fieldAt_leBytes (k := 4) hlt]
    exact if_pos hout
  · rw [exec_taken (code := 0x50#8) rfl h (length_leBytes 4 _) (by decide) (by decide), setScrub,
      fieldAt_leBytes (k := 4) hlt]
    dsimp only
    rw [if_neg (Nat.not_lt.mpr hin), respond_heard tag .ok _ rfl]
    have request : scrubRecord (scrubInTransfer s) interval s.scrub = { s.scrub with
        interval := interval
        timer := interval
        request := if interval = 0 ∧ scrubInTransfer s = false then none else s.scrub.request } := by
      simp [scrubRecord]
    rw [← request]
    rfl

end Sys2Proof.Machine
end

-- ==== The clock window, the log's clearing and the event commands ====
section
/-! SUPPORT. SET_CLOCK_WINDOW, ERROR_LOG_CLEAR and the event commands (R155, R162, R183 to R187), the group summary bit by
bit, and NOTIFYn. -/

namespace Sys2Proof.Machine

open Sys2Proof

variable {s : State} {n : LinkId} {tag : Byte} {l : Link}

/-! ### The driving flags -/

theorem getLsbD_drivingFlags (l : Link) (p : Fin 41) :
    (drivingFlags l).getLsbD p.val = true ↔ l.flags.getLsbD p.val = true ∧ l.masks.getLsbD p.val = false := by
  simp [drivingFlags]

/-- NOTIFYn is asserted while LRSTn is not held and some flag is set and unmasked (R176, R186). -/
theorem notifyAsserted_iff (l : Link) : notifyAsserted l = true ↔ l.inReset = false ∧
    ∃ p : Fin 41, l.flags.getLsbD p.val = true ∧ l.masks.getLsbD p.val = false := by
  have driven : drivingFlags l ≠ 0#41 ↔ ∃ p : Fin 41, (drivingFlags l).getLsbD p.val = true := by
    constructor
    · intro h
      by_contra hnone
      refine h (BitVec.eq_of_getLsbD_eq fun i hi => ?_)
      rw [BitVec.getLsbD_zero]
      exact Bool.eq_false_iff.mpr fun hset => hnone ⟨⟨i, hi⟩, hset⟩
    · rintro ⟨p, hp⟩ hzero
      simp [hzero] at hp
  simp only [notifyAsserted, Bool.and_eq_true, Bool.not_eq_true', bne_iff_ne, driven, getLsbD_drivingFlags]

/-! ### The group summary -/

/-- The number with one bit for each of a list, the first lowest. -/
def bitsOf {α : Type} (f : α → Bool) (l : List α) : Nat := l.foldr (fun x acc => 2 * acc + (if f x then 1 else 0)) 0

theorem bitsOf_lt {α : Type} (f : α → Bool) (l : List α) : bitsOf f l < 2 ^ l.length := by
  induction l with
  | nil => exact Nat.one_pos
  | cons x l ih =>
    have cons : bitsOf f (x :: l) = 2 * bitsOf f l + (if f x then 1 else 0) := rfl
    rw [cons, List.length_cons, Nat.pow_succ]
    split <;> omega

theorem testBit_bitsOf {α : Type} (f : α → Bool) (l : List α) : ∀ i, (bitsOf f l).testBit i = l[i]?.any f := by
  induction l with
  | nil => exact fun i => Nat.zero_testBit i
  | cons x l ih =>
    have cons : bitsOf f (x :: l) = 2 * bitsOf f l + (if f x then 1 else 0) := rfl
    intro i
    rw [cons]
    cases i with
    | zero => cases hx : f x <;> simp [Nat.testBit_zero, hx, Nat.add_mod]
    | succ i =>
      have half : (2 * bitsOf f l + if f x then 1 else 0) / 2 = bitsOf f l := by split <;> omega
      rw [Nat.testBit_succ, half, ih, List.getElem?_cons_succ]

theorem groupSummary_eq (l : Link) : groupSummary l = bitsOf (groupDrives (drivingFlags l)) flagGroups := rfl

/-- A group drives where a set and unmasked flag stands at one of its positions (R187). -/
theorem groupDrives_iff {first count : Nat} (h : first + count ≤ 41) :
    groupDrives (drivingFlags l) (first, count) = true ↔ ∃ p : Fin 41,
      l.flags.getLsbD p.val = true ∧ l.masks.getLsbD p.val = false ∧ first ≤ p.val ∧ p.val < first + count := by
  simp only [groupDrives, List.any_eq_true, List.mem_range]
  constructor
  · rintro ⟨i, hi, hset⟩
    obtain ⟨hflag, hmask⟩ := (getLsbD_drivingFlags l ⟨first + i, by omega⟩).mp hset
    exact ⟨⟨first + i, by omega⟩, hflag, hmask, Nat.le_add_right .., Nat.add_lt_add_left hi _⟩
  · rintro ⟨p, hflag, hmask, hlow, hhigh⟩
    refine ⟨p.val - first, by omega, ?_⟩
    rw [Nat.add_sub_cancel' hlow]
    exact (getLsbD_drivingFlags l p).mpr ⟨hflag, hmask⟩

/-- The group of a flag's position (spec 11 section 11.2). -/
def groupOf (p : Nat) : Nat :=
  if p < 28 then p / 7 else if p < 32 then 4 else if p < 35 then 5 else if p < 37 then 6 else if p < 38 then 7 else 8

/-- The first position and the number of positions of a group. -/
def groupBounds (g : Fin 9) : Nat × Nat := flagGroups[g.val]'g.isLt

theorem groupBounds_le : ∀ g : Fin 9, (groupBounds g).1 + (groupBounds g).2 ≤ 41 := by decide

theorem groupOf_iff : ∀ (g : Fin 9) (p : Fin 41),
    g.val = groupOf p.val ↔ (groupBounds g).1 ≤ p.val ∧ p.val < (groupBounds g).1 + (groupBounds g).2 := by decide

theorem testBit_groupSummary (l : Link) (g : Fin 9) : (groupSummary l).testBit g.val = true ↔
    ∃ p : Fin 41, l.flags.getLsbD p.val = true ∧ l.masks.getLsbD p.val = false ∧ g.val = groupOf p.val := by
  have group : flagGroups[g.val]? = some (groupBounds g) := List.getElem?_eq_getElem g.isLt
  rw [groupSummary_eq, testBit_bitsOf, group, Option.any_some]
  simp only [groupOf_iff]
  exact groupDrives_iff (groupBounds_le g)

/-! ### The commands -/

theorem flagSetAt_leBytes (named : BitVec 48) : flagSetAt (leBytes 6 named.toNat) 0 = named.setWidth 41 := by
  rw [flagSetAt, fieldAt_leBytes (k := 6) named.isLt]
  rfl

section

variable (h : Takes s n)
include h

theorem exec_setClockWindow {low high : Nat} (hlow : low < 65536) (hhigh : high < 65536) :
    (low ≤ high → exec (.setClockWindow n tag (leBytes 2 low ++ leBytes 2 high)) s = .next { s with
      monitor := { s.monitor with windowMin := low, windowMax := high }
      links := answered n 4 tag .ok [] s.links }) ∧
    (high < low → exec (.setClockWindow n tag (leBytes 2 low ++ leBytes 2 high)) s =
      .next { s with links := answered n 4 tag .outOfRange [] s.links }) := by
  have first : fieldAt (leBytes 2 low ++ leBytes 2 high) 0 2 = low := fieldAt_written (a := []) (k := 2) rfl hlow
  have second : fieldAt (leBytes 2 low ++ leBytes 2 high) 2 2 = high := by
    have written := fieldAt_written (a := leBytes 2 low) (p := []) (k := 2) (length_leBytes 2 low) hhigh
    rwa [List.append_nil] at written
  have length : (leBytes 2 low ++ leBytes 2 high).length = 4 := by simp
  refine ⟨fun hle => ?_, fun hlt => ?_⟩
  · rw [exec_taken (code := 0x58#8) rfl h length (by decide) (by decide), setClockWindow, first, second,
      if_neg (Nat.not_lt.mpr hle), respond_heard tag .ok [] rfl]
    rfl
  · refine exec_responds (code := 0x58#8) rfl h length (by decide) (by decide) ?_
    rw [setClockWindow, first, second]
    exact if_pos hlt

theorem exec_errorLogClear : exec (.errorLogClear n tag []) s = .next { s with
    log := ⟨none, 0#14, 0, 0⟩
    links := answered n 0 tag .ok [] s.links } := by
  rw [exec_taken (code := 0x52#8) rfl h rfl (by decide) (by decide), respond_heard tag .ok [] rfl]
  rfl

theorem exec_readEvents : exec (.readEvents n tag []) s = .next { s with
    links := answered n 0 tag .ok (leBytes 6 (look s.links n).flags.toNat ++ leBytes 6 (look s.links n).masks.toNat ++
      leBytes 2 (groupSummary (look s.links n))) s.links } := by
  have report : eventReport (look (heard n 0 s).links n) = eventReport (look s.links n) := by
    rw [heard, heardFrame, look_put_same]
    rfl
  refine exec_responds (code := 0x60#8) rfl h rfl (by decide) (by decide) ?_
  rw [report]
  rfl

theorem exec_ackEvents (named : BitVec 48) : exec (.ackEvents n tag (leBytes 6 named.toNat)) s = .next { s with
    links := put s.links n { look s.links n with
      sdo := List.replicate 11 0#8
      phase := .holding ⟨tag, .ok, []⟩
      flags := ((look s.links n).flags ||| BitVec.twoPow 41 38) &&& ~~~(named.setWidth 41) } } := by
  rw [exec_taken (code := 0x61#8) rfl h (length_leBytes 6 _) (by decide) (by decide), ackEvents, flagSetAt_leBytes,
    respond_heard tag .ok [] rfl]
  simp only [State.modLink, answered, look_put_same, put_put]
  rfl

theorem exec_setEventMask (named : BitVec 48) : exec (.setEventMask n tag (leBytes 6 named.toNat)) s = .next { s with
    links := put s.links n { look s.links n with
      sdo := List.replicate 11 0#8
      phase := .holding ⟨tag, .ok, []⟩
      flags := (look s.links n).flags ||| BitVec.twoPow 41 38
      masks := named.setWidth 41 } } := by
  rw [exec_taken (code := 0x62#8) rfl h (length_leBytes 6 _) (by decide) (by decide), setEventMask, flagSetAt_leBytes,
    respond_eq]
  simp only [State.modLink, heard, heardFrame, look_put_same, put_put]
  rfl

end

/-- Settles O53: each command's next state, the group summary and NOTIFYn. -/
theorem clockLogAndEventCommands : Obligations.ClockLogAndEventCommands := by
  unfold Obligations.ClockLogAndEventCommands
  intro n tag s h l
  exact ⟨fun low high hlow hhigh => exec_setClockWindow h hlow hhigh, exec_errorLogClear h,
    ⟨groupSummary l, exec_readEvents h, bitsOf_lt _ flagGroups, testBit_groupSummary l⟩,
    fun named => ⟨exec_ackEvents h named, exec_setEventMask h named⟩, notifyAsserted_iff l⟩

end Sys2Proof.Machine
end

-- ==== The end of a measurement gate ====
section
/-! SUPPORT. The end of a measurement gate: the lock table as the record's five rows (R159), the halt of one channel and
of every playing channel with halt-on-loss (R65, R67), and the marker paths that empty with them (R119). -/

namespace Sys2Proof.Machine

open Sys2Proof

variable {s t : State} {ch : ChanId} {halted : ChanId → Bool} {raised : Nat → Prop} {m : Monitor}

/-! ### The lock table -/

theorem inWindow_iff (m : Monitor) : inWindow m = true ↔ m.windowMin ≤ m.edges ∧ m.edges ≤ m.windowMax := by
  simp [inWindow]

/-- A locked monitor keeps the lock at a gate in window and loses it at any other (R159). -/
theorem gateRecord_of_locked (h : m.locked = true) :
    (gateRecord m).locked = inWindow m ∧ (gateRecord m).goodGates = 0 := by
  simp [gateRecord, h]

/-- After a gate out of window the monitor is unlocked, with no gate to its credit (R159). -/
theorem gateRecord_of_out (h : inWindow m = false) :
    (gateRecord m).locked = false ∧ (gateRecord m).goodGates = 0 := by
  simp [gateRecord, h]

/-- An unlocked monitor counts the first gate in window and locks at the second (R159). -/
theorem gateRecord_of_good (hlock : m.locked = false) (h : inWindow m = true) :
    (gateRecord m).locked = (m.goodGates == 1) ∧ (gateRecord m).goodGates = if m.goodGates = 0 then 1 else 0 := by
  simp [gateRecord, h, hlock]

/-- The five rows of R159. -/
theorem gateRecord_rows (m : Monitor) :
    let good := m.windowMin ≤ m.edges ∧ m.edges ≤ m.windowMax
    let becomes := fun (locked : Bool) (goodGates : Nat) =>
      (gateRecord m).locked = locked ∧ (gateRecord m).goodGates = goodGates
    (m.locked = true → good → becomes true 0) ∧ (m.locked = true → ¬ good → becomes false 0) ∧
      (m.locked = false → good → m.goodGates = 0 → becomes false 1) ∧
      (m.locked = false → good → m.goodGates = 1 → becomes true 0) ∧
      (m.locked = false → ¬ good → becomes false 0) := by
  intro good becomes
  have window : inWindow m = true ↔ good := inWindow_iff m
  have out (h : ¬ good) : becomes false 0 := gateRecord_of_out (Bool.eq_false_iff.mpr (mt window.mp h))
  refine ⟨fun hlock hgood => ?_, fun _ => out, fun hlock hgood hzero => ?_, fun hlock hgood hone => ?_,
    fun _ => out⟩
  · exact window.mpr hgood ▸ gateRecord_of_locked hlock
  · simpa [hzero] using gateRecord_of_good hlock (window.mpr hgood)
  · simpa [hone] using gateRecord_of_good hlock (window.mpr hgood)

/-! ### Flags set on both links -/

/-- From `v` to `w` the links differ in their flags alone, and those at the positions of `raised` have been set. -/
structure FlagsRaised (raised : Nat → Prop) (v w : Vector Link 2) : Prop where
  link : ∀ n : LinkId, look w n = { look v n with flags := (look w n).flags }
  flag : ∀ (n : LinkId) (p : Nat),
    (look w n).flags.getLsbD p = true ↔ (look v n).flags.getLsbD p = true ∨ raised p

namespace FlagsRaised

variable {shown : Nat → Prop} {v w : Vector Link 2}

theorem refl (v : Vector Link 2) : FlagsRaised (fun _ => False) v v := ⟨fun _ => rfl, fun _ _ => by rw [or_false]⟩

theorem inBothSets (f : EventFlag) (h : FlagsRaised raised v w) :
    FlagsRaised (fun p => raised p ∨ p = flagPos f) v (Machine.inBothSets f w) := by
  constructor
  · intro n
    rw [look_inBothSets, h.link n]
  · intro n p
    rw [look_inBothSets, BitVec.getLsbD_or, Bool.or_eq_true, h.flag n p, getLsbD_flagBit, decide_eq_true_iff,
      eq_comm (a := flagPos f), or_assoc]

theorem congr (h : FlagsRaised raised v w) (same : ∀ p, raised p ↔ shown p) : FlagsRaised shown v w :=
  ⟨h.link, fun n p => (h.flag n p).trans (or_congr_right (same p))⟩

end FlagsRaised

/-! ### Marker paths that empty -/

/-- The channel a pin's source names and the level the source gives while that channel is HALTED (R119). -/
def haltedLevel (m : MarkerPin) : Option (ChanId × Bool) :=
  match m.source with
  | .entryBit c _ => some (c, false)
  | .running c => some (c, false)
  | .passToggle c _ => some (c, m.toggle)
  | _ => none

/-- A pin once the channels of `halted` have halted (R119). -/
def pinHalted (halted : ChanId → Bool) (m : MarkerPin) : MarkerPin :=
  match haltedLevel m with
  | none => m
  | some (c, level) => if halted c then { m with path := List.replicate 24 level } else m

theorem pinHalted_unnamed {m : MarkerPin} (h : haltedLevel m = none) : pinHalted halted m = m := by
  rw [pinHalted, h]

theorem pinHalted_named {m : MarkerPin} {c : ChanId} {level : Bool} (h : haltedLevel m = some (c, level)) :
    pinHalted halted m = if halted c then { m with path := List.replicate 24 level } else m := by
  rw [pinHalted, h]

theorem pinHalted_none {m : MarkerPin} (h : ∀ c, halted c = false) : pinHalted halted m = m := by
  cases hlevel : haltedLevel m with
  | none => exact pinHalted_unnamed hlevel
  | some named => rw [pinHalted_named hlevel, h, if_neg Bool.false_ne_true]

/-- The model's emptying of one channel's pins, by the level its source gives. -/
theorem emptyMarkerPath_eq (ch : ChanId) (m : MarkerPin) : emptyMarkerPath ch m = pinHalted (fun c => c = ch) m := by
  cases hsource : m.source <;> simp only [emptyMarkerPath, pinHalted, haltedLevel, hsource, decide_eq_true_eq]

/-- Emptied paths stay as they are when one more channel halts. -/
theorem emptyMarkerPath_pinHalted (ch : ChanId) (m : MarkerPin) :
    emptyMarkerPath ch (pinHalted halted m) = pinHalted (fun c => halted c || decide (c = ch)) m := by
  rw [emptyMarkerPath_eq]
  cases hlevel : haltedLevel m with
  | none => rw [pinHalted_unnamed hlevel, pinHalted_unnamed hlevel, pinHalted_unnamed hlevel]
  | some named =>
    obtain ⟨c, level⟩ := named
    have emptied : haltedLevel { m with path := List.replicate 24 level } = some (c, level) := hlevel
    rw [pinHalted_named (halted := halted) hlevel, pinHalted_named hlevel]
    cases hc : halted c with
    | true => rw [if_pos rfl, pinHalted_named emptied, ite_self, Bool.true_or, if_pos rfl]
    | false => rw [if_neg Bool.false_ne_true, pinHalted_named hlevel, Bool.false_or]

/-! ### The halt of one channel -/

/-- A loss of lock halts the channel: it plays and has halt-on-loss (R65). -/
def haltsAtLoss (c : Channel) : Bool := c.haltOnLoss && (c.mode = .running || c.mode = .waiting)

theorem haltsAtLoss_iff (c : Channel) :
    haltsAtLoss c = true ↔ c.haltOnLoss = true ∧ (c.mode = .running ∨ c.mode = .waiting) := by
  simp [haltsAtLoss]

/-- A prefetcher with its waiting request withdrawn. -/
def requestWithdrawn (p : Prefetch) : Prefetch :=
  { p with waiting := none, next := (p.waiting.map PrefetchRequest.pos).or p.next }

theorem withdrawPrefetch_changes (ch : ChanId) (s : State) : withdrawPrefetch ch s =
    { s with prefetch := put s.prefetch ch (requestWithdrawn (look s.prefetch ch)) } := by
  cases hwait : (look s.prefetch ch).waiting with
  | none =>
    have same : requestWithdrawn (look s.prefetch ch) = look s.prefetch ch := by
      generalize look s.prefetch ch = p at hwait
      cases p
      cases hwait
      rfl
    rw [same, put_look, withdrawPrefetch, hwait]
  | some r =>
    rw [withdrawPrefetch_eq hwait, requestWithdrawn, hwait]
    rfl

/-- The next state of a channel that halts (R65, R67, R119). -/
theorem haltChannel_halts (h : haltsAtLoss (look s.channels ch) = true) : haltChannel ch s =
    State.raise { s with
      channels := put s.channels ch (haltRecord (look s.channels ch))
      pins := Vector.ofFn fun i => emptyMarkerPath ch (look s.pins i)
      prefetch := put s.prefetch ch (requestWithdrawn (look s.prefetch ch)) } (.halted ch) := by
  rw [haltChannel]
  refine (if_pos h).trans ?_
  dsimp only
  rw [turnPins_eq, withdrawPrefetch_changes]
  rfl

theorem haltChannel_plays_on (h : haltsAtLoss (look s.channels ch) = false) : haltChannel ch s = s :=
  if_neg (Bool.eq_false_iff.mp h)

/-! ### The halt of several channels -/

/-- The channels whose record `f` has changed, when it changes one more. -/
theorem look_put_halted {α : Type} {f : α → α} {v w : Vector α 4}
    (h : ∀ d, look w d = if halted d then f (look v d) else look v d) (ch d : ChanId) :
    look (put w ch (f (look v ch))) d = if halted d || decide (d = ch) then f (look v d) else look v d := by
  by_cases hd : ch = d
  · subst hd
    simp
  · simp [hd, Ne.symm hd, h d]

/-- From `s` to `t` the channels of `halted` have halted, and beside their HALTED flags those at the positions of
`raised` have been set; nothing else has come about (R65, R67, R119). -/
structure Halted (halted : ChanId → Bool) (raised : Nat → Prop) (s t : State) : Prop where
  state : t = { s with
    channels := t.channels
    prefetch := t.prefetch
    pins := t.pins
    links := t.links }
  channel : ∀ ch, look t.channels ch = if halted ch then haltRecord (look s.channels ch) else look s.channels ch
  prefetch : ∀ ch,
    look t.prefetch ch = if halted ch then requestWithdrawn (look s.prefetch ch) else look s.prefetch ch
  pin : ∀ i, look t.pins i = pinHalted halted (look s.pins i)
  flags : FlagsRaised (fun p => raised p ∨ ∃ ch, halted ch = true ∧ p = flagPos (.halted ch)) s.links t.links

namespace Halted

theorem refl (s : State) : Halted (fun _ => false) (fun _ => False) s s where
  state := rfl
  channel _ := rfl
  prefetch _ := rfl
  pin _ := (pinHalted_none fun _ => rfl).symm
  flags := (FlagsRaised.refl s.links).congr fun _ => by simp

theorem raise (f : EventFlag) (h : Halted halted raised s t) :
    Halted halted (fun p => raised p ∨ p = flagPos f) s (t.raise f) := by
  rw [raise_eq]
  refine ⟨?_, h.channel, h.prefetch, h.pin, (h.flags.inBothSets f).congr fun p => or_right_comm⟩
  rw [h.state]

theorem congr {halted' : ChanId → Bool} {raised' : Nat → Prop} (h : Halted halted raised s t)
    (same : ∀ ch, halted ch = halted' ch) (alike : ∀ p, raised p ↔ raised' p) : Halted halted' raised' s t := by
  obtain rfl : halted = halted' := funext same
  obtain rfl : raised = raised' := funext fun p => propext (alike p)
  exact h

/-- A channel that has not halted yet does so if it plays and has halt-on-loss. -/
theorem haltChannel (h : Halted halted raised s t) (hch : halted ch = false) :
    Halted (fun d => halted d || decide (d = ch) && haltsAtLoss (look s.channels ch)) raised s
      (Machine.haltChannel ch t) := by
  have record : look t.channels ch = look s.channels ch := by rw [h.channel, hch, if_neg Bool.false_ne_true]
  have reader : look t.prefetch ch = look s.prefetch ch := by rw [h.prefetch, hch, if_neg Bool.false_ne_true]
  cases halts : haltsAtLoss (look s.channels ch) with
  | false =>
    rw [haltChannel_plays_on (record ▸ halts)]
    exact h.congr (fun d => by rw [Bool.and_false, Bool.or_false]) fun _ => .rfl
  | true =>
    rw [haltChannel_halts (record ▸ halts), record, reader, raise_eq]
    simp only [Bool.and_true]
    refine ⟨?_, fun d => ?_, fun d => ?_, fun i => ?_, (h.flags.inBothSets (.halted ch)).congr fun p => ?_⟩
    · rw [h.state]
    · exact look_put_halted h.channel ch d
    · exact look_put_halted h.prefetch ch d
    · rw [look_ofFn, h.pin i, emptyMarkerPath_pinHalted]
    · simp [or_and_right, exists_or, or_assoc]

end Halted

/-- At a loss of lock every playing channel with halt-on-loss halts, and no other (R65). -/
theorem halted_eachChannel (s : State) :
    Halted (fun ch => haltsAtLoss (look s.channels ch)) (fun _ => False) s (eachChannel haltChannel s) := by
  have every := ((((Halted.refl s).haltChannel (ch := 0) rfl).haltChannel (ch := 1) rfl).haltChannel (ch := 2)
    rfl).haltChannel (ch := 3) rfl
  refine every.congr (fun ch => ?_) fun _ => .rfl
  fin_cases ch <;> simp

/-! ### The end of the gate -/

/-- The gate loses the lock (R159). -/
def losesLock (m : Monitor) : Bool := m.locked && !inWindow m

/-- The gate gains the lock (R159). -/
def gainsLock (m : Monitor) : Bool := !m.locked && inWindow m && m.goodGates == 1

theorem losesLock_iff (m : Monitor) :
    losesLock m = true ↔ m.locked = true ∧ ¬ (m.windowMin ≤ m.edges ∧ m.edges ≤ m.windowMax) := by
  rw [← inWindow_iff]
  simp [losesLock]

theorem gainsLock_iff (m : Monitor) : gainsLock m = true ↔
    m.locked = false ∧ (m.windowMin ≤ m.edges ∧ m.edges ≤ m.windowMax) ∧ m.goodGates = 1 := by
  rw [← inWindow_iff]
  simp [gainsLock, and_assoc]

theorem gainsLock_of_losesLock (h : losesLock m = true) : gainsLock m = false := by
  rw [losesLock, Bool.and_eq_true] at h
  rw [gainsLock, h.1]
  rfl

/-- The end of a gate: beside the monitor's record, the channels a loss halts and the lock's own events (R158 to
R161). -/
theorem halted_gateEnd (s : State) :
    Halted (fun ch => losesLock s.monitor && haltsAtLoss (look s.channels ch))
      (fun p => losesLock s.monitor = true ∧ p = flagPos .lockLost ∨
        gainsLock s.monitor = true ∧ p = flagPos .lockGained)
      { s with monitor := gateRecord s.monitor } (gateEnd s) := by
  let gated : State := { s with monitor := gateRecord s.monitor }
  have branches : gateEnd s = if losesLock s.monitor then (eachChannel haltChannel gated).raise .lockLost
      else if gainsLock s.monitor then gated.raise .lockGained else gated := rfl
  rw [branches]
  cases hloss : losesLock s.monitor with
  | true =>
    have kept := gainsLock_of_losesLock hloss
    exact ((halted_eachChannel gated).raise .lockLost).congr (fun ch => rfl) fun p => by simp [kept]
  | false =>
    cases hgain : gainsLock s.monitor with
    | true => exact ((Halted.refl gated).raise .lockGained).congr (fun ch => rfl) fun p => by simp
    | false => exact (Halted.refl gated).congr (fun ch => rfl) fun p => by simp

/-! ### The parts of the statement -/

/-- What a halt leaves of a pin, by its source (R119). -/
theorem pinHalted_by_source {halts : ChanId → Prop} (hhalts : ∀ ch, halted ch = true ↔ halts ch) (m : MarkerPin) :
    let emptied := fun (ch : ChanId) (level : Bool) =>
      (halts ch → pinHalted halted m = { m with path := List.replicate 24 level }) ∧
      (¬ halts ch → pinHalted halted m = m)
    match m.source with
    | .entryBit ch _ => emptied ch false
    | .running ch => emptied ch false
    | .passToggle ch _ => emptied ch m.toggle
    | _ => pinHalted halted m = m := by
  intro emptied
  have named {c : ChanId} {level : Bool} (h : haltedLevel m = some (c, level)) : emptied c level :=
    ⟨fun hc => (pinHalted_named h).trans (if_pos ((hhalts c).mpr hc)),
      fun hc => (pinHalted_named h).trans (if_neg (mt (hhalts c).mp hc))⟩
  split
  · next hsource => exact named (by rw [haltedLevel, hsource])
  · next hsource => exact named (by rw [haltedLevel, hsource])
  · next hsource => exact named (by rw [haltedLevel, hsource])
  · next hbit hrun htoggle =>
    refine pinHalted_unnamed ?_
    unfold haltedLevel
    split
    · next h => exact absurd h (hbit _ _)
    · next h => exact absurd h (hrun _)
    · next h => exact absurd h (htoggle _ _)
    · rfl

/-- Settles O51: the lock table by `gateRecord_rows`, the rest by the one description of a gate's end. -/
theorem gateEndFollowsTheLockTable : Obligations.GateEndFollowsTheLockTable := by
  unfold Obligations.GateEndFollowsTheLockTable
  intro s
  refine ⟨gateEnd s, rfl, ?_⟩
  intro m good lost halts
  have h := halted_gateEnd s
  have monitor : (gateEnd s).monitor = gateRecord m := by rw [h.state]
  have hlost : losesLock m = true ↔ lost := losesLock_iff m
  have hhalts (ch : ChanId) : (losesLock m && haltsAtLoss (look s.channels ch)) = true ↔ halts ch := by
    rw [Bool.and_eq_true, hlost, haltsAtLoss_iff]
  refine ⟨⟨_, _, monitor, gateRecord_rows m⟩, fun ch => ⟨fun hch => ?_, fun hch => ?_⟩, fun n p => ?_, ?_,
    fun hkept => ?_, fun i => ?_, h.flags.link⟩
  · have halted := (hhalts ch).mpr hch
    have reader : look (gateEnd s).prefetch ch = requestWithdrawn (look s.prefetch ch) :=
      (h.prefetch ch).trans (if_pos halted)
    rw [reader]
    exact ⟨(h.channel ch).trans (if_pos halted), rfl, rfl⟩
  · have halted := mt (hhalts ch).mp hch
    exact ⟨(h.channel ch).trans (if_neg halted), (h.prefetch ch).trans (if_neg halted)⟩
  · have hgain : gainsLock m = true ∧ p = 35 ↔ m.locked = false ∧ good ∧ m.goodGates = 1 ∧ p = 35 := by
      rw [gainsLock_iff, and_assoc, and_assoc]
    refine (h.flags.flag n p).trans (or_congr_right (or_assoc.trans ?_))
    exact or_congr (and_congr_left' hlost) (or_congr hgain (exists_congr fun ch => and_congr_left' (hhalts ch)))
  · rw [monitor]
    exact h.state
  · have kept : losesLock s.monitor = false := Bool.eq_false_iff.mpr (mt hlost.mp hkept)
    refine vector_ext_look fun i => (h.pin i).trans (pinHalted_none fun ch => ?_)
    rw [kept, Bool.false_and]
  · rw [h.pin i]
    exact pinHalted_by_source hhalts (look s.pins i)

end Sys2Proof.Machine
end

-- ==== Transfers a link hears, drops or ignores ====
section
/-! SUPPORT. A transfer at a link by the link's record: ignored under a reset (R176, R177), flagged and nothing else
(R167, R168), or judged. That every command's frame is such a transfer, taken under the command's own code, is said once
for all commands. -/

namespace Sys2Proof.Machine

open Sys2Proof

variable {s : State} {n : LinkId}

/-! ### The three fates of a transfer -/

theorem hearTransfer_inReset (judge : State → State) (h : (look s.links n).inReset = true) :
    hearTransfer n judge s = s := if_pos h

theorem hearTransfer_ignoring (judge : State → State) (hreset : (look s.links n).inReset = false)
    (h : (look s.links n).ignoring = true) :
    hearTransfer n judge s = { s with links := put s.links n { look s.links n with ignoring := false } } := by
  rw [hearTransfer, hreset, h]
  rfl

theorem hearTransfer_heard (judge : State → State) (h : Hears s n) : hearTransfer n judge s = judge s := by
  rw [hearTransfer, h.1, h.2]
  rfl

/-- A link that drives zeros and has an event of its own LINK group is the flagged link of the statements. -/
theorem raiseOn_driveZeros (f : EventFlag) (bytes : Nat) (s : State) :
    (driveZeros n bytes s).raiseOn n f = { s with links := heardAndFlagged n bytes (flagPos f) s.links } := by
  simp only [driveZeros, State.raiseOn, State.modLink, look_put_same, put_put]
  rfl

/-- A well-framed frame at an EXECUTING or HOLDING link is dropped unjudged (R168). -/
theorem takeFrame_busy (tag code : Byte) {payload : List Byte} (judge : State → State) (h : Hears s n)
    (hbusy : (look s.links n).phase ≠ .free) (hfit : payload.length ≤ 2056) :
    takeFrame n tag code payload judge s =
      { s with links := heardAndFlagged n (5 + payload.length) 39 s.links } := by
  have fits : ¬ Config.receiveBuffer < payload.length := Nat.not_lt.mpr hfit
  have phase : (look (driveZeros n (5 + payload.length) s).links n).phase = (look s.links n).phase := by
    rw [driveZeros_eq, look_put_same]
  rw [takeFrame, hearTransfer_heard _ h, judgeFrame, if_neg fits, phase]
  cases hphase : (look s.links n).phase with
  | free => exact absurd hphase hbusy
  | executing tag work => exact raiseOn_driveZeros .commandDropped _ s
  | holding r => exact raiseOn_driveZeros .commandDropped _ s

/-! ### Every command's frame -/

/-- The row UNKNOWN_COMMAND with a code that names no command is that command frame taken and refused. -/
theorem exec_unknownCommand (tag : Byte) {code : Byte} (payload : List Byte) (s : State)
    (h : namesCommand code = false) :
    exec (.unknownCommand n tag code payload) s =
      .next (takeFrame n tag code payload (refuse n tag .unknownCommand) s) :=
  congrArg Host.Outcome.next (if_neg (Bool.eq_false_iff.mp h))

/-- A well-formed command with a frame fits the receive buffer, and it is that frame taken by its link, under the
frame's own code, and judged. -/
theorem exec_frame {c : Instr} {tag code : Byte} {payload : List Byte}
    (hframe : c.frame = some (n, tag, code, payload)) (hwf : c.wf = true) :
    payload.length ≤ 2056 ∧ ∃ judge, ∀ s, exec c s = .next (takeFrame n tag code payload judge s) := by
  cases c with
  | powerOnReset | linkReset | linkResetRelease | frameError | commandDropped | responseFetch | outputTick
  | conditionFiring | holdoffExpiry | passEnd | markerPulseEnd | measurementGateEnd | scrubExpiry | storeGrant
  | zeroFillWriteEnd | writeSamplesTransferEnd | readSamplesLineEnd | prefetchReadEnd | scrubReadEnd | markWriteEnd
  | writeBackEnd => cases hframe
  | unknownCommand m t k p =>
    cases hframe
    obtain ⟨unnamed, fits⟩ : (!namesCommand code) = true ∧ payloadFits payload = true :=
      Bool.and_eq_true_iff.mp hwf
    exact ⟨of_decide_eq_true fits, _, fun s => exec_unknownCommand tag payload s (by simpa using unnamed)⟩
  | _ =>
    cases hframe
    exact ⟨of_decide_eq_true hwf, _, fun _ => rfl⟩

/-- A well-formed FRAME_ERROR row is a transfer on its link, with bytes that fail the checks or with none. -/
theorem exec_frameError {bytes : List Byte} (hwf : (Instr.frameError n bytes).wf = true) :
    ∃ judge, ∀ s, exec (.frameError n bytes) s = .next (hearTransfer n judge s) := by
  cases bytes with
  | nil => exact ⟨id, execFrameError_no_bytes n⟩
  | cons kind rest =>
    have fails : frameFails (kind :: rest) = true := (Bool.or_false _).symm.trans hwf
    exact ⟨_, fun s => congrArg Host.Outcome.next (if_pos fails)⟩

/-- Settles O7: frames, frame errors and fetches are transfers on their link, and hearing one ignores it. -/
theorem silencedLinkIgnoresTransfers : Obligations.SilencedLinkIgnoresTransfers := by
  unfold Obligations.SilencedLinkIgnoresTransfers
  refine ⟨fun _ => rfl, fun c n s hc hwf => ?_⟩
  obtain ⟨judge, hexec⟩ : ∃ judge, exec c s = .next (hearTransfer n judge s) := by
    obtain ⟨tag, code, payload, hframe⟩ | ⟨bytes, rfl⟩ | ⟨count, rfl⟩ := hc
    · obtain ⟨-, judge, hexec⟩ := exec_frame hframe hwf
      exact ⟨_, hexec s⟩
    · obtain ⟨judge, hexec⟩ := exec_frameError hwf
      exact ⟨judge, hexec s⟩
    · exact ⟨fetchResponse n count, rfl⟩
  rw [hexec]
  exact ⟨fun hreset => congrArg _ (hearTransfer_inReset judge hreset),
    fun hreset hignore => congrArg _ (hearTransfer_ignoring judge hreset hignore)⟩

/-- Settles O9: the row is a frame that is judged by nothing, and every other frame is taken as that one. -/
theorem busyLinkDropsFrames : Obligations.BusyLinkDropsFrames := by
  unfold Obligations.BusyLinkDropsFrames
  intro n tag code payload s h hbusy hfit
  refine ⟨?_, fun c hframe hwf => ?_⟩
  · have row : exec (.commandDropped n tag code payload) s = .next (takeFrame n tag code payload id s) :=
      congrArg Host.Outcome.next (if_neg hbusy)
    rw [row, takeFrame_busy tag code id h hbusy hfit]
  · obtain ⟨-, judge, hexec⟩ := exec_frame hframe hwf
    rw [hexec, takeFrame_busy tag code judge h hbusy hfit]

end Sys2Proof.Machine
end

-- ==== The framing checks and the command codes ====
section
/-! SUPPORT. The framing checks of R167 byte by byte, and the table of codes and payload lengths of spec 10 section
10.7.2 as a list. -/

namespace Sys2Proof.Machine

open Sys2Proof

variable {s : State} {n : LinkId}

/-! ### The framing checks -/

/-- A transfer with a first byte fails the checks by its kind byte, or as a command frame by its length. -/
theorem frameFails_cons_iff (kind : Byte) (rest : List Byte) :
    frameFails (kind :: rest) = true ↔
      (kind ≠ 0xC1#8 ∧ kind ≠ 0xD2#8) ∨
        (kind = 0xC1#8 ∧ (rest.length < 4 ∨ 2056 < (rest.getD 2 0#8).toNat + 256 * (rest.getD 3 0#8).toNat ∨
          rest.length - 4 ≠ (rest.getD 2 0#8).toNat + 256 * (rest.getD 3 0#8).toNat)) := by
  have field : payloadLengthField (kind :: rest) = (rest.getD 2 0#8).toNat + 256 * (rest.getD 3 0#8).toNat := rfl
  by_cases hkind : kind = 0xC1#8
  · subst hkind
    have short : rest.length + 1 < 5 ↔ rest.length < 4 := Nat.succ_lt_succ_iff
    simp [frameFails, field, short, Config.receiveBuffer, or_assoc]
  · simp [frameFails, hkind]

/-- Settles O8: by the framing checks as `frameFails_cons_iff` writes them. -/
theorem frameErrorByTheFramingChecks : Obligations.FrameErrorByTheFramingChecks := by
  unfold Obligations.FrameErrorByTheFramingChecks
  refine ⟨fun n s h => congrArg _ (hearTransfer_heard id h), ?_⟩
  intro n kind rest s h field fails
  have checks : frameFails (kind :: rest) = true ↔ fails := frameFails_cons_iff kind rest
  refine ⟨fun hfails => ?_, fun hpass => ?_⟩
  · have row : exec (.frameError n (kind :: rest)) s =
        .next (hearTransfer n (fun u => (driveZeros n (rest.length + 1) u).raiseOn n .frameError) s) :=
      congrArg Host.Outcome.next (if_pos (checks.mpr hfails))
    rw [row, hearTransfer_heard _ h, raiseOn_driveZeros, Nat.add_comm]
    rfl
  · have passes : ¬ frameFails (kind :: rest) = true := mt checks.mp hpass
    exact ⟨congrArg Host.Outcome.next (if_neg passes), (Bool.or_false _).trans (Bool.eq_false_iff.mpr passes)⟩

/-! ### The command codes -/

/-- The codes of the commands with a payload of one fixed length, and that length (spec 10 section 10.7.2). -/
def fixedLengths : List (Nat × Nat) :=
  [(0x01, 0), (0x10, 4), (0x12, 5), (0x13, 1), (0x14, 1), (0x15, 7), (0x16, 1), (0x17, 4), (0x18, 0), (0x20, 17),
    (0x21, 2), (0x22, 4), (0x23, 3), (0x24, 1), (0x25, 1), (0x26, 3), (0x27, 1), (0x30, 2), (0x31, 2), (0x32, 2),
    (0x33, 6), (0x34, 6), (0x35, 6), (0x36, 1), (0x40, 10), (0x41, 2), (0x42, 1), (0x43, 2), (0x48, 4), (0x49, 0),
    (0x50, 4), (0x51, 0), (0x52, 0), (0x58, 4), (0x59, 0), (0x60, 0), (0x61, 6), (0x62, 6)]

/-- But for WRITE_SAMPLES, whose length is its own matter, a code's layout is its place in the list. -/
theorem layoutAllows_eq_lookup {code : Byte} (h : code ≠ 0x11#8) (len : Nat) :
    layoutAllows code len = (fixedLengths.lookup code.toNat).map fun k => decide (len = k) := by
  have hwrite : code.toNat ≠ 0x11 := fun e => h (BitVec.eq_of_toNat_eq e)
  unfold layoutAllows
  split
  case h_3 e => exact absurd e hwrite
  case h_40 =>
    have unlisted : fixedLengths.lookup code.toNat = none := by
      refine List.lookup_eq_none_iff.mpr ?_
      simp only [fixedLengths, List.forall_mem_cons, List.not_mem_nil, false_imp_iff, implies_true, and_true,
        bne_iff_ne]
      and_intros <;> assumption
    rw [unlisted]
    rfl
  all_goals
    next e => rw [e]; rfl

/-- Whether a code names a command does not hang on a length. -/
theorem namesCommand_eq (code : Byte) (len : Nat) : namesCommand code = (layoutAllows code len).isSome := by
  unfold namesCommand layoutAllows
  split <;> rfl

theorem layoutAllows_fixed : ∀ x ∈ fixedLengths, ∀ len,
    layoutAllows (BitVec.ofNat 8 x.1) len = some (decide (len = x.2)) := by
  have listed : ∀ x ∈ fixedLengths, BitVec.ofNat 8 x.1 ≠ 0x11#8 ∧
      fixedLengths.lookup (BitVec.ofNat 8 x.1).toNat = some x.2 := by decide
  intro x hx len
  obtain ⟨hcode, hlookup⟩ := listed x hx
  rw [layoutAllows_eq_lookup hcode, hlookup]
  rfl

theorem layoutAllows_unlisted {code : Byte} (h : code ≠ 0x11#8) (hout : ∀ x ∈ fixedLengths, code.toNat ≠ x.1)
    (len : Nat) : layoutAllows code len = none := by
  have unlisted : fixedLengths.lookup code.toNat = none :=
    List.lookup_eq_none_iff.mpr fun x hx => bne_iff_ne.mpr (hout x hx)
  rw [layoutAllows_eq_lookup h, unlisted]
  rfl

theorem layoutAllows_writeSamples (len : Nat) :
    layoutAllows 0x11#8 len = some (decide (7 ≤ len ∧ (len - 7) % 2 = 0)) := by
  rw [Bool.decide_and]
  rfl

/-- Settles O10: the two refusals as frames taken, the table by its list. -/
theorem unknownCodesAndWrongLengths : Obligations.UnknownCodesAndWrongLengths := by
  unfold Obligations.UnknownCodesAndWrongLengths
  refine ⟨fun n tag code payload s h hfit hcode => ?_, fun c n tag code payload s hframe hwf h hlayout => ?_,
    ⟨layoutAllows_fixed, fun code => layoutAllows_unlisted⟩, layoutAllows_writeSamples⟩
  · have unnamed : namesCommand code = false := by rw [namesCommand_eq code payload.length, hcode]; rfl
    exact exec_responds (exec_unknownCommand tag payload s unnamed) h rfl hfit (by simp [hcode]) rfl
  · obtain ⟨hfit, judge, hexec⟩ := exec_frame hframe hwf
    obtain ⟨⟨hreset, hignore⟩, hphase⟩ := h
    rw [hexec, takeFrame_badLength tag judge hreset hignore hphase hfit hlayout]
    exact congrArg _ (respond_heard tag .badLength [] rfl)

end Sys2Proof.Machine
end

-- ==== IDENTIFY, the response fetch and the power-on reset ====
section
/-! SUPPORT. The bytes a fetch sends and what it leaves of the link (R171, R172), IDENTIFY's answer (R174) and the links
after RESETn (R177). -/

namespace Sys2Proof.Machine

open Sys2Proof

variable {s : State} {n : LinkId}

/-- Settles O11: IDENTIFY is a frame that responds at once with its fourteen bytes. -/
theorem identifyReportsTheFixedPart : Obligations.IdentifyReportsTheFixedPart := by
  unfold Obligations.IdentifyReportsTheFixedPart
  intro n tag s h
  exact exec_responds (code := 0x01#8) rfl h rfl (Nat.zero_le _) (by decide) rfl

/-- Under a fetch of a link that holds no response the part drives zeros, the ready byte among them. -/
theorem fetchBytes_unready {phase : LinkPhase} (h : ∀ r, phase ≠ .holding r) (count : Nat) :
    fetchBytes phase count = List.replicate count 0#8 := by
  have zeros : ([0#8, 0#8] ++ List.replicate count 0#8).take count = List.replicate count 0#8 := by
    change (List.replicate 2 0#8 ++ _).take count = _
    rw [List.replicate_append_replicate, List.take_replicate, Nat.min_eq_left (Nat.le_add_left count 2)]
  cases phase with
  | free => exact zeros
  | executing tag work => exact zeros
  | holding r => exact absurd rfl (h r)

theorem fetchedWhole_unready {phase : LinkPhase} (h : ∀ r, phase ≠ .holding r) (count : Nat) :
    fetchedWhole phase count = false := by
  cases phase with
  | free => rfl
  | executing tag work => rfl
  | holding r => exact absurd rfl (h r)

/-- A fetch that a link hears changes the bytes driven and the phase of that link and nothing else. -/
theorem exec_responseFetch {count : Nat} (h : Hears s n) (hcount : 1 ≤ count) :
    exec (.responseFetch n count) s = .next { s with links := put s.links n { look s.links n with
      sdo := fetchBytes (look s.links n).phase count
      phase := if fetchedWhole (look s.links n).phase count then .free else (look s.links n).phase } } := by
  have fetched : fetchResponse n count s = _ := if_neg (Nat.ne_of_gt hcount)
  exact congrArg Host.Outcome.next ((hearTransfer_heard _ h).trans fetched)

/-- Settles O12: the bytes and the consumption by the link's phase. -/
theorem fetchSendsTheHeldResponse : Obligations.FetchSendsTheHeldResponse := by
  unfold Obligations.FetchSendsTheHeldResponse
  intro n count s h hcount
  rw [exec_responseFetch h hcount]
  refine ⟨fun r hphase => ?_, fun hphase => ?_⟩
  · simp only [hphase, fetchedWhole, decide_eq_true_eq]
    rfl
  · rw [fetchBytes_unready hphase, fetchedWhole_unready hphase]
    rfl

/-- Settles O5: the row's own next state, its links one by one. -/
theorem powerOnResetRestoresEveryBlock : Obligations.PowerOnResetRestoresEveryBlock := by
  unfold Obligations.PowerOnResetRestoresEveryBlock
  intro selected s
  refine ⟨_, rfl, fun n => ?_⟩
  rw [look_ofFn, reset_link]
  rfl

end Sys2Proof.Machine
end

-- ==== The queue ====
section
/-! SUPPORT. What a step does while commands wait in the queue; on an empty one it is `step_of_empty_queue`. -/

namespace Sys2Proof.Machine

open Sys2Proof

/-- Settles O1: the step's own branch for a queue with a command at its front. -/
theorem stepRunsTheFrontCommand : Obligations.StepRunsTheFrontCommand := by
  unfold Obligations.StepRunsTheFrontCommand
  intro c rest s h
  rw [step, h]

end Sys2Proof.Machine
end
